-- ==== Sys2Proof/Word.lean ====
section
/-! DEFINITION. The bit-level words of the steering ring (0.5.3, chapter 12): bytes, 16-bit words,
node addresses, tags. Everything else the manual counts or measures is a Nat or an Int. -/

namespace Sys2Proof

/-- One byte on the ring (R154). -/
abbrev Byte := BitVec 8

/-- A word of a frame: 16 bits, big-endian on the ring, bit 0 the least significant (0.5.3). -/
abbrev Word := BitVec 16

/-- A node address, 0 to 63 (0.5.3): 0 the ring master, 63 broadcast. -/
abbrev Addr := BitVec 6

/-- A frame's tag, 0 to 1023 (Table 12.1). -/
abbrev Tag := BitVec 10

/-- A bogie, 0 to 3 (0.5.3). -/
abbrev BogieId := Fin 4

/-- A channel, 0 to 7: channel 2b leads and channel 2b+1 trails bogie b (0.5.3). -/
abbrev ChannelId := Fin 8

end Sys2Proof
end

