-- ==== Sys2Proof/Syntax.lean ====
section
/-! DEFINITION. The commands of the SK-48: one constructor per row of spec/opcode_table.json, in the
table's order, each with the operands the row's own rule gives it. The table has no bits for a row;
how a command comes to the part is said in the assumption log (4, 5, 6, 7). -/

namespace Sys2Proof

/-- Where a MANAGE frame came from: its source, its tag and whether it was broadcast (R180, R181). -/
structure Origin where
  source    : Addr
  tag       : Tag
  broadcast : Bool
  deriving DecidableEq, Repr

/-- A burst as its line falls idle: the bytes (R154), and what the straps read then, for a frame that leads
to a key reset (R165, R190; log 19). -/
structure Burst where
  bytes  : List Byte
  straps : Addr
  deriving DecidableEq, Repr

/-- A reset confirmation: the request data (R189), and what the straps read then, for a REPLY that the queue
refuses (R165, R190; log 19). -/
structure Confirmation where
  words  : List Word
  straps : Addr
  deriving DecidableEq, Repr

/-- A frame delivered to a block: source, tag and payload words (R158). -/
structure Delivery where
  source  : Addr
  tag     : Tag
  payload : List Word
  deriving DecidableEq, Repr

/-- The payload fields of an ECHO after its kind word (R127, Table 12.2). -/
structure Echo where
  receivedLead  : Word
  receivedTrail : Word
  measuredLead  : Word
  measuredTrail : Word
  status        : Word
  deriving DecidableEq, Repr

/-- One of the sixteen slots of the Sample Intake (0.5.3). -/
inductive SlotName where
  | pulse (n : Fin 8)
  | gap (n : Fin 8)
  deriving DecidableEq, Repr

/-- The commands, row by row of spec/opcode_table.json. -/
inductive Instr where
  /-- POWER_ON_RESET (R172); the operand is what the six straps read (R165). -/
  | powerOnReset (straps : Addr)
  /-- RESET_LINE (R172); the operand is what the six straps read (R165). -/
  | resetLine (straps : Addr)
  /-- FRAME_CLOSE (R155): the burst that the idle line closed. -/
  | frameClose (burst : Burst)
  /-- SAMPLE (R7): a delivered SAMPLE frame. -/
  | sample (frame : Delivery)
  /-- ANSWER (R128): a delivered ECHO of kind ANSWER. -/
  | answer (source : Addr) (tag : Tag) (echo : Echo)
  /-- NOTICE (R135): a delivered ECHO of kind NOTICE. -/
  | notice (source : Addr) (tag : Tag) (echo : Echo)
  /-- SEGMENT (R61): a delivered SEGMENT frame. -/
  | segment (frame : Delivery)
  /-- CYCLE (R141): a delivered CYCLE frame. -/
  | cycle (frame : Delivery)
  /-- RETURNED_COMMAND (R131): the destination and tag of the frame that came back. -/
  | returnedCommand (destination : Addr) (tag : Tag)
  /-- RETURNED_FETCH (R75): the segment that the FETCH names. -/
  | returnedFetch (segment : Word)
  /-- RETURNED_REPLY (R157). -/
  | returnedReply
  /-- SUBSTITUTE_TIMER_EXPIRY (R144). -/
  | substituteTimerExpiry
  /-- SAMPLE_EXPIRED (R11): the slot whose record is too old. -/
  | sampleExpired (slot : SlotName)
  /-- FETCH_TIMEOUT (R74): the segment of the entry. -/
  | fetchTimeout (segment : Word)
  /-- ECHO_TIMEOUT (R130): the bogie whose command timed out. -/
  | echoTimeout (bogie : BogieId)
  /-- POSITION_UPDATE (R19). -/
  | positionUpdate
  /-- BOGIE_DETERMINATION (R87), of the bogie whose turn it is (R84). -/
  | bogieDetermination
  /-- SHAPING (R109), of the oldest steering result handed on. -/
  | shaping
  /-- SUPERVISION_EXPIRY (R150). -/
  | supervisionExpiry
  /-- OUT_SELECTION (R163). -/
  | outSelection
  /-- REPLY_LEFT_OUT (R164); the operand is what the straps read, should a key reset follow (R190). -/
  | replyLeftOut (straps : Addr)
  /-- STATUS_READ (R188): argument B is the page; `data` is the request data after word 0. -/
  | statusRead (origin : Origin) (page : Byte) (data : List Word)
  /-- TABLE_READ (R188): argument A the table, B the index. -/
  | tableRead (origin : Origin) (table : BitVec 4) (index : Byte) (data : List Word)
  /-- TABLE_WRITE_SOURCE (R3): argument B the index, the entry as request data. -/
  | tableWriteSource (origin : Origin) (index : Byte) (entry : List Word)
  /-- TABLE_WRITE_AXLE (R16). -/
  | tableWriteAxle (origin : Origin) (index : Byte) (entry : List Word)
  /-- TABLE_WRITE_BOGIE (R121). -/
  | tableWriteBogie (origin : Origin) (index : Byte) (entry : List Word)
  /-- TABLE_WRITE_CHANNEL (R106). -/
  | tableWriteChannel (origin : Origin) (index : Byte) (entry : List Word)
  /-- TABLE_WRITE_GAIN_SCHEDULE (R82). -/
  | tableWriteGainSchedule (origin : Origin) (index : Byte) (entry : List Word)
  /-- TABLE_WRITE_BEACON (R42). -/
  | tableWriteBeacon (origin : Origin) (index : Byte) (entry : List Word)
  /-- TABLE_WRITE_PARAMETER (R187). -/
  | tableWriteParameter (origin : Origin) (index : Byte) (entry : List Word)
  /-- STATE_SET_CONFIG (R168). -/
  | stateSetConfig (origin : Origin) (data : List Word)
  /-- STATE_SET_STANDBY (R168). -/
  | stateSetStandby (origin : Origin) (data : List Word)
  /-- STATE_SET_ACTIVE (R168). -/
  | stateSetActive (origin : Origin) (data : List Word)
  /-- POSITION_SET (R35): argument B the number of trail entries. -/
  | positionSet (origin : Origin) (count : Byte) (data : List Word)
  /-- ROUTE_APPEND (R32): argument B the number of entries. -/
  | routeAppend (origin : Origin) (count : Byte) (data : List Word)
  /-- ROUTE_CLEAR (R33). -/
  | routeClear (origin : Origin) (data : List Word)
  /-- DIAG_ACK (R176): the mask as request data, high word first. -/
  | diagAck (origin : Origin) (data : List Word)
  /-- CACHE_INVALIDATE (R76) of one segment: argument A is not 1. -/
  | cacheInvalidate (origin : Origin) (data : List Word)
  /-- CACHE_INVALIDATE_ALL (R77): argument A is 1. -/
  | cacheInvalidateAll (origin : Origin) (data : List Word)
  /-- CACHE_READ (R78): set, way and part as request data. -/
  | cacheRead (origin : Origin) (data : List Word)
  /-- CHANNEL_READ (R188): argument A the part, B the bogie. -/
  | channelRead (origin : Origin) (part : BitVec 4) (bogie : Byte) (data : List Word)
  /-- RESET_PREPARE (R189). -/
  | resetPrepare (origin : Origin) (data : List Word)
  /-- RESET_CONFIRM (R189). -/
  | resetConfirm (origin : Origin) (data : Confirmation)
  /-- REFUSED_FUNCTION (R182): a function number that names no request. -/
  | refusedFunction (origin : Origin) (function : BitVec 4) (data : List Word)
  /-- LINE_IDLE (R154). -/
  | lineIdle
  /-- FRAME_TRANSMISSION_END (R163). -/
  | frameTransmissionEnd
  deriving DecidableEq, Repr

end Sys2Proof
end

