-- ==== Sys2Proof/Decode.lean ====
section
/-! DEFINITION. The command that a word spells by the bits of spec/opcode_table.json. The table gives
no row any bits (its rows have no fields), so no word spells a command. How a frame on the ring is
read is no matter of this file: Machine/Operands.lean reads headers, payloads and table entries. -/

namespace Sys2Proof

/-- No row of the table has bits: every word spells no command. -/
def decodeTableWord (_nbits _w : Nat) : Option Instr := none

end Sys2Proof
end

