-- ==== Sys2Proof/Machine/Arith.lean ====
section
/-! DEFINITION. The arithmetic of R1: rounding to nearest with ties away from zero, floor, signed
16-bit differences, the median, limits. Products and sums are exact, in Nat and Int. -/

namespace Sys2Proof.Machine

/-- `n / d` rounded to the nearest integer, ties away from zero (R1). -/
def roundDiv (n : Int) (d : Nat) : Int :=
  if n < 0 then -(((2 * n.natAbs + d) / (2 * d) : Nat) : Int)
  else (((2 * n.natAbs + d) / (2 * d) : Nat) : Int)

/-- `n / d` rounded towards minus infinity, for a positive `d` (R1). -/
def floorDiv (n : Int) (d : Nat) : Int := n / (d : Int)

/-- A difference of two 16-bit counts taken as signed, −32768 to +32767 (R1). -/
def signedDiff (x y : Int) : Int := Int.bmod (x - y) 65536

/-- The median (R1): the middle value of an odd number of values, the floor of the mean of the two
middle values of an even number; 0 for no value, which no rule asks for. -/
def median (values : List Int) : Int :=
  let sorted := values.insertionSort (· ≤ ·)
  let n := sorted.length
  if n % 2 = 1 then sorted.getD (n / 2) 0
  else floorDiv (sorted.getD (n / 2 - 1) 0 + sorted.getD (n / 2) 0) 2

/-- `x` limited to `lo` … `hi`. -/
def limitNat (lo hi x : Nat) : Nat := if x < lo then lo else if hi < x then hi else x

/-- `x` limited to `lo` … `hi`. -/
def limitInt (lo hi x : Int) : Int := if x < lo then lo else if hi < x then hi else x

/-- The sum of a list of distances. -/
def sumInt (xs : List Int) : Int := xs.foldr (· + ·) 0

/-- The elements of a list with only the first of equal ones kept, in order. -/
def firstOccurrences : List Nat → List Nat
  | [] => []
  | x :: xs => x :: (firstOccurrences xs).filter (· ≠ x)

end Sys2Proof.Machine
end

