-- ==== Sys2Proof/Config.lean ====
section
/-! DEFINITION. What the SK-48 is built with: the sizes the chapters give its buffers, the limits
that rules name as numbers, and the one pin level at reset that the manual does not give. -/

namespace Sys2Proof.Config

/-- What the address straps read in `State.reset`. DESIGN CHOICE (log 1): the straps are pins and the
manual gives them no level; its worked examples (9.9, 10.7) use a part whose straps give 40. -/
def resetStraps : Addr := 40

/-- The broadcast address (0.5.3). -/
def broadcast : Addr := 63

/-- The ring master's address (0.5.3). -/
def ringMaster : Addr := 0

/-- Frames the forward buffer holds (R159). -/
def forwardCapacity : Nat := 4

/-- Frames the transmit queue holds (R160). -/
def queueCapacity : Nat := 12

/-- Payload words a frame holds at most (R155). -/
def maxPayload : Nat := 24

/-- Bytes of a burst that the receive assembler keeps (R154). -/
def maxBurst : Nat := 53

/-- Entries of the outstanding fetch table (R71). -/
def fetchCapacity : Nat := 4

/-- Cycle marks at which an outstanding fetch entry is freed (R74). -/
def fetchTimeout : Nat := 8

/-- Entries of the route queue (R32). -/
def routeCapacity : Nat := 16

/-- Entries of the trail list (R31). -/
def trailCapacity : Nat := 8

/-- Distances of the speed history (R24). -/
def historyCapacity : Nat := 8

/-- The hold counter's last value (R22). -/
def holdLimit : Nat := 9

/-- The end overrun, in µm, beyond which the position is lost (R29). -/
def overrunLimit : Nat := 2000000

/-- The largest offset, in µm (R30). -/
def offsetLimit : Nat := 65535999

/-- The highest speed, in mm/s (R24). -/
def speedLimit : Nat := 30000

/-- The longest look-ahead distance, in mm (R90). -/
def lookAheadLimit : Nat := 5000

/-- The largest curvature, in counts (R60). -/
def curvatureLimit : Int := 8000

/-- The largest lateral offset, in 0.1 mm (R9). -/
def gapLimit : Int := 200

end Sys2Proof.Config
end

