-- ==== Sys2Proof/Machine/State.lean ====
section
/-! DEFINITION. The state of the SK-48 as plain data: the tables, the eleven blocks of Table 0.1, the
strap pins and the queue of waiting commands; the outcomes' reasons; the state right after a power-on
reset. Fields marked MODEL are not named by the manual: they hold the point the cycle's chain of block
events has reached (0.3.2), or the echo timeout of the last mark, mark which REPLY answers a confirmed reset, or
hold what comes from outside. -/

namespace Sys2Proof.Machine

/-! ## Tables (chapters 1 to 8; kept by a key reset) -/

/-- Where a Source Table entry sends an item: its kind and slot in one (chapter 1). -/
inductive SlotTarget where
  | pulse (n : Fin 8)
  | gap (n : Fin 8)
  | beacon (n : Fin 2)
  deriving DecidableEq, Repr

/-- A valid Source Table entry (chapter 1). -/
structure SourceEntry where
  node   : Nat
  item   : Nat
  target : SlotTarget
  maxAge : Nat
  deriving DecidableEq, Repr

/-- A used axle table entry (Table 2.1). -/
structure AxleEntry where
  umPerPulse : Nat
  slot       : Fin 8
  odometry   : Bool
  deriving DecidableEq, Repr

/-- A bogie table entry (Tables 2.2 and 7.1). -/
structure BogieEntry where
  enabled     : Bool
  echoCompare : Bool
  actuator    : Nat
  pivot       : Nat
  semi        : Nat
  deriving DecidableEq, Repr

/-- A channel table entry (Table 6.1). -/
structure ChannelEntry where
  gain       : Nat
  trim       : Int
  codeMin    : Nat
  codeMax    : Nat
  slew       : Nat
  fallback   : Nat
  thetaMax   : Nat
  trackLimit : Nat
  trackCount : Nat
  deriving DecidableEq, Repr

/-- A gain schedule entry (Table 5.1). -/
structure GainEntry where
  lookAheadTime : Nat
  gain          : Nat
  deriving DecidableEq, Repr

/-- A valid beacon table entry (Table 3.1). -/
structure BeaconEntry where
  ident   : Nat
  segment : Nat
  offset  : Nat
  deriving DecidableEq, Repr

/-- The parameter table's one entry (R18, R43, R69, R83, R108, R123, R140). -/
structure ParamEntry where
  period      : Nat
  timeout     : Nat
  keepAlive   : Bool
  standstill  : Nat
  readerOffset : Vector Nat 2
  readerAxle  : Vector (Fin 8) 2
  window      : Nat
  drift       : Nat
  threshold1  : Nat
  threshold2  : Nat
  threshold3  : Nat
  horizon     : Nat
  fallbackStep : Nat
  echoTimeout : Nat
  deriving DecidableEq, Repr

/-- All seven tables (R186). An entry that is not valid, or unused, is absent: it reads back as zeros. -/
structure Tables where
  source  : Vector (Option SourceEntry) 24
  axle    : Vector (Option AxleEntry) 8
  bogie   : Vector BogieEntry 4
  channel : Vector ChannelEntry 8
  gain    : Vector GainEntry 16
  beacon  : Vector (Option BeaconEntry) 64
  param   : ParamEntry
  deriving DecidableEq, Repr

/-! ## Ring Port Unit (chapter 9) -/

/-- What a FETCH asks for, and what a need names (R72, R73). -/
structure Need where
  segment : Nat
  header  : Bool
  blocks  : BitVec 8
  deriving DecidableEq, Repr

/-- A COMMAND frame in the transmit queue (R125), marked with its bogie (R160). -/
structure CommandFrame where
  bogie       : BogieId
  destination : Addr
  tag         : Tag
  fallback    : Bool
  lead        : Nat
  trail       : Nat
  deriving DecidableEq, Repr

/-- A REPLY in the transmit queue (R181). `confirms` is MODEL: it answers a confirmed reset (R190). -/
structure ReplyFrame where
  destination : Addr
  tag         : Tag
  payload     : List Word
  confirms    : Bool
  deriving DecidableEq, Repr

/-- A frame of the transmit queue's other group (R160). -/
inductive OtherFrame where
  | fetch (need : Need)
  | reply (frame : ReplyFrame)
  deriving DecidableEq, Repr

/-- The origin of the frame in transmission (chapter 9). -/
inductive TxOrigin where
  | forwarded
  | command
  | fetch
  | reply (confirms : Bool)
  deriving DecidableEq, Repr

/-- The frame in transmission: its origin and its bytes, check byte included. -/
structure Transmission where
  origin : TxOrigin
  bytes  : List Byte
  deriving DecidableEq, Repr

/-- The receive assembler (R154): whether it still waits for an idle line after a reset, the bytes
kept of the burst being received, and how many bytes the burst has had. -/
structure Assembler where
  waitIdle : Bool
  kept     : List Byte
  count    : Nat
  deriving DecidableEq, Repr

/-- The Ring Port Unit's state. `gap`: the 2-byte-time gap after the last frame sent has not passed
(R163). -/
structure Rpu where
  own          : Addr
  assembler    : Assembler
  forward      : List (List Byte)
  commands     : List CommandFrame
  others       : List OtherFrame
  sending      : Option Transmission
  gap          : Bool
  forwardCount : Nat
  deriving DecidableEq, Repr

/-! ## Sample Intake (chapter 1) -/

/-- A slot's freshness (R5). -/
inductive Freshness where
  | empty
  | fresh
  | stale
  deriving DecidableEq, Repr

/-- A stored value with its arrival cycle. -/
structure Stamped where
  value   : Int
  arrival : Nat
  deriving DecidableEq, Repr

/-- A slot: its latest record and its cycle view (chapter 1, slot records). -/
structure Slot where
  latest  : Option Stamped
  expired : Bool
  view    : Option Stamped
  state   : Freshness
  deriving DecidableEq, Repr

/-- An emptied slot (R5). -/
def Slot.emptied : Slot := { latest := none, expired := false, view := none, state := .empty }

/-- The Sample Intake's state: `previous` is the previous count each pulse slot carries. -/
structure Sit where
  pulse    : Vector Slot 8
  gap      : Vector Slot 8
  previous : Vector (Option Int) 8
  deriving DecidableEq, Repr

/-! ## Odometry and Position Unit (chapter 2) -/

/-- A reference position that is not LOST (Table 2.3, R25); the offset is in µm. -/
structure Located where
  segment   : Nat
  offset    : Nat
  overrun   : Nat
  confirmed : Bool
  deriving DecidableEq, Repr

/-- A trail entry (R31). -/
structure TrailEntry where
  segment : Nat
  length  : Nat
  deriving DecidableEq, Repr

/-- A route queue entry (R32); `branch` is true for branch 1. -/
structure RouteEntry where
  segment : Nat
  branch  : Bool
  deriving DecidableEq, Repr

/-- The place in which a point lies (R38): a trail entry counted from the newest, the current segment,
or a segment beyond it, with the place in the route queue at which a walk reached it (log 11). -/
inductive Place where
  | trail (n : Nat)
  | current
  | beyond (queue : Nat)
  deriving DecidableEq, Repr

/-- A point on the route: segment, offset in mm, and its place (R37, R38). -/
structure RoutePoint where
  segment : Nat
  offset  : Nat
  place   : Place
  deriving DecidableEq, Repr

/-- The position report that ends a position update (R37): the reference position after stage 4, d in
µm, v in mm/s, standstill, each channel's axle point and the farthest trail depth (1 is the newest). -/
structure PositionReport where
  position   : Option Located
  distance   : Int
  speed      : Nat
  standstill : Bool
  axle       : Vector (Option RoutePoint) 8
  depth      : Option Nat
  deriving DecidableEq, Repr

/-- The Odometry and Position Unit's state. The position state is LOST exactly when `position` is
absent (R25). `updateDue` is MODEL: a mark has been taken and its position update not yet made. -/
structure Opu where
  lastDistance : Int
  hold         : Nat
  history      : List Int
  position     : Option Located
  trail        : List TrailEntry
  route        : List RouteEntry
  report       : PositionReport
  updateDue    : Bool
  deriving DecidableEq, Repr

/-! ## Beacon Reconciliation Unit (chapter 3) -/

/-- A pending reader slot (R44). -/
structure PendingBeacon where
  ident   : Nat
  latched : Int
  deriving DecidableEq, Repr

/-- The outcome of the most recently handled beacon (R53). -/
inductive BeaconOutcome where
  | nothing
  | unknown
  | agreed
  | disagreed
  | adopted
  deriving DecidableEq, Repr

/-- The beacon report (R53): the error is in mm. -/
structure BeaconReport where
  outcome : BeaconOutcome
  ident   : Option Nat
  error   : Option Int
  deriving DecidableEq, Repr

/-- The Beacon Reconciliation Unit's state; the distance since confirmation is in µm (R51). -/
structure Bru where
  reader       : Vector (Option PendingBeacon) 2
  agreement    : Nat
  disagreement : Nat
  distance     : Nat
  report       : BeaconReport
  deriving DecidableEq, Repr

/-! ## Segment Cache (chapter 4) -/

/-- A segment's header (Table 4.1). -/
structure Header where
  length : Nat
  succ0  : Nat
  succ1  : Nat
  deriving DecidableEq, Repr

/-- A valid sub-block: its gain class and four curvature points (Table 4.1). -/
structure SubBlock where
  gainClass : Nat
  points    : Vector Int 4
  deriving DecidableEq, Repr

/-- What an entry with a valid header holds (R55: without one it holds no valid sub-block). -/
structure Content where
  header : Header
  blocks : Vector (Option SubBlock) 8
  deriving DecidableEq, Repr

/-- An allocated way: its tag, and its content when its header is valid. -/
structure Line where
  tag     : Nat
  content : Option Content
  deriving DecidableEq, Repr

/-- A set of the directory: two ways, absent when not allocated, and the LRU indicator (R56). -/
structure CacheSet where
  ways : Vector (Option Line) 2
  lru  : Fin 2
  deriving DecidableEq, Repr

/-- An outstanding fetch entry (Table 4.2). -/
structure FetchEntry where
  segment : Nat
  header  : Bool
  blocks  : BitVec 8
  age     : Nat
  deriving DecidableEq, Repr

/-- The Segment Cache's state; `held` are the held prefetch needs (R68). -/
structure Sgc where
  sets        : Vector CacheSet 64
  inUse       : List Nat
  outstanding : List FetchEntry
  held        : List Need
  deriving DecidableEq, Repr

/-! ## Steering Law Unit (chapter 5) -/

/-- The bogie states (R87). -/
inductive BogieState where
  | off
  | passive
  | tracking
  | degraded
  | frozen
  | excluded
  deriving DecidableEq, Repr

/-- The source of a channel's curvature (R92, R99). -/
inductive CurvatureSource where
  | nothing
  | lookAhead
  | axle
  | held
  deriving DecidableEq, Repr

/-- A channel record (R99). -/
structure ChannelRecord where
  source     : CurvatureSource
  curvature  : Option Int
  band       : Option Nat
  gainClass  : Option Nat
  lookAhead  : Option Nat
  correction : Option Int
  limited    : Bool
  deriving DecidableEq, Repr

/-- An emptied channel record (R99, R104). -/
def ChannelRecord.emptied : ChannelRecord :=
  { source := .nothing, curvature := none, band := none, gainClass := none, lookAhead := none,
    correction := none, limited := false }

/-- The Steering Law Unit's state. `next` is MODEL: the bogie to be determined next in this cycle's
work, none when the unit has no work (R84). -/
structure Slu where
  bogieState : Vector BogieState 4
  lastTarget : Vector Int 8
  record     : Vector ChannelRecord 8
  next       : Option BogieId
  deriving DecidableEq, Repr

/-! ## Output Shaping Unit (chapter 6) -/

/-- A steering result (R84): target angles for the leading and trailing channel, or no target. -/
structure SteeringResult where
  bogie   : BogieId
  state   : BogieState
  targets : Option (Int × Int)
  deriving DecidableEq, Repr

/-- An issued code with the inverse copy held beside it (R113). -/
structure Issued where
  code    : Nat
  inverse : Nat
  deriving DecidableEq, Repr

/-- The Output Shaping Unit's state per channel. -/
structure OsuChannel where
  target       : Option Nat
  rangeLimited : Bool
  issued       : Option Issued
  deriving DecidableEq, Repr

/-- The Output Shaping Unit's state. `results` is MODEL: the steering results handed on and not yet
shaped, oldest first (R84, R109). -/
structure Osu where
  channel  : Vector OsuChannel 8
  excluded : Vector Bool 4
  results  : List SteeringResult
  deriving DecidableEq, Repr

/-! ## Actuator Link Supervisor (chapter 7) -/

/-- A pair of codes or positions of a bogie, leading and trailing. -/
structure CodePair where
  lead  : Nat
  trail : Nat
  deriving DecidableEq, Repr

/-- An outstanding command (chapter 7): the link is AWAIT exactly when there is one. -/
structure Outstanding where
  tag     : Tag
  codes   : CodePair
  targets : CodePair
  age     : Nat
  deriving DecidableEq, Repr

/-- The link of one bogie. -/
structure Link where
  outstanding : Option Outstanding
  pending     : Option CodePair
  mismatch    : Nat
  excluded    : Bool
  notices     : Nat
  ignoring    : Bool
  measured    : Option CodePair
  status      : Option (BitVec 3)
  trackLead   : Nat
  trackTrail  : Nat
  deriving DecidableEq, Repr

/-- A link right after reset (R139). -/
def Link.initial : Link :=
  { outstanding := none, pending := none, mismatch := 0, excluded := false, notices := 0,
    ignoring := false, measured := none, status := none, trackLead := 0, trackTrail := 0 }

/-! ## Cycle and Supervision Unit (chapter 8) -/

/-- The supervision timer (R149): whether it counts, and the time counted, in half milliseconds. -/
structure SupervisionTimer where
  counting : Bool
  elapsed  : Nat
  deriving DecidableEq, Repr

/-- The Cycle and Supervision Unit's state. The substitute timer is stopped (none) or runs with a time
to expiry in half milliseconds, so that 1.5 × P is a whole number of them (R144). `echoLimit` is
MODEL: the echo timeout in force at the last taken mark (R123), none before the first (log 6). -/
structure Csu where
  cycle        : Nat
  substitutes  : Nat
  running      : Bool
  awaiting     : Vector Bool 4
  endReport    : Bool
  lastNumber   : Option Nat
  standbyStart : Bool
  substTimer   : Option Nat
  supervision  : SupervisionTimer
  rearm        : Bool
  echoLimit    : Option Nat
  deriving DecidableEq, Repr

/-! ## Management Request Handler (chapter 11) -/

/-- A request as it will be applied (R183): values are those limited at its taking. -/
inductive HeldRequest where
  | source (index : Fin 24) (entry : Option SourceEntry)
  | axle (index : Fin 8) (entry : Option AxleEntry)
  | bogie (index : Fin 4) (entry : BogieEntry)
  | channel (index : Fin 8) (entry : ChannelEntry)
  | gain (index : Fin 16) (entry : GainEntry)
  | beacon (index : Fin 64) (entry : Option BeaconEntry)
  | param (entry : ParamEntry)
  | positionSet (segment offset : Nat) (trail : List TrailEntry)
  | invalidate (segment : Nat)
  | invalidateAll
  deriving DecidableEq, Repr

/-- The posted slot's content (chapter 11). -/
structure Posted where
  request : HeldRequest
  sender  : Addr
  deriving DecidableEq, Repr

/-- A held reset prepare (R189). -/
structure Prepare where
  value  : Word
  sender : Addr
  deriving DecidableEq, Repr

/-- The Management Request Handler's state. -/
structure Mrh where
  posted    : Option Posted
  prepare   : Option Prepare
  confirmed : Bool
  deriving DecidableEq, Repr

/-! ## State and Diagnostic Unit (chapter 10) -/

/-- The part states (Table 10.1). -/
inductive PartState where
  | config
  | standby
  | active
  | fallback
  deriving DecidableEq, Repr

/-- The reset causes (R172). -/
inductive ResetCause where
  | powerOn
  | resetLine
  | key
  deriving DecidableEq, Repr

/-- The State and Diagnostic Unit's state; the flags stand in the positions of Table 10.2. -/
structure Sdu where
  part     : PartState
  deferred : Bool
  reason   : Option Nat
  cause    : ResetCause
  flags    : BitVec 32
  deriving DecidableEq, Repr

/-! ## The whole part -/

/-- An event that can come between two reads of the steering computation and that the computation sees
(R102). -/
inductive Arrival where
  | segment (frame : Delivery)
  | routeAppend (origin : Origin) (count : Byte) (data : List Word)
  | routeClear (origin : Origin) (data : List Word)
  deriving DecidableEq, Repr

/-- The state of the SK-48: the strap pins, the tables, the eleven blocks, the commands that wait, first in,
first out, and what comes before each of the next reads of the steering computation (R102): both are MODEL and
come from outside the part (log 38). -/
structure State where
  straps  : Addr
  tables  : Tables
  rpu     : Rpu
  sit     : Sit
  opu     : Opu
  bru     : Bru
  sgc     : Sgc
  slu     : Slu
  osu     : Osu
  als     : Vector Link 4
  csu     : Csu
  mrh     : Mrh
  sdu     : Sdu
  pending : List Instr
  within  : List (List Arrival)
  deriving DecidableEq, Repr

/-- No command of the SK-48 stops it with a fault: the manual gives every event an effect, so there is
no reason to name. (Safe: nothing is claimed of a stop.) -/
inductive Fault where
  deriving DecidableEq, Repr

/-- Why a command has no meaning in the model. -/
inductive Refusal where
  /-- Raised by exec's arm of a command that has no meaning yet; no arm raises it now. Safe. -/
  | notModelled (mnemonic : String)
  deriving DecidableEq, Repr

/-! ## Updates of one field -/

def State.setTables (s : State) (x : Tables) : State := { s with tables := x }
def State.setRpu (s : State) (x : Rpu) : State := { s with rpu := x }
def State.setSit (s : State) (x : Sit) : State := { s with sit := x }
def State.setOpu (s : State) (x : Opu) : State := { s with opu := x }
def State.setBru (s : State) (x : Bru) : State := { s with bru := x }
def State.setSgc (s : State) (x : Sgc) : State := { s with sgc := x }
def State.setSlu (s : State) (x : Slu) : State := { s with slu := x }
def State.setOsu (s : State) (x : Osu) : State := { s with osu := x }
def State.setAls (s : State) (x : Vector Link 4) : State := { s with als := x }
def State.setCsu (s : State) (x : Csu) : State := { s with csu := x }
def State.setMrh (s : State) (x : Mrh) : State := { s with mrh := x }
def State.setSdu (s : State) (x : Sdu) : State := { s with sdu := x }
def State.setPending (s : State) (x : List Instr) : State := { s with pending := x }
def State.setWithin (s : State) (x : List (List Arrival)) : State := { s with within := x }

/-! ## Reset values -/

/-- The parameter table after a power-on reset (R18, R43, R69, R83, R108, R123, R140). -/
def ParamEntry.initial : ParamEntry :=
  { period := 4, timeout := 100, keepAlive := false, standstill := 100,
    readerOffset := Vector.replicate 2 0, readerAxle := Vector.replicate 2 0, window := 1000,
    drift := 500, threshold1 := 1500, threshold2 := 5000, threshold3 := 10000, horizon := 20000,
    fallbackStep := 256, echoTimeout := 2 }

/-- A channel table entry after a power-on reset (R120). -/
def ChannelEntry.initial : ChannelEntry :=
  { gain := 65535, trim := 0, codeMin := 0, codeMax := 65535, slew := 0, fallback := 32768,
    thetaMax := 0, trackLimit := 65535, trackCount := 15 }

/-- A bogie table entry after a power-on reset (R41, R139). -/
def BogieEntry.initial : BogieEntry :=
  { enabled := false, echoCompare := false, actuator := 0, pivot := 0, semi := 0 }

/-- The tables after a power-on reset (R14, R41, R54, R81, R104, R120, R139, R153). -/
def Tables.initial : Tables :=
  { source := Vector.replicate 24 none, axle := Vector.replicate 8 none,
    bogie := Vector.replicate 4 BogieEntry.initial,
    channel := Vector.replicate 8 ChannelEntry.initial,
    gain := Vector.replicate 16 { lookAheadTime := 0, gain := 0 },
    beacon := Vector.replicate 64 none, param := ParamEntry.initial }

/-- The Ring Port Unit after a power-on reset (R167). -/
def Rpu.initial (own : Addr) : Rpu :=
  { own := own, assembler := { waitIdle := true, kept := [], count := 0 }, forward := [],
    commands := [], others := [], sending := none, gap := false, forwardCount := 0 }

/-- The Sample Intake after any reset (R14). -/
def Sit.initial : Sit :=
  { pulse := Vector.replicate 8 Slot.emptied, gap := Vector.replicate 8 Slot.emptied,
    previous := Vector.replicate 8 none }

/-- The report that stands before the first position update: no position, no axle placed, v = 0
(R41; its standstill indication is DESIGN CHOICE, log 3). -/
def PositionReport.initial : PositionReport :=
  { position := none, distance := 0, speed := 0, standstill := false,
    axle := Vector.replicate 8 none, depth := none }

/-- The Odometry and Position Unit after any reset (R41). -/
def Opu.initial : Opu :=
  { lastDistance := 0, hold := 0, history := [], position := none, trail := [], route := [],
    report := PositionReport.initial, updateDue := false }

/-- The Beacon Reconciliation Unit after any reset (R54). -/
def Bru.initial : Bru :=
  { reader := Vector.replicate 2 none, agreement := 0, disagreement := 0, distance := 0,
    report := { outcome := .nothing, ident := none, error := none } }

/-- The Segment Cache after any reset (R81). -/
def Sgc.initial : Sgc :=
  { sets := Vector.replicate 64 { ways := Vector.replicate 2 none, lru := 0 }, inUse := [],
    outstanding := [], held := [] }

/-- The Steering Law Unit after any reset (R104). -/
def Slu.initial : Slu :=
  { bogieState := Vector.replicate 4 .off, lastTarget := Vector.replicate 8 0,
    record := Vector.replicate 8 ChannelRecord.emptied, next := none }

/-- The Output Shaping Unit after any reset (R120). -/
def Osu.initial : Osu :=
  { channel := Vector.replicate 8 { target := none, rangeLimited := false, issued := none },
    excluded := Vector.replicate 4 false, results := [] }

/-- The Cycle and Supervision Unit after any reset (R153). -/
def Csu.initial : Csu :=
  { cycle := 0, substitutes := 0, running := false, awaiting := Vector.replicate 4 false,
    endReport := false, lastNumber := none, standbyStart := false, substTimer := none,
    supervision := { counting := false, elapsed := 0 }, rearm := false,
    echoLimit := none }

/-- The Management Request Handler after any reset (R191). -/
def Mrh.initial : Mrh := { posted := none, prepare := none, confirmed := false }

/-- The State and Diagnostic Unit after a power-on reset (R172, R173): RESET_SEEN is bit 0 and
POSITION_LOST bit 10 of the flag word (Table 10.2). -/
def Sdu.initial : Sdu :=
  { part := .config, deferred := false, reason := none, cause := .powerOn, flags := 0x00000401#32 }

/-- The part right after a power-on reset, its straps reading `Config.resetStraps`, no command
waiting. -/
def State.reset : State :=
  { straps := Config.resetStraps, tables := Tables.initial, rpu := Rpu.initial Config.resetStraps,
    sit := Sit.initial, opu := Opu.initial, bru := Bru.initial, sgc := Sgc.initial,
    slu := Slu.initial, osu := Osu.initial, als := Vector.replicate 4 Link.initial,
    csu := Csu.initial, mrh := Mrh.initial, sdu := Sdu.initial, pending := [], within := [] }

end Sys2Proof.Machine
end

