-- ==== Sys2Proof/Machine/Flags.lean ====
section
/-! DEFINITION. The 32 diagnostic flags (Table 10.2): their positions, their setting (R174), the
conditions of the five persistent ones (R175) and their acknowledgement (R176). -/

namespace Sys2Proof.Machine

/-- The flags of Table 10.2, in the order of their positions. -/
inductive Flag where
  | resetSeen | rxReject | fwdOverrun | txqFull | replyLost | sampleStale | axleExcluded | odoHold
  | rollback | routeMismatch | positionLost | beaconDisagree | beaconOverrun | beaconUnknown
  | setConflict | headerChanged | fetchTimeout | dataMissing | thetaClamp | copyErr | echoMismatch
  | echoTimeout | actAbsent | actFault | noticeSat | trackErr | actStatus | cycleSubst
  | cycleOverrun | cycleSeq | supExpired | valueClamp
  deriving DecidableEq, Repr

/-- A flag's position in the flag word and in the DIAG_ACK mask (Table 10.2). -/
def Flag.bit : Flag → Nat
  | .resetSeen => 0 | .rxReject => 1 | .fwdOverrun => 2 | .txqFull => 3 | .replyLost => 4
  | .sampleStale => 5 | .axleExcluded => 6 | .odoHold => 7 | .rollback => 8 | .routeMismatch => 9
  | .positionLost => 10 | .beaconDisagree => 11 | .beaconOverrun => 12 | .beaconUnknown => 13
  | .setConflict => 14 | .headerChanged => 15 | .fetchTimeout => 16 | .dataMissing => 17
  | .thetaClamp => 18 | .copyErr => 19 | .echoMismatch => 20 | .echoTimeout => 21
  | .actAbsent => 22 | .actFault => 23 | .noticeSat => 24 | .trackErr => 25 | .actStatus => 26
  | .cycleSubst => 27 | .cycleOverrun => 28 | .cycleSeq => 29 | .supExpired => 30
  | .valueClamp => 31

/-- The flag word with one flag set. -/
def Flag.mask (f : Flag) : BitVec 32 := BitVec.twoPow 32 f.bit

/-- Whether a flag is set. -/
def State.flag (s : State) (f : Flag) : Bool := s.sdu.flags.getLsbD f.bit

/-- Setting a flag; one already set stays set (R174). -/
def State.setFlag (s : State) (f : Flag) : State :=
  s.setSdu { s.sdu with flags := s.sdu.flags ||| f.mask }

/-- Setting a flag when a condition holds. -/
def State.setFlagIf (s : State) (c : Bool) (f : Flag) : State := if c then s.setFlag f else s

/-! ## Conditions of the persistent flags (R175) -/

/-- The max age of the valid entry that sends items to `target`, if there is one (chapter 1). -/
def maxAgeOf (source : Vector (Option SourceEntry) 24) (target : SlotTarget) : Option Nat :=
  source.toList.findSome? fun e =>
    match e with
    | some e => if e.target = target then some e.maxAge else none
    | none => none

/-- A pulse or gap slot is configured when a valid entry names it (chapter 1). -/
def slotConfigured (source : Vector (Option SourceEntry) 24) (target : SlotTarget) : Bool :=
  (maxAgeOf source target).isSome

/-- SAMPLE_STALE's condition (R12). -/
def sampleStaleCondition (s : State) : Bool :=
  (List.finRange 8).any fun n =>
    (slotConfigured s.tables.source (.pulse n) && decide (s.sit.pulse[n].state ≠ .fresh)) ||
    (slotConfigured s.tables.source (.gap n) && decide (s.sit.gap[n].state ≠ .fresh))

/-- ODO_HOLD's condition (R22). -/
def odoHoldCondition (s : State) : Bool := decide (s.opu.hold ≠ 0)

/-- POSITION_LOST's condition (R25). -/
def positionLostCondition (s : State) : Bool := s.opu.position.isNone

/-- DATA_MISSING's condition (R101). -/
def dataMissingCondition (s : State) : Bool :=
  (List.finRange 4).any fun b => decide (s.slu.bogieState[b] = .degraded)

/-- Whether a bogie's last status has a fault indicator set (R133). -/
def Link.faulty (l : Link) : Bool :=
  match l.status with
  | some status => decide (status ≠ 0)
  | none => false

/-- ACT_STATUS's condition (R133). -/
def actStatusCondition (s : State) : Bool :=
  (List.finRange 4).any fun b => s.tables.bogie[b].enabled && s.als[b].faulty

/-- The flag word of the persistent flags whose condition holds (R175). -/
def conditionWord (s : State) : BitVec 32 :=
  (if sampleStaleCondition s then Flag.mask .sampleStale else 0) |||
  (if odoHoldCondition s then Flag.mask .odoHold else 0) |||
  (if positionLostCondition s then Flag.mask .positionLost else 0) |||
  (if dataMissingCondition s then Flag.mask .dataMissing else 0) |||
  (if actStatusCondition s then Flag.mask .actStatus else 0)

/-- The flags after an acknowledgement (R176): a named flag that is not persistent is cleared, a named
persistent flag takes its condition's value, the others are not touched. -/
def acknowledged (flags mask condition : BitVec 32) : BitVec 32 :=
  (flags &&& ~~~mask) ||| (mask &&& condition)

end Sys2Proof.Machine
end

