-- ==== Sys2Proof/Machine/Operands.lean ====
section
/-! DEFINITION. How commands carry their operands (chapter 12): the header and check byte of a frame,
the fields of words, the entries of the tables as TABLE_WRITE and TABLE_READ carry them. -/

namespace Sys2Proof.Machine

/-! ## Fields of a word -/

/-- The `width`-bit field of a word whose lowest bit is `lo`, as a number. -/
def field (w : Word) (lo width : Nat) : Nat := (w.toNat / 2 ^ lo) % 2 ^ width

/-- A word holding `value` in the `width`-bit field whose lowest bit is `lo`, zero elsewhere (R193). -/
def bitsAt (lo width value : Nat) : Word := BitVec.ofNat 16 ((value % 2 ^ width) * 2 ^ lo)

/-- A word with one bit at `lo`. -/
def bitAt (lo : Nat) (b : Bool) : Word := bitsAt lo 1 b.toNat

/-- A number of 0 to 65535 as a word. -/
def word (n : Nat) : Word := BitVec.ofNat 16 n

/-- A signed number as a word, in two's complement (chapter 12). -/
def signedWord (n : Int) : Word := BitVec.ofInt 16 n

/-- A 32-bit value as two words, the high word first (chapter 12). -/
def wordPair (v : BitVec 32) : List Word := [v.extractLsb' 16 16, v.extractLsb' 0 16]

/-- The number that two words carry, the high word first. -/
def pairNat (hi lo : Word) : Nat := hi.toNat * 65536 + lo.toNat

/-! ## Check byte (R192) -/

/-- One data bit taken into the CRC-8 register (R192). -/
def crcBit (reg : Byte) (bit : Bool) : Byte :=
  let feedback := xor reg.msb bit
  if feedback then (reg <<< 1) ^^^ 0x2F#8 else reg <<< 1

/-- One byte taken into the register, most significant bit first (R192). -/
def crcByte (reg byte : Byte) : Byte :=
  [7, 6, 5, 4, 3, 2, 1, 0].foldl (fun r k => crcBit r (byte.getLsbD k)) reg

/-- The check byte over the header and payload bytes in the order they are sent (R192). -/
def checkByte (bytes : List Byte) : Byte := bytes.foldl crcByte 0xFF#8

/-! ## Header (Table 12.1) -/

/-- Frame classes (Table 12.1). -/
inductive FrameClass where
  | sample
  | command
  | echo
  | segment
  | fetch
  | manage
  | reply
  | cycle
  deriving DecidableEq, Repr

/-- The class that the three class bits name (Table 12.1). -/
def FrameClass.ofBits (b : BitVec 3) : FrameClass :=
  if b = 0 then .sample else if b = 1 then .command else if b = 2 then .echo
  else if b = 3 then .segment else if b = 4 then .fetch else if b = 5 then .manage
  else if b = 6 then .reply else .cycle

/-- The three class bits (Table 12.1). -/
def FrameClass.bits : FrameClass → BitVec 3
  | .sample => 0 | .command => 1 | .echo => 2 | .segment => 3
  | .fetch => 4 | .manage => 5 | .reply => 6 | .cycle => 7

/-- A frame's header (Table 12.1). -/
structure FrameHeader where
  guard       : BitVec 2
  cls         : FrameClass
  length      : Nat
  destination : Addr
  source      : Addr
  tag         : Tag
  deriving DecidableEq, Repr

/-- The four header bytes as one big-endian value. -/
def headerValue (b0 b1 b2 b3 : Byte) : BitVec 32 := b0 ++ b1 ++ b2 ++ b3

/-- The fields of a header value (Table 12.1). -/
def FrameHeader.ofValue (v : BitVec 32) : FrameHeader :=
  { guard := v.extractLsb' 30 2, cls := FrameClass.ofBits (v.extractLsb' 27 3),
    length := (v.extractLsb' 22 5).toNat, destination := v.extractLsb' 16 6,
    source := v.extractLsb' 10 6, tag := v.extractLsb' 0 10 }

/-- The header value of the fields (Table 12.1). -/
def FrameHeader.value (h : FrameHeader) : BitVec 32 :=
  h.guard ++ h.cls.bits ++ BitVec.ofNat 5 h.length ++ h.destination ++ h.source ++ h.tag

/-- The bytes of a word, big-endian (chapter 12). -/
def wordBytes (w : Word) : List Byte := [w.extractLsb' 8 8, w.extractLsb' 0 8]

/-- The bytes of a header, in the order they are sent. -/
def FrameHeader.bytes (h : FrameHeader) : List Byte :=
  [h.value.extractLsb' 24 8, h.value.extractLsb' 16 8, h.value.extractLsb' 8 8,
   h.value.extractLsb' 0 8]

/-- The words that a run of bytes carries, big-endian; an odd last byte is left out. -/
def wordsOf : List Byte → List Word
  | hi :: lo :: rest => (hi ++ lo) :: wordsOf rest
  | _ => []

/-- A frame that passed the checks of reception (R155): its header, its payload words and all its
bytes as received. -/
structure ValidFrame where
  header  : FrameHeader
  payload : List Word
  bytes   : List Byte
  deriving DecidableEq, Repr

/-- The checks of R155 on a closed burst, of which `kept` are the bytes and `count` the number that
came: guard, length, check byte, in this order; none for a frame that fails one. -/
def checkFrame (kept : List Byte) (count : Nat) : Option ValidFrame :=
  match kept with
  | b0 :: b1 :: b2 :: b3 :: rest =>
    let h := FrameHeader.ofValue (headerValue b0 b1 b2 b3)
    let body := rest.take (2 * h.length)
    if h.guard.getLsbD 1 = h.guard.getLsbD 0 then none
    else if Config.maxPayload < h.length ∨ count ≠ 5 + 2 * h.length then none
    else if kept.getLast? = some (checkByte ([b0, b1, b2, b3] ++ body)) then
      some { header := h, payload := wordsOf body, bytes := kept }
    else none
  | _ => none

/-- The bytes of a frame that the part originates (R192): guard pair 10, the own address as source,
the payload's length, the check byte over header and payload. -/
def originate (cls : FrameClass) (own destination : Addr) (tag : Tag) (payload : List Word) :
    List Byte :=
  let h : FrameHeader :=
    { guard := 0b10#2, cls := cls, length := payload.length, destination := destination,
      source := own, tag := tag }
  let bytes := h.bytes ++ payload.flatMap wordBytes
  bytes ++ [checkByte bytes]

/-- The FETCH payload (Table 12.2): segment; bit 8 header wanted, bits 7–0 wanted sub-blocks. -/
def fetchPayload (n : Need) : List Word :=
  [word n.segment, bitAt 8 n.header ||| bitsAt 0 8 n.blocks.toNat]

/-- The COMMAND payload (Table 12.2): bit 0 the fallback-mode indicator, then the two codes. -/
def commandPayload (c : CommandFrame) : List Word :=
  [bitAt 0 c.fallback, word c.lead, word c.trail]

/-! ## Table entries (Table 12.4) -/

/-- A Source Table entry as written (Table 12.4): kind 1 PULSE, 2 GAP, 3 BEACON. -/
structure SourceFields where
  valid  : Bool
  node   : Nat
  item   : Nat
  kind   : Nat
  slot   : Nat
  maxAge : Nat
  deriving DecidableEq, Repr

/-- The Source Table entry that two words carry (Table 12.4). -/
def SourceFields.ofWords (w0 w1 : Word) : SourceFields :=
  { valid := w0.getLsbD 15, node := field w0 8 6, item := field w0 0 4, kind := field w1 12 2,
    slot := field w1 8 3, maxAge := field w1 0 4 }

/-- Where an entry's kind and slot send an item; none for a kind or a slot out of range (R3). -/
def SourceFields.target (f : SourceFields) : Option SlotTarget :=
  if f.kind = 1 then some (.pulse (Fin.ofNat 8 f.slot))
  else if f.kind = 2 then some (.gap (Fin.ofNat 8 f.slot))
  else if f.kind = 3 ∧ f.slot ≤ 1 then some (.beacon (Fin.ofNat 2 f.slot))
  else none

/-- A Source Table entry's words as read (R2, Table 12.4): zeros when not valid. -/
def sourceWords : Option SourceEntry → List Word
  | none => [0, 0]
  | some e =>
    let k := match e.target with
      | .pulse n => (1, n.val)
      | .gap n => (2, n.val)
      | .beacon n => (3, n.val)
    [bitAt 15 true ||| bitsAt 8 6 e.node ||| bitsAt 0 4 e.item,
     bitsAt 12 2 k.1 ||| bitsAt 8 3 k.2 ||| bitsAt 0 4 e.maxAge]

/-- An axle table entry's words as read (R15): zeros when unused. -/
def axleWords : Option AxleEntry → List Word
  | none => [0, 0]
  | some e => [word e.umPerPulse, bitAt 15 e.odometry ||| bitsAt 0 4 e.slot.val]

/-- The bogie table entry that three words carry (Table 12.4). -/
def BogieEntry.ofWords (w0 w1 w2 : Word) : BogieEntry :=
  { enabled := w0.getLsbD 15, echoCompare := w0.getLsbD 14, actuator := field w0 0 6,
    pivot := w1.toNat, semi := w2.toNat }

/-- A bogie table entry's words (Table 12.4). -/
def bogieWords (e : BogieEntry) : List Word :=
  [bitAt 15 e.enabled ||| bitAt 14 e.echoCompare ||| bitsAt 0 6 e.actuator, word e.pivot,
   word e.semi]

/-- The channel table entry that ten words carry, in the order of Table 12.4; none for another number
of words. -/
def ChannelEntry.ofWords : List Word → Option ChannelEntry
  | [g, trim, lo, hi, s, fallback, thetaHi, thetaLo, limit, n] =>
    some { gain := g.toNat, trim := trim.toInt, codeMin := lo.toNat, codeMax := hi.toNat,
           slew := s.toNat, fallback := fallback.toNat, thetaMax := pairNat thetaHi thetaLo,
           trackLimit := limit.toNat, trackCount := n.toNat }
  | _ => none

/-- A channel table entry's words (Table 12.4). -/
def channelWords (e : ChannelEntry) : List Word :=
  [word e.gain, signedWord e.trim, word e.codeMin, word e.codeMax, word e.slew, word e.fallback] ++
  wordPair (BitVec.ofNat 32 e.thetaMax) ++ [word e.trackLimit, word e.trackCount]

/-- A gain schedule entry's words (Table 12.4). -/
def gainWords (e : GainEntry) : List Word := [word e.lookAheadTime, word e.gain]

/-- A beacon table entry as written (Table 12.4). -/
structure BeaconFields where
  valid : Bool
  entry : BeaconEntry
  deriving DecidableEq, Repr

/-- The beacon table entry that three words carry (Table 12.4). -/
def BeaconFields.ofWords (w0 w1 w2 : Word) : BeaconFields :=
  { valid := w0.getLsbD 15,
    entry := { ident := field w0 0 12, segment := w1.toNat, offset := w2.toNat } }

/-- A beacon table entry's words as read (R42): zeros when not valid. -/
def beaconWords : Option BeaconEntry → List Word
  | none => [0, 0, 0]
  | some e => [bitAt 15 true ||| bitsAt 0 12 e.ident, word e.segment, word e.offset]

/-- The parameter table as written, before its checks (Table 12.4): reader axles as 4-bit numbers. -/
structure ParamFields where
  period      : Nat
  timeout     : Nat
  keepAlive   : Bool
  standstill  : Nat
  offset0     : Nat
  offset1     : Nat
  axle0       : Nat
  axle1       : Nat
  window      : Nat
  drift       : Nat
  threshold1  : Nat
  threshold2  : Nat
  threshold3  : Nat
  horizon     : Nat
  fallbackStep : Nat
  echoTimeout : Nat
  deriving DecidableEq, Repr

/-- The parameter table that fifteen words carry (Table 12.4); none for another number of words. -/
def ParamFields.ofWords : List Word → Option ParamFields
  | [p, t, k, still, r0, r1, axles, window, drift, t1, t2, t3, h, step, e] =>
    some { period := p.toNat, timeout := t.toNat, keepAlive := k.getLsbD 0,
           standstill := still.toNat, offset0 := r0.toNat, offset1 := r1.toNat,
           axle0 := field axles 0 4, axle1 := field axles 8 4, window := window.toNat,
           drift := drift.toNat, threshold1 := t1.toNat, threshold2 := t2.toNat,
           threshold3 := t3.toNat, horizon := h.toNat, fallbackStep := step.toNat,
           echoTimeout := e.toNat }
  | _ => none

/-- The parameter table's words (Table 12.4). -/
def paramWords (p : ParamEntry) : List Word :=
  [word p.period, word p.timeout, bitAt 0 p.keepAlive, word p.standstill,
   word p.readerOffset[0], word p.readerOffset[1],
   bitsAt 8 4 p.readerAxle[1].val ||| bitsAt 0 4 p.readerAxle[0].val, word p.window, word p.drift,
   word p.threshold1, word p.threshold2, word p.threshold3, word p.horizon, word p.fallbackStep,
   word p.echoTimeout]

/-! ## Payload fields (Table 12.2) -/

/-- The ECHO kinds (Table 12.2). -/
inductive EchoKind where
  | answer
  | notice
  deriving DecidableEq, Repr

/-- A delivered ECHO payload, checked as R127 states: 6 words and a kind of ANSWER or NOTICE. -/
def echoOfPayload : List Word → Option (EchoKind × Echo)
  | [kind, lead, trail, mLead, mTrail, status] =>
    let e : Echo :=
      { receivedLead := lead, receivedTrail := trail, measuredLead := mLead,
        measuredTrail := mTrail, status := status }
    if kind = 1 then some (.answer, e) else if kind = 2 then some (.notice, e) else none
  | _ => none

/-- The three fault indicators of a status word (Table 12.2): stall, overtemperature, supply fault. -/
def statusOf (w : Word) : BitVec 3 := w.extractLsb' 0 3

/-- The items of a SAMPLE payload (Table 12.2): item number, field, value word. -/
structure SampleItem where
  item  : Nat
  info  : Nat
  value : Word
  deriving DecidableEq, Repr

/-- The items that a payload of an even number of words carries, in order. -/
def itemsOf : List Word → List SampleItem
  | head :: value :: rest =>
    { item := field head 12 4, info := field head 0 12, value := value } :: itemsOf rest
  | _ => []

/-- A SEGMENT payload (Table 12.2): header words, mask word, gain-class word, curvature points. -/
structure SegmentFields where
  segment : Nat
  header  : Header
  mask    : Word
  gains   : Word
  points  : List Int
  deriving DecidableEq, Repr

/-- The fields of a SEGMENT payload; none when it is shorter than 6 words (R58). -/
def SegmentFields.ofPayload : List Word → Option SegmentFields
  | n :: length :: s0 :: s1 :: mask :: gains :: points =>
    some { segment := n.toNat,
           header := { length := length.toNat, succ0 := s0.toNat, succ1 := s1.toNat },
           mask := mask, gains := gains, points := points.map BitVec.toInt }
  | _ => none

/-- The gain class of sub-block `k` in a gain-class word (Table 12.2). -/
def gainClassOf (w : Word) (k : Nat) : Nat := field w (2 * k) 2

/-- Entries of a list of pairs of words: ROUTE_APPEND and the trail of POSITION_SET (Table 12.3). -/
def wordPairs : List Word → List (Nat × Nat)
  | a :: b :: rest => (a.toNat, b.toNat) :: wordPairs rest
  | _ => []

end Sys2Proof.Machine
end

