-- ==== Sys2Proof/Machine/Ops.lean ====
section
/-! DEFINITION. The operations that more than one block makes: the channels of a bogie, updates of one
link or one channel, offers to the transmit queue and withdrawals from it (R160 to R162), needs (R72,
R73). -/

namespace Sys2Proof.Machine

/-- The leading channel of a bogie (0.5.3). -/
def leadOf (b : BogieId) : ChannelId := ⟨2 * b.val, by omega⟩

/-- The trailing channel of a bogie (0.5.3). -/
def trailOf (b : BogieId) : ChannelId := ⟨2 * b.val + 1, by omega⟩

/-- A part whose straps read 0 or 63 acts only as a repeater (R165). -/
def forwardOnly (s : State) : Bool := s.rpu.own == 0 || s.rpu.own == 63

/-- One bogie's link replaced. -/
def State.setLink (s : State) (b : BogieId) (l : Link) : State := s.setAls (s.als.set b.val l)

/-- One channel's shaping state replaced. -/
def State.setShaped (s : State) (c : ChannelId) (x : OsuChannel) : State :=
  s.setOsu { s.osu with channel := s.osu.channel.set c.val x }

/-- Whether a bogie is excluded, for a copy error or an actuator fault (R87, R109). -/
def bogieExcluded (s : State) (b : BogieId) : Bool := s.osu.excluded[b] || s.als[b].excluded

/-! ## Transmit queue (R160 to R162) -/

/-- The number of frames in the transmit queue. -/
def queueLength (r : Rpu) : Nat := r.commands.length + r.others.length

/-- Whether an offer that needs a free place finds one (R160). -/
def queueHasRoom (s : State) : Bool := decide (queueLength s.rpu < Config.queueCapacity)

/-- Whether a COMMAND for the bogie waits in the queue (R160). -/
def commandWaits (s : State) (b : BogieId) : Bool := s.rpu.commands.any fun c => c.bogie == b

/-- A FETCH or REPLY offered to the queue (R160): it joins the back of the other group, or the queue is
full, and TXQ_FULL is set. -/
def offerOther (s : State) (f : OtherFrame) : State :=
  if queueHasRoom s then s.setRpu { s.rpu with others := s.rpu.others ++ [f] }
  else s.setFlag .txqFull

/-- Whether a COMMAND offered to the queue is taken (R160): a waiting COMMAND of its bogie is replaced
in place, or there is room. -/
def commandTaken (s : State) (b : BogieId) : Bool := commandWaits s b || queueHasRoom s

/-- A COMMAND offered to the queue (R160, R161): it replaces the waiting COMMAND of its bogie in place,
or joins the back of the COMMAND group, or the queue is full, and TXQ_FULL is set. -/
def offerCommand (s : State) (c : CommandFrame) : State :=
  if commandWaits s c.bogie then
    s.setRpu { s.rpu with
      commands := s.rpu.commands.map fun w => if w.bogie = c.bogie then c else w }
  else if queueHasRoom s then s.setRpu { s.rpu with commands := s.rpu.commands ++ [c] }
  else s.setFlag .txqFull

/-- Every waiting COMMAND frame withdrawn (R162). -/
def withdrawAll (s : State) : State := s.setRpu { s.rpu with commands := [] }

/-- The waiting COMMAND frame of one bogie withdrawn (R162). -/
def withdrawBogie (s : State) (b : BogieId) : State :=
  s.setRpu { s.rpu with commands := s.rpu.commands.filter fun c => c.bogie ≠ b }

/-! ## Needs (R71 to R73) -/

/-- All eight sub-blocks. -/
def allBlocks : BitVec 8 := 0xFF#8

/-- The outstanding entry for a segment, if there is one (R71). -/
def outstandingFor (s : State) (segment : Nat) : Option FetchEntry :=
  s.sgc.outstanding.find? fun e => e.segment == segment

/-- The outstanding entry for a segment freed (R71). -/
def freeFetch (s : State) (segment : Nat) : State :=
  s.setSgc { s.sgc with outstanding := s.sgc.outstanding.filter fun e => e.segment ≠ segment }

/-- A FETCH offered to the queue at the moment its need is made; when the queue refuses it the entry
for its segment is freed (R73). -/
def offerFetch (s : State) (n : Need) : State :=
  if queueHasRoom s then offerOther s (.fetch n) else freeFetch (offerOther s (.fetch n)) n.segment

/-- The items of a need that an entry does not already want (R72). -/
def newlyWanted (e : FetchEntry) (n : Need) : Need :=
  { segment := n.segment, header := n.header && !e.header, blocks := n.blocks &&& ~~~e.blocks }

/-- Whether a need names nothing. -/
def Need.nothing (n : Need) : Bool := !n.header && n.blocks == 0

/-- A need added to the outstanding entry of its segment (R72). -/
def mergeFetch (n : Need) (e : FetchEntry) : FetchEntry :=
  if e.segment = n.segment then
    { e with header := e.header || n.header, blocks := e.blocks ||| n.blocks }
  else e

/-- A need made (R72): merged into the segment's entry, or an entry created while the table holds fewer
than 4, with a FETCH for the newly wanted items; otherwise not made. -/
def makeNeed (s : State) (n : Need) : State :=
  match outstandingFor s n.segment with
  | some e =>
    if (newlyWanted e n).nothing then s
    else
      offerFetch (s.setSgc { s.sgc with outstanding := s.sgc.outstanding.map (mergeFetch n) })
        (newlyWanted e n)
  | none =>
    if s.sgc.outstanding.length < Config.fetchCapacity then
      offerFetch (s.setSgc { s.sgc with outstanding := s.sgc.outstanding ++
        [{ segment := n.segment, header := n.header, blocks := n.blocks, age := 0 }] }) n
    else s

/-- Needs made one after another, in order (R68, R72). -/
def makeNeeds (s : State) (needs : List Need) : State := needs.foldl makeNeed s

/-- The held prefetch needs made (R68), when the end of the cycle's lookups is reported (R85). -/
def makeHeldNeeds (s : State) : State :=
  (makeNeeds s s.sgc.held).setSgc { (makeNeeds s s.sgc.held).sgc with held := [] }

end Sys2Proof.Machine
end

