-- ==== Sys2Proof/Machine/Cache.lean ====
section
/-! DEFINITION. The Segment Cache (chapter 4): the directory, lookups (R70), fills from SEGMENT frames
(R57 to R64), ageing and return of FETCH frames (R74, R75), invalidation (R76, R77), and the commands
SEGMENT, RETURNED_FETCH and FETCH_TIMEOUT. -/

namespace Sys2Proof.Machine

/-! ## Directory (R55, R56) -/

/-- The set that a segment belongs to: its number mod 64 (R55). -/
def setIndex (segment : Nat) : Fin 64 := Fin.ofNat 64 segment

/-- The tag of a segment: its number div 64 (R55). -/
def tagOf (segment : Nat) : Nat := segment / 64

/-- The segment number that an allocated way holds (R55). -/
def lineSegment (index : Fin 64) (l : Line) : Nat := l.tag * 64 + index.val

/-- Whether a way of a set is allocated with a tag. -/
def wayHolds (c : CacheSet) (w : Fin 2) (tag : Nat) : Bool :=
  match c.ways[w] with
  | some l => l.tag == tag
  | none => false

/-- The way of its set in which a segment is present, if it is (R55). -/
def findWay (c : CacheSet) (tag : Nat) : Option (Fin 2) :=
  if wayHolds c 0 tag then some 0 else if wayHolds c 1 tag then some 1 else none

/-- The other way of a set. -/
def otherWay (w : Fin 2) : Fin 2 := if w = 0 then 1 else 0

/-- Way `w` made most recently used: the indicator names the other way (R56). -/
def CacheSet.touch (c : CacheSet) (w : Fin 2) : CacheSet := { c with lru := otherWay w }

/-- One set of the directory replaced. -/
def State.setCacheSet (s : State) (i : Fin 64) (c : CacheSet) : State :=
  s.setSgc { s.sgc with sets := s.sgc.sets.set i.val c }

/-- The set that a segment belongs to, as it stands. -/
def cacheSetOf (s : State) (segment : Nat) : CacheSet := s.sgc.sets[setIndex segment]

/-- The allocated entry of a present segment. -/
def lineOf (s : State) (segment : Nat) : Option Line :=
  match findWay (cacheSetOf s segment) (tagOf segment) with
  | some w => (cacheSetOf s segment).ways[w]
  | none => none

/-- The content of a segment whose header is held (R55). -/
def contentOf (s : State) (segment : Nat) : Option Content :=
  match lineOf s segment with
  | some l => l.content
  | none => none

/-- The lookup's effect on the LRU indicator: a present segment's way is made most recently used,
whatever the outcome of the lookup (R56, R70). -/
def touchSegment (s : State) (segment : Nat) : State :=
  match findWay (cacheSetOf s segment) (tagOf segment) with
  | some w => s.setCacheSet (setIndex segment) ((cacheSetOf s segment).touch w)
  | none => s

/-! ## Lookups (R70) -/

/-- The need for a whole segment: header and all eight sub-blocks (R70). -/
def wholeNeed (segment : Nat) : Need := { segment := segment, header := true, blocks := allBlocks }

/-- The need for one sub-block, header not wanted (R70). -/
def blockNeed (segment : Nat) (k : Fin 8) : Need :=
  { segment := segment, header := false, blocks := BitVec.twoPow 8 k.val }

/-- A header lookup (R70). `needs` is false for the Segment Cache's own walk, whose needs are prefetch
needs (R68). -/
def lookupHeader (needs : Bool) (s : State) (segment : Nat) : State × Option Header :=
  let touched := touchSegment s segment
  match contentOf s segment with
  | some c => (touched, some c.header)
  | none => (if needs then makeNeed touched (wholeNeed segment) else touched, none)

/-- A sub-block lookup of the steering computation (R70). -/
def lookupBlock (s : State) (segment : Nat) (k : Fin 8) : State × Option SubBlock :=
  let touched := touchSegment s segment
  match contentOf s segment with
  | some c =>
    match c.blocks[k] with
    | some b => (touched, some b)
    | none => (makeNeed touched (blockNeed segment k), none)
  | none => (makeNeed touched (wholeNeed segment), none)

/-! ## Fills (R57 to R64) -/

/-- A SEGMENT frame that passed its checks: header, carried sub-blocks with their points clamped. -/
structure SegmentFill where
  segment : Nat
  header  : Header
  mask    : BitVec 8
  carried : List (Fin 8 × SubBlock)
  clamped : Bool
  deriving DecidableEq, Repr

/-- The sub-blocks that a mask word names, in ascending order (R57). -/
def maskedBlocks (mask : Word) : List (Fin 8) :=
  (List.finRange 8).filter fun k => mask.getLsbD k.val

/-- The structure checks of R58: at least 6 words is what the fields' existence says. -/
def segmentStructureOk (payloadLength : Nat) (f : SegmentFields) : Bool :=
  field f.mask 8 8 == 0 && decide ((maskedBlocks f.mask).length ≤ 4) &&
  decide (payloadLength = 6 + 4 * (maskedBlocks f.mask).length)

/-- The content checks of R59. -/
def segmentContentOk (f : SegmentFields) : Bool :=
  decide (f.segment ≠ 0) && decide (f.segment ≠ 65535) &&
  decide (1000 ≤ f.header.length) && decide (f.header.length ≤ 60000) &&
  decide (f.header.succ0 ≠ 65535) && decide (f.header.succ1 ≠ 65535) &&
  !(decide (f.header.succ1 ≠ 0) && decide (f.header.succ0 = 0))

/-- A curvature point limited to ±8000 counts (R60). -/
def clampPoint (k : Int) : Int := limitInt (-Config.curvatureLimit) Config.curvatureLimit k

/-- The sub-blocks carried by a frame, each with its gain class and its four clamped points, in
ascending order (R57, R60). -/
def carriedBlocks (gains : Word) : List (Fin 8) → List Int → List (Fin 8 × SubBlock)
  | k :: ks, p0 :: p1 :: p2 :: p3 :: rest =>
    (k, { gainClass := gainClassOf gains k.val,
          points := #v[clampPoint p0, clampPoint p1, clampPoint p2, clampPoint p3] }) ::
      carriedBlocks gains ks rest
  | _, _ => []

/-- A delivered SEGMENT payload checked (R58, R59) and its points clamped (R60). -/
def segmentFill (payload : List Word) : Option SegmentFill :=
  match SegmentFields.ofPayload payload with
  | none => none
  | some f =>
    if segmentStructureOk payload.length f && segmentContentOk f then
      some { segment := f.segment, header := f.header,
             mask := f.mask.extractLsb' 0 8,
             carried := carriedBlocks f.gains (maskedBlocks f.mask) f.points,
             clamped := f.points.any fun p => decide (clampPoint p ≠ p) }
    else none

/-- The carried sub-blocks written over those held (R61). -/
def writeBlocks (held : Vector (Option SubBlock) 8) (carried : List (Fin 8 × SubBlock)) :
    Vector (Option SubBlock) 8 :=
  carried.foldl (fun v kb => v.set kb.1.val (some kb.2)) held

/-- No valid sub-block. -/
def noBlocks : Vector (Option SubBlock) 8 := Vector.replicate 8 none

/-- Whether a way is in use: allocated, and its segment in the in-use set as it stands (R63). -/
def wayInUse (s : State) (i : Fin 64) (w : Fin 2) : Bool :=
  match s.sgc.sets[i].ways[w] with
  | some l => s.sgc.inUse.contains (lineSegment i l)
  | none => false

/-- The victim way for an absent segment (R63): a way not allocated, way 0 first; else the way that the
LRU indicator names, if not in use; else the other, if not in use; else none. -/
def victimWay (s : State) (i : Fin 64) : Option (Fin 2) :=
  let c := s.sgc.sets[i]
  if c.ways[(0 : Fin 2)].isNone then some 0
  else if c.ways[(1 : Fin 2)].isNone then some 1
  else if !wayInUse s i c.lru then some c.lru
  else if !wayInUse s i (otherWay c.lru) then some (otherWay c.lru)
  else none

/-- A line written into a way, which is made most recently used. -/
def writeLine (s : State) (i : Fin 64) (w : Fin 2) (l : Line) : State :=
  s.setCacheSet i (({ s.sgc.sets[i] with ways := s.sgc.sets[i].ways.set w.val (some l) } :
    CacheSet).touch w)

/-- What an outstanding entry still wants after a delivery of the header and some sub-blocks (R64). -/
def FetchEntry.delivered (e : FetchEntry) (mask : BitVec 8) : FetchEntry :=
  { e with header := false, blocks := e.blocks &&& ~~~mask }

/-- The outstanding entry for the frame's segment updated by an accepted fill, and freed when it wants
nothing more (R64). -/
def deliverItems (s : State) (segment : Nat) (mask : BitVec 8) : State :=
  s.setSgc { s.sgc with
    outstanding :=
      (s.sgc.outstanding.map fun e => if e.segment = segment then e.delivered mask else e).filter
        fun e => !(e.segment == segment && !e.header && e.blocks == 0) }

/-- The content of a present segment's entry after a fill (R61, R62): sub-blocks are kept when the held
header equals the frame's, and otherwise all become not valid first. -/
def filledContent (held : Option Content) (f : SegmentFill) : Content :=
  match held with
  | some c =>
    if c.header = f.header then { c with blocks := writeBlocks c.blocks f.carried }
    else { header := f.header, blocks := writeBlocks noBlocks f.carried }
  | none => { header := f.header, blocks := writeBlocks noBlocks f.carried }

/-- Whether a fill rewrites a held header (R62). -/
def headerDiffers (held : Option Content) (f : SegmentFill) : Bool :=
  match held with
  | some c => decide (c.header ≠ f.header)
  | none => false

/-- A fill of a segment that is present (R61, R62). -/
def fillPresent (s : State) (i : Fin 64) (w : Fin 2) (held : Option Content) (f : SegmentFill) :
    State :=
  deliverItems
    ((writeLine s i w { tag := tagOf f.segment, content := some (filledContent held f) }).setFlagIf
      (headerDiffers held f) .headerChanged)
    f.segment f.mask

/-- A fill of a segment that is absent (R63): a victim is chosen, or the frame is discarded with
SET_CONFLICT. -/
def fillAbsent (s : State) (i : Fin 64) (f : SegmentFill) : State :=
  match victimWay s i with
  | some w =>
    deliverItems
      (writeLine s i w { tag := tagOf f.segment, content := some (filledContent none f) })
      f.segment f.mask
  | none => s.setFlag .setConflict

/-- An accepted frame placed (R61 to R63). -/
def placeFill (s : State) (f : SegmentFill) : State :=
  let i := setIndex f.segment
  match findWay s.sgc.sets[i] (tagOf f.segment) with
  | some w => fillPresent s i w (contentOf s f.segment) f
  | none => fillAbsent s i f

/-- A delivered SEGMENT frame handled whole (R58 to R64). -/
def handleSegment (s : State) (payload : List Word) : State :=
  match segmentFill payload with
  | none => s.setFlag .rxReject
  | some f => placeFill (s.setFlagIf f.clamped .valueClamp) f

/-! ## Outstanding entries: ageing, return (R74, R75) -/

/-- An entry whose age has reached 8 cycles is freed, and FETCH_TIMEOUT set (R74); any other segment's
entry, and a segment without one, leaves all as it stands. -/
def timeoutFetch (s : State) (segment : Nat) : State :=
  match outstandingFor s segment with
  | some e =>
    if Config.fetchTimeout ≤ e.age then (freeFetch s segment).setFlag .fetchTimeout else s
  | none => s

/-- The ageing of a taken mark (R74): every age is raised by 1, and the entries that reach 8 time
out. -/
def ageFetches (s : State) : State :=
  let aged := s.setSgc { s.sgc with
    outstanding := s.sgc.outstanding.map fun e => { e with age := e.age + 1 } }
  aged.sgc.outstanding.foldl (fun t e => timeoutFetch t e.segment) aged

/-- A FETCH of the part's own that came back (R75): the entry for the segment it names is freed, and
FETCH_TIMEOUT set in either case. -/
def handleReturnedFetch (s : State) (segment : Option Nat) : State :=
  match segment with
  | some n => (freeFetch s n).setFlag .fetchTimeout
  | none => s.setFlag .fetchTimeout

/-! ## Invalidation (R76, R77) -/

/-- A way of set `i` invalidated (R76): an in-use segment's way stays allocated without header and
sub-blocks, any other becomes not allocated. -/
def invalidateWay (inUse : List Nat) (i : Fin 64) (way : Option Line) : Option Line :=
  match way with
  | some l => if inUse.contains (lineSegment i l) then some { l with content := none } else none
  | none => none

/-- One segment invalidated, and its outstanding entry freed without FETCH_TIMEOUT (R76). -/
def invalidateSegment (s : State) (segment : Nat) : State :=
  let i := setIndex segment
  match findWay s.sgc.sets[i] (tagOf segment) with
  | some w =>
    freeFetch (s.setCacheSet i { s.sgc.sets[i] with
      ways := s.sgc.sets[i].ways.set w.val (invalidateWay s.sgc.inUse i s.sgc.sets[i].ways[w]) })
      segment
  | none => freeFetch s segment

/-- Every way invalidated and every outstanding entry freed, without FETCH_TIMEOUT (R77). -/
def invalidateAll (s : State) : State :=
  s.setSgc { s.sgc with
    sets := Vector.ofFn fun i : Fin 64 =>
      { s.sgc.sets[i] with ways := s.sgc.sets[i].ways.map (invalidateWay s.sgc.inUse i) }
    outstanding := [] }

/-! ## Commands -/

/-- SEGMENT: a delivered frame is handled by R58 to R64; none is delivered to a repeater (R80). -/
def execSegment (frame : Delivery) (s : State) : Host.Outcome State Fault Refusal :=
  .next (if forwardOnly s then s else handleSegment s frame.payload)

/-- RETURNED_FETCH (R75). -/
def execReturnedFetch (segment : Word) (s : State) : Host.Outcome State Fault Refusal :=
  .next (if forwardOnly s then s else handleReturnedFetch s (some segment.toNat))

/-- FETCH_TIMEOUT (R74): what the ageing mark does to one entry whose age has reached 8 (log 6). -/
def execFetchTimeout (segment : Word) (s : State) : Host.Outcome State Fault Refusal :=
  .next (timeoutFetch s segment.toNat)

end Sys2Proof.Machine
end

