-- ==== Sys2Proof/Machine/Resets.lean ====
section
/-! DEFINITION. The three resets (R172, R173 and each chapter's state after reset): one shared operation,
and the commands POWER_ON_RESET and RESET_LINE. -/

namespace Sys2Proof.Machine

/-- The Ring Port Unit after a reset (R165, R167). A frame in transmission is cut off, and the idle time
that R154 asks for after every frame sent is still to pass (log 28). -/
def resetRpu (r : Rpu) (straps : Addr) : Rpu :=
  { Rpu.initial straps with gap := r.gap || r.sending.isSome }

/-- Every block at its state after a reset, the flags not yet set; the tables are the argument (R14, R41,
R54, R81, R104, R120, R139, R153, R167, R172, R191). -/
def resetBlocks (s : State) (straps : Addr) (cause : ResetCause) (tables : Tables) : State :=
  { straps := straps, tables := tables, rpu := resetRpu s.rpu straps, sit := Sit.initial,
    opu := Opu.initial, bru := Bru.initial, sgc := Sgc.initial, slu := Slu.initial,
    osu := Osu.initial, als := Vector.replicate 4 Link.initial, csu := Csu.initial,
    mrh := Mrh.initial,
    sdu := { part := .config, deferred := false, reason := none, cause := cause, flags := 0 },
    pending := s.pending, within := s.within }

/-- The flags that a reset sets (R173): RESET_SEEN, and each persistent flag whose condition holds;
POSITION_LOST's does. -/
def resetFlags (s : State) : State :=
  s.setSdu { s.sdu with flags := Flag.resetSeen.mask ||| conditionWord s }

/-- A reset (R172): the straps are read, the tables kept or not. -/
def resetPart (s : State) (straps : Addr) (cause : ResetCause) (tables : Tables) : State :=
  resetFlags (resetBlocks s straps cause tables)

/-- The key reset (R190): the tables are kept. -/
def keyReset (s : State) (straps : Addr) : State := resetPart s straps .key s.tables

/-- POWER_ON_RESET (R172). -/
def execPowerOnReset (straps : Addr) (s : State) : Host.Outcome State Fault Refusal :=
  .next (resetPart s straps .powerOn Tables.initial)

/-- RESET_LINE (R172). -/
def execResetLine (straps : Addr) (s : State) : Host.Outcome State Fault Refusal :=
  .next (resetPart s straps .resetLine Tables.initial)

end Sys2Proof.Machine
end

