-- ==== Sys2Proof/Machine/Reply.lean ====
section
/-! DEFINITION. What every request goes through (chapter 11): acceptance (R180), the REPLY with its summary
word (R178, R181), the keep-alive by management (R148, R149, R151); and the requests of the route queue (R32,
R33), which can come between two reads of a computation (R102). -/

namespace Sys2Proof.Machine

/-! ## Keep-alive (R149, R151) -/

/-- The supervision timer set to 0 and counting. -/
def timerStarted : SupervisionTimer := { counting := true, elapsed := 0 }

/-- A valid keep-alive taken (R149, R151): in STANDBY and ACTIVE it sets the timer to 0; in FALLBACK it
sets the re-arm indicator when SUP_EXPIRED is not set. -/
def keepAlive (s : State) : State :=
  match s.sdu.part with
  | .config => s
  | .standby => s.setCsu { s.csu with supervision := timerStarted }
  | .active => s.setCsu { s.csu with supervision := timerStarted }
  | .fallback =>
    if s.flag .supExpired then s else s.setCsu { s.csu with rearm := true }

/-! ## Summary word (R178) -/

/-- The part state's code (chapter 12). -/
def PartState.code : PartState → Nat
  | .config => 0 | .standby => 1 | .active => 2 | .fallback => 3

/-- The position state's code (chapter 12): 0 LOST, 1 ESTIMATED, 2 CONFIRMED. -/
def positionCode (p : Option Located) : Nat :=
  match p with
  | none => 0
  | some p => if p.confirmed then 2 else 1

/-- A mask with bit b set for each bogie b that a test holds of. -/
def bogieMask (p : BogieId → Bool) : Nat :=
  (List.finRange 4).foldl (fun m b => if p b then m + 2 ^ b.val else m) 0

/-- The summary word: part state, position state, any flag set, and the bogies not TRACKING. -/
def summaryWord (s : State) : Word :=
  bitsAt 14 2 s.sdu.part.code ||| bitsAt 12 2 (positionCode s.opu.position) |||
  bitAt 11 (s.sdu.flags != 0) |||
  bitsAt 0 4 (bogieMask fun b => decide (s.slu.bogieState[b] ≠ .tracking))

/-! ## Results and replies (chapter 12, R181) -/

/-- The results (chapter 12). -/
inductive Result where
  | done
  | posted
  | clamped
  | notReady
  | refusedState
  | refusedRange
  | refusedFunction
  deriving DecidableEq, Repr

/-- A result's value (chapter 12). -/
def Result.code : Result → Nat
  | .done => 0 | .posted => 1 | .clamped => 2 | .notReady => 3
  | .refusedState => 4 | .refusedRange => 5 | .refusedFunction => 6

/-- What a handled request answers: its result, the refusal reason, 0 but for a STATE_SET answered
REFUSED_STATE, the reply data, and, when it confirms a reset, what the straps read then (R190, R165). -/
structure Reply where
  result   : Result
  reason   : Nat
  data     : List Word
  confirms : Option Addr
  deriving DecidableEq, Repr

/-- A plain result: no reason, no data. -/
def Reply.plain (r : Result) : Reply := { result := r, reason := 0, data := [], confirms := none }

/-- DONE with reply data. -/
def Reply.withData (data : List Word) : Reply :=
  { result := .done, reason := 0, data := data, confirms := none }

/-- The payload of a REPLY (R181): the echo word, the summary word, the data. -/
def replyPayload (s : State) (function : Nat) (r : Reply) : List Word :=
  (bitsAt 12 4 function ||| bitsAt 8 3 r.reason ||| bitsAt 0 4 r.result.code) :: summaryWord s ::
    r.data

/-- The REPLY to a request (R181). -/
def replyFrame (s : State) (o : Origin) (function : Nat) (r : Reply) : ReplyFrame :=
  { destination := o.source, tag := o.tag, payload := replyPayload s function r,
    confirms := r.confirms.isSome }

/-- The REPLY offered (R181); a broadcast request has none. When the queue refuses the REPLY to a
confirmed reset, the key reset takes effect with the straps as they read then (R190, R165). -/
def sendReply (s : State) (o : Origin) (function : Nat) (r : Reply) : State :=
  if o.broadcast then s
  else
    let offered := offerOther s (.reply (replyFrame s o function r))
    match r.confirms with
    | some straps => if queueHasRoom s then offered else keyReset offered straps
    | none => offered

/-! ## Acceptance and path of a request (R180, R182, R189, R148) -/

/-- Whether a MANAGE frame with a function is accepted (R180): addressed to the part, or a broadcast
STATE_SET, while no confirmed reset is set. Nothing is delivered to a repeater (R165). -/
def accepts (s : State) (o : Origin) (function : Nat) : Bool :=
  !forwardOnly s && !s.mrh.confirmed && (!o.broadcast || function == 4)

/-- A held reset prepare cancelled (R189). -/
def cancelPrepare (s : State) : State := s.setMrh { s.mrh with prepare := none }

/-- The keep-alive by management (R148), after the request has been handled (log 22). -/
def managementKeepAlive (s : State) : State := if s.tables.param.keepAlive then keepAlive s else s

/-- The path of a request: acceptance, the cancelling of a held prepare, its handling, its REPLY, its
keep-alive (R180 to R182, R189, R148). -/
def manage (s : State) (o : Origin) (function : Nat) (handler : State → State × Reply) : State :=
  if accepts s o function then
    let handled := handler (cancelPrepare s)
    managementKeepAlive (sendReply handled.1 o function handled.2)
  else s

/-- A request refused by the length or argument checks (R182). -/
def refuseRange (s : State) : State × Reply := (s, .plain .refusedRange)

/-- A request that takes no data: its handling, or REFUSED_RANGE (R182). -/
def withoutData (handler : State → State × Reply) (data : List Word) (s : State) : State × Reply :=
  if data = [] then handler s else refuseRange s

/-! ## Route queue (R32, R33) -/

/-- A segment number of 1 to 65534 (0.5.3). -/
def segmentOk (n : Nat) : Bool := decide (n ≠ 0) && decide (n ≠ 65535)

/-- A route queue entry that ROUTE_APPEND may carry (R32). -/
def routeEntryOk (e : Nat × Nat) : Bool := segmentOk e.1 && decide (e.2 ≤ 1)

/-- ROUTE_APPEND (R32): at once in every part state. -/
def appendRoute (count : Nat) (data : List Word) (s : State) : State × Reply :=
  if decide (data.length = 2 * count) && decide (1 ≤ count) && decide (count ≤ 8) &&
      (wordPairs data).all routeEntryOk &&
      decide (s.opu.route.length + count ≤ Config.routeCapacity) then
    (s.setOpu { s.opu with
      route := s.opu.route ++
        (wordPairs data).map fun e => { segment := e.1, branch := decide (e.2 = 1) } },
     .plain .done)
  else refuseRange s

/-- ROUTE_CLEAR (R33). -/
def clearRoute (s : State) : State × Reply :=
  (s.setOpu { s.opu with route := [] }, .plain .done)

end Sys2Proof.Machine
end

