-- ==== Sys2Proof/Machine/Within.lean ====
section
/-! DEFINITION. What comes between two reads of the steering computation (R102), and the lookups of the three
blocks that walk forward. -/

namespace Sys2Proof.Machine

/-- An event that comes between two reads (R102) taken, whole, as its command takes it. -/
def takeArrival (s : State) (a : Arrival) : State :=
  match a with
  | .segment frame => if forwardOnly s then s else handleSegment s frame.payload
  | .routeAppend o count data => manage s o 6 (appendRoute count.toNat data)
  | .routeClear o data => manage s o 7 (withoutData clearRoute data)

/-- What comes before the next read of the steering computation taken, in its order (R102; log 38). -/
def takeWithin (s : State) : State :=
  match s.within with
  | [] => s
  | now :: later => now.foldl takeArrival (s.setWithin later)

/-- A header lookup of the steering computation (R70), which reads what stands then (R65, R102). -/
def steeringHeader (s : State) (segment : Nat) : State × Option Header :=
  lookupHeader true (takeWithin s) segment

/-- A sub-block lookup of the steering computation (R70), which reads what stands then (R65, R102). -/
def steeringBlock (s : State) (segment : Nat) (k : Fin 8) : State × Option SubBlock :=
  lookupBlock (takeWithin s) segment k

/-- Who makes a forward walk (R38): the Segment Cache, whose needs are prefetch needs (R67, R68), the Beacon
Reconciliation Unit (R46) or the steering law (R91, R94). -/
inductive Walker where
  | segmentCache
  | beacon
  | steering
  deriving DecidableEq, Repr

/-- A header read of a walk (R38, R70). -/
def Walker.header (w : Walker) (s : State) (segment : Nat) : State × Option Header :=
  match w with
  | .segmentCache => lookupHeader false s segment
  | .beacon => lookupHeader true s segment
  | .steering => steeringHeader s segment

end Sys2Proof.Machine
end

