-- ==== Sys2Proof/Machine/Walk.lean ====
section
/-! DEFINITION. Finding points on the route: placement behind the reference point (R36) and the forward
walk (R38, R39), each header read of which is a lookup (R70). -/

namespace Sys2Proof.Machine

/-- An offset in whole millimetres: floor(offset / 1000) (chapter 2). -/
def mm (um : Nat) : Nat := um / 1000

/-- Walking back `r` mm beyond the start of the current segment through the trail, newest first, with
`n` the position of the first entry given (R36). -/
def placeOnTrail : (n : Nat) → List TrailEntry → (r : Nat) → Option RoutePoint
  | _, [], _ => none
  | n, e :: older, r =>
    if r ≤ e.length then
      some { segment := e.segment, offset := e.length - r, place := .trail n }
    else placeOnTrail (n + 1) older (r - e.length)

/-- The point `d` mm behind a reference position (R36); none when unplaced. -/
def placeBehind (position : Option Located) (trail : List TrailEntry) (d : Nat) :
    Option RoutePoint :=
  match position with
  | none => none
  | some p =>
    if d ≤ mm p.offset then
      some { segment := p.segment, offset := mm p.offset - d, place := .current }
    else placeOnTrail 0 trail (d - mm p.offset)

/-- The successor by which a walk leaves a segment, and its place in the route queue afterwards (R38,
R39): successor 0 when successor 1 is 0; at a switch segment the branch of the entry at its place, if
that names the segment, and else branch 0 with the place kept. -/
def walkSuccessor (route : List RouteEntry) (segment : Nat) (h : Header) (queue : Nat) :
    Nat × Nat :=
  if h.succ1 = 0 then (h.succ0, queue)
  else
    match route[queue]? with
    | some e =>
      if e.segment = segment then ((if e.branch then h.succ1 else h.succ0), queue + 1)
      else (h.succ0, queue)
    | none => (h.succ0, queue)

/-- A segment that a walk entered, and the distance in mm from the walk's start at which it did: negative
when the walk started beyond the length of the segment it left (R36, R38). -/
structure Visit where
  segment : Nat
  entered : Int
  deriving DecidableEq, Repr

/-- What a walk leaves: the state after its lookups, the point reached or none for data missing, and
the segments it entered, in order, the first being the one it started in. -/
structure WalkResult where
  state   : State
  stop    : Option RoutePoint
  visited : List Visit
  deriving DecidableEq, Repr

/-- The queue place with which a walk goes on from a place: the front entry in the current segment
(R39), the place reached beyond it (log 11). -/
def queueOf : Place → Nat
  | .beyond q => q
  | _ => 0

/-- A walk entering segment `segment` at offset `off` with `dist` mm to go, `gone` mm after its start
(R38, R39): leaving a segment reduces `dist` by its length less `off`, and raises `gone` by as much. One
unit of fuel a segment; `walkFuel` is enough while no length held or on the trail is below 1000 mm (R59,
R34), which no run brings about (log 10). -/
def walkFrom (walker : Walker) : (fuel : Nat) → State → Place →
    (segment off dist : Nat) → (gone : Int) → WalkResult
  | 0, s, _, _, _, _, _ => { state := s, stop := none, visited := [] }
  | fuel + 1, s, place, segment, off, dist, gone =>
    let here : Visit := { segment := segment, entered := gone }
    match place with
    | .trail n =>
      match s.opu.trail[n]? with
      | none => { state := s, stop := none, visited := [here] }
      | some e =>
        if off + dist < e.length then
          { state := s, stop := some ⟨segment, off + dist, place⟩, visited := [here] }
        else
          let rest := off + dist - e.length
          match n with
          | 0 =>
            match s.opu.position with
            | none => { state := s, stop := none, visited := [here] }
            | some p =>
              let r := walkFrom walker fuel s .current p.segment 0 rest (gone + dist - rest)
              { r with visited := here :: r.visited }
          | m + 1 =>
            match s.opu.trail[m]? with
            | none => { state := s, stop := none, visited := [here] }
            | some newer =>
              let r := walkFrom walker fuel s (.trail m) newer.segment 0 rest (gone + dist - rest)
              { r with visited := here :: r.visited }
    | _ =>
      let looked := walker.header s segment
      match looked.2 with
      | none => { state := looked.1, stop := none, visited := [here] }
      | some h =>
        if off + dist < h.length then
          { state := looked.1, stop := some ⟨segment, off + dist, place⟩, visited := [here] }
        else if h.succ0 = 0 then
          { state := looked.1, stop := some ⟨segment, h.length - 1, place⟩, visited := [here] }
        else
          let rest := off + dist - h.length
          let next := walkSuccessor looked.1.opu.route segment h (queueOf place)
          let r := walkFrom walker fuel looked.1 (.beyond next.2) next.1 0 rest (gone + dist - rest)
          { r with visited := here :: r.visited }

/-- Fuel enough for a walk: the first segment, then at least 1000 mm a segment. -/
def walkFuel (off dist : Nat) : Nat := (off + dist) / 1000 + 2

/-- A forward walk of `dist` mm from a point (R38); a switch segment is left by the route queue as it stands when
the walk reaches it (R33). -/
def walk (walker : Walker) (s : State) (start : RoutePoint) (dist : Nat) : WalkResult :=
  walkFrom walker (walkFuel start.offset dist) s start.place start.segment start.offset dist 0

end Sys2Proof.Machine
end

