-- ==== Sys2Proof/Machine/Odometry.lean ====
section
/-! DEFINITION. The Odometry and Position Unit's stages of a position update (chapter 2): odometry (R20
to R23), speed (R24), advance (R26 to R31), placement (R36, R37). -/

namespace Sys2Proof.Machine

/-! ## Entering LOST (R30) -/

/-- The position made LOST (R30), with the reconciliation counts of R52: the segment becomes absent, the
trail is emptied, POSITION_LOST is set. -/
def enterLost (s : State) : State :=
  ((s.setOpu { s.opu with position := none, trail := [] }).setBru
    { s.bru with agreement := 0, disagreement := 0, distance := 0 }).setFlag .positionLost

/-! ## Distance (R20 to R23) -/

/-- The increment of an axle in µm, when it is a candidate (R20): an odometry axle whose pulse slot is
FRESH and carries a previous count. -/
def candidate (s : State) (axle : Option AxleEntry) : Option Int :=
  match axle with
  | none => none
  | some a =>
    if a.odometry ∧ s.sit.pulse[a.slot].state = .fresh then
      match s.sit.pulse[a.slot].view, s.sit.previous[a.slot] with
      | some v, some p => some (signedDiff v.value p * (a.umPerPulse : Int))
      | _, _ => none
    else none

/-- The increments of all candidates (R20). -/
def increments (s : State) : List Int := s.tables.axle.toList.filterMap (candidate s)

/-- The exclusion threshold about a median increment (R21). -/
def exclusionThreshold (m0 : Int) : Nat := m0.natAbs / 8 + 2000

/-- The increments that are not excluded (R21). -/
def keptIncrements (incs : List Int) : List Int :=
  incs.filter fun x => decide ((x - median incs).natAbs ≤ exclusionThreshold (median incs))

/-- The distance of a counted update, or none for an update with no usable axle (R21). -/
def countedDistance (incs : List Int) : Option Int :=
  match keptIncrements incs with
  | [] => none
  | kept => some (median kept)

/-- Whether an axle is excluded from the median (R21). -/
def axleExcluded (incs : List Int) : Bool := decide ((keptIncrements incs).length ≠ incs.length)

/-- The hold counter raised by an uncounted update (R22). -/
def raisedHold (hold : Nat) : Nat := if hold < Config.holdLimit then hold + 1 else hold

/-- Previous counts renewed from the cycle views (R23). -/
def renewedPrevious (sit : Sit) : Vector (Option Int) 8 :=
  Vector.ofFn fun n : Fin 8 =>
    if sit.pulse[n].state = .fresh then (sit.pulse[n].view.map Stamped.value) else none

/-- An uncounted update's effect on hold counter, last distance and position, before d is used (R22). -/
def uncounted (s : State) : State :=
  let raised := s.setOpu { s.opu with hold := raisedHold s.opu.hold }
  let held :=
    if raised.opu.hold < Config.holdLimit then raised
    else
      let zero := raised.setOpu { raised.opu with lastDistance := 0 }
      if zero.opu.position.isNone then zero else enterLost zero
  held.setFlag .odoHold

/-- Stage 1, odometry (R20 to R23); the distance of the update is the last distance afterwards. -/
def odometryStage (s : State) : State :=
  let incs := increments s
  let flagged := s.setFlagIf (axleExcluded incs) .axleExcluded
  let counted :=
    match countedDistance incs with
    | some d => flagged.setOpu { flagged.opu with hold := 0, lastDistance := d }
    | none => uncounted flagged
  counted.setSit { counted.sit with previous := renewedPrevious counted.sit }

/-! ## Speed (R24) -/

/-- The speed in mm/s from the history in µm and P in ms (R24). -/
def speedOf (history : List Int) (period : Nat) : Nat :=
  (limitInt 0 Config.speedLimit (floorDiv (sumInt history) (8 * period))).toNat

/-- Stage 2: d enters the history (R24). -/
def speedStage (s : State) : State :=
  s.setOpu { s.opu with
    history := (s.opu.lastDistance :: s.opu.history).take Config.historyCapacity }

/-! ## Advance (R26 to R31) -/

/-- A push on the trail list (R31). -/
def pushTrail (trail : List TrailEntry) (e : TrailEntry) : List TrailEntry :=
  (e :: trail).take Config.trailCapacity

/-- Whether the front entry of the route queue names a segment (R28). -/
def frontNames (route : List RouteEntry) (segment : Nat) : Bool :=
  match route with
  | e :: _ => e.segment == segment
  | [] => false

/-- The successor by which a held segment is left (R28). -/
def chosenSuccessor (route : List RouteEntry) (segment : Nat) (h : Header) : Nat :=
  if h.succ1 = 0 then h.succ0
  else
    match route with
    | e :: _ => if e.segment = segment ∧ e.branch then h.succ1 else h.succ0
    | [] => h.succ0

/-- A held segment left (R28, R31): the front entry is removed when it names a switch segment, else
ROUTE_MISMATCH is set for a switch segment; the segment is pushed on the trail. -/
def leaveSegment (s : State) (segment : Nat) (h : Header) : State :=
  let pushed := pushTrail s.opu.trail { segment := segment, length := h.length }
  if h.succ1 = 0 then s.setOpu { s.opu with trail := pushed }
  else if frontNames s.opu.route segment then
    s.setOpu { s.opu with trail := pushed, route := s.opu.route.tail }
  else (s.setOpu { s.opu with trail := pushed }).setFlag .routeMismatch

/-- The offset at which the end of a route clamps (R29), in µm. -/
def endOffset (h : Header) : Nat := (h.length - 1) * 1000

/-- The end of the route reached (R29): the offset is clamped, the excess is added to the end overrun,
and an end overrun above 2,000,000 µm loses the position. -/
def reachEnd (s : State) (p : Located) (h : Header) : State :=
  let overrun := p.overrun + (p.offset - endOffset h)
  if Config.overrunLimit < overrun then enterLost s
  else s.setOpu { s.opu with
    position := some { p with offset := endOffset h, overrun := overrun } }

/-- The offset tested against the current segment's length, and the car moved on, while the header is
held and the offset at or beyond its length (R27). One unit of fuel a test (log 10). -/
def advanceFrom : (fuel : Nat) → State → State
  | 0, s => s
  | fuel + 1, s =>
    match s.opu.position with
    | none => s
    | some p =>
      let looked := lookupHeader true s p.segment
      match looked.2 with
      | none => looked.1
      | some h =>
        if p.offset < h.length * 1000 then looked.1
        else if h.succ0 = 0 then reachEnd looked.1 p h
        else
          let next := chosenSuccessor looked.1.opu.route p.segment h
          let left := leaveSegment looked.1 p.segment h
          advanceFrom fuel (left.setOpu { left.opu with
            position := some { p with segment := next, offset := p.offset - h.length * 1000,
                                      overrun := 0 } })

/-- An offset above 65,535,999 µm at the end of the stage loses the position (R30). -/
def offsetOverflow (s : State) : State :=
  match s.opu.position with
  | some p => if Config.offsetLimit < p.offset then enterLost s else s
  | none => s

/-- Stage 3, advance by d (R26 to R30). -/
def advanceStage (s : State) : State :=
  match s.opu.position with
  | none => s
  | some p =>
    let sum := (p.offset : Int) + s.opu.lastDistance
    if sum < 0 then
      (s.setOpu { s.opu with position := some { p with offset := 0 } }).setFlag .rollback
    else
      offsetOverflow (advanceFrom (sum.toNat / 1000000 + 2)
        (s.setOpu { s.opu with position := some { p with offset := sum.toNat } }))

/-! ## Placement and report (R36, R37) -/

/-- Both axle points of a bogie, or neither (R37). -/
def placeBogie (s : State) (b : BogieId) : Option (RoutePoint × RoutePoint) :=
  let e := s.tables.bogie[b]
  if e.enabled then
    match placeBehind s.opu.position s.opu.trail (e.pivot - e.semi),
      placeBehind s.opu.position s.opu.trail (e.pivot + e.semi) with
    | some lead, some trail => some (lead, trail)
    | _, _ => none
  else none

/-- The axle point of a channel (R37). -/
def axlePoint (s : State) (c : ChannelId) : Option RoutePoint :=
  match placeBogie s (Fin.ofNat 4 (c.val / 2)) with
  | some pair => if c.val % 2 = 0 then some pair.1 else some pair.2
  | none => none

/-- How deep on the trail a point lies: 1 for the newest entry, 0 when it is not on the trail. -/
def trailDepth (p : Option RoutePoint) : Nat :=
  match p with
  | some { place := .trail n, .. } => n + 1
  | _ => 0

/-- The farthest trail depth of the placed axles (R37). -/
def farthestDepth (points : Vector (Option RoutePoint) 8) : Option Nat :=
  let depth := points.toList.foldl (fun d p => max d (trailDepth p)) 0
  if depth = 0 then none else some depth

/-- The position report that ends an update (R37). -/
def positionReport (s : State) : PositionReport :=
  let points := Vector.ofFn (axlePoint s)
  let v := speedOf s.opu.history s.tables.param.period
  { position := s.opu.position, distance := s.opu.lastDistance, speed := v,
    standstill := decide (v < s.tables.param.standstill), axle := points,
    depth := farthestDepth points }

/-- Stage 5 and 6: the axles placed and the report made (R37). -/
def placementStage (s : State) : State := s.setOpu { s.opu with report := positionReport s }

end Sys2Proof.Machine
end

