-- ==== Sys2Proof/Machine/Beacon.lean ====
section
/-! DEFINITION. The Beacon Reconciliation Unit (chapter 3): the beacon-derived position (R46), its
relation to the reference position (R47), the outcomes (R48 to R50) and drift (R51). -/

namespace Sys2Proof.Machine

/-- A derived position: segment, and offset in µm (R46). -/
structure Derived where
  segment : Nat
  offset  : Nat
  deriving DecidableEq, Repr

/-- The valid beacon entry with an identifier (R42). -/
def beaconFor (beacon : Vector (Option BeaconEntry) 64) (ident : Nat) : Option BeaconEntry :=
  beacon.toList.findSome? fun e =>
    match e with
    | some e => if e.ident = ident then some e else none
    | none => none

/-- The position on the trail of the newest entry with a segment number. -/
def newestOnTrail : (n : Nat) → List TrailEntry → (segment : Nat) → Option Nat
  | _, [], _ => none
  | n, e :: older, segment =>
    if e.segment = segment then some n else newestOnTrail (n + 1) older segment

/-- Where the walk from a beacon's place starts (R46): in the current segment, in its newest trail
entry, or else in the beacon's segment with the route queue's front entry. R46 does not say which wins when
the segment is both current and on the trail: the current segment (DESIGN CHOICE, log 36). -/
def beaconPlace (s : State) (segment : Nat) : Place :=
  match s.opu.position with
  | some p =>
    if p.segment = segment then .current
    else
      match newestOnTrail 0 s.opu.trail segment with
      | some n => .trail n
      | none => .beyond 0
  | none => .beyond 0

/-- Travelled since the passage, in µm (R46): none when the reference axle is unused or its slot holds
no value in its latest record. -/
def travelled (s : State) (n : Fin 2) (latched : Int) : Option Int :=
  match s.tables.axle[s.tables.param.readerAxle[n]] with
  | none => none
  | some a =>
    match s.sit.pulse[a.slot].latest with
    | none => none
    | some r => some (signedDiff r.value latched * (a.umPerPulse : Int))

/-- The total distance from the beacon, in µm (R46). -/
def totalDistance (s : State) (n : Fin 2) (travelledUm : Int) : Int :=
  (s.tables.param.readerOffset[n] : Int) * 1000 + travelledUm

/-- The beacon-derived position (R46), with the state after the walk's lookups; none when it cannot be
formed. A header that the walk misses makes its need while the position is LOST too, although R81 says that
nothing is fetched then (DEDUCED, log 37). -/
def derivedPosition (s : State) (n : Fin 2) (e : BeaconEntry) (latched : Int) :
    State × Option Derived :=
  match travelled s n latched with
  | none => (s, none)
  | some t =>
    let total := totalDistance s n t
    let d := floorDiv total 1000
    let rest := (total - d * 1000).toNat
    if 0 ≤ d then
      let start : RoutePoint :=
        { segment := e.segment, offset := e.offset, place := beaconPlace s e.segment }
      let w := walk .beacon s start d.toNat
      (w.state, w.stop.map fun p => { segment := p.segment, offset := p.offset * 1000 + rest })
    else if 0 ≤ (e.offset : Int) + d then
      (s, some { segment := e.segment, offset := ((e.offset : Int) + d).toNat * 1000 + rest })
    else (s, none)

/-! ## Relating (R47) -/

/-- The sum, in µm, of the lengths of the trail entries newer than the one in which a segment is met,
and that entry's length, walking back `r` mm beyond the current segment's start (R47; log 13). -/
def searchBehind : List TrailEntry → (r : Nat) → (segment newer : Nat) → Option Nat
  | [], _, _, _ => none
  | e :: older, r, segment, newer =>
    if e.segment = segment then some (newer + e.length * 1000)
    else if r ≤ e.length then none
    else searchBehind older (r - e.length) segment (newer + e.length * 1000)

/-- What a forward search leaves: the state after its lookups and, when the segment was met, the
distance in µm from the reference to its start and the segments passed, with their headers (R47). -/
structure Ahead where
  state : State
  met   : Option (Int × List (Nat × Header))
  deriving DecidableEq, Repr

/-- The forward search for a segment, from offset `off` of `segment` with `dist` mm to go; `gone` is the
distance in µm from the reference to this segment's start (R47; log 14). -/
def searchAhead : (fuel : Nat) → State → Place → (segment off dist : Nat) → (gone : Int) →
    (target : Nat) → Ahead
  | 0, s, _, _, _, _, _, _ => { state := s, met := none }
  | fuel + 1, s, place, segment, off, dist, gone, target =>
    let looked := lookupHeader true s segment
    match looked.2 with
    | none => { state := looked.1, met := none }
    | some h =>
      if off + dist < h.length then { state := looked.1, met := none }
      else if h.succ0 = 0 then { state := looked.1, met := none }
      else
        let next := walkSuccessor s.opu.route segment h (queueOf place)
        let start := gone + (h.length : Int) * 1000
        if next.1 = target then { state := looked.1, met := some (start, [(segment, h)]) }
        else
          let r := searchAhead fuel looked.1 (.beyond next.2) next.1 0 (off + dist - h.length) start
            target
          { r with met := r.met.map fun m => (m.1, (segment, h) :: m.2) }

/-- How a derived position lies to the reference position (R47): not found within the window, or found
with an error in µm in the current segment, behind it, or ahead of it past some segments. -/
inductive Relation where
  | notFound
  | same (error : Int)
  | behind (error : Int)
  | ahead (error : Int) (passed : List (Nat × Header))
  deriving DecidableEq, Repr

/-- The error of a relation, in µm, when one was formed (R47). -/
def Relation.error : Relation → Option Int
  | .notFound => none
  | .same e => some e
  | .behind e => some e
  | .ahead e _ => some e

/-- The search of R47 around a reference position, with the state after its lookups. -/
def relate (s : State) (p : Located) (d : Derived) : State × Relation :=
  let w := s.tables.param.window
  if d.segment = p.segment then (s, .same ((d.offset : Int) - p.offset))
  else
    let behind :=
      if mm p.offset < w then searchBehind s.opu.trail (w - mm p.offset) d.segment 0 else none
    match behind with
    | some back => (s, .behind (-((p.offset : Int) + back - d.offset)))
    | none =>
      let a := searchAhead (walkFuel (mm p.offset) w) s .current p.segment (mm p.offset) w
        (-(p.offset : Int)) d.segment
      match a.met with
      | some m => (a.state, .ahead (m.1 + d.offset) m.2)
      | none => (a.state, .notFound)

/-- The beacon agrees when it was found and its error is within the window (R47). -/
def agrees (window : Nat) (r : Relation) : Bool :=
  match r.error with
  | some e => decide (e.natAbs ≤ window * 1000)
  | none => false

/-- The error as reported: rounded to the nearest millimetre (R47). -/
def reportedError (r : Relation) : Option Int := r.error.map fun e => roundDiv e 1000

/-! ## Outcomes (R48 to R50) -/

/-- A count of 0 to 2 raised by 1 (R48, R49). -/
def raisedCount (n : Nat) : Nat := if n < 2 then n + 1 else 2

/-- The beacon report written (R53). -/
def writeReport (s : State) (outcome : BeaconOutcome) (ident : Nat) (error : Option Int) : State :=
  s.setBru { s.bru with report := { outcome := outcome, ident := some ident, error := error } }

/-- The derived position adopted (R49, R50): the trail is emptied and the state becomes ESTIMATED. -/
def adopt (s : State) (d : Derived) : State :=
  (s.setOpu { s.opu with
    position := some { segment := d.segment, offset := d.offset, overrun := 0, confirmed := false }
    trail := [] }).setBru { s.bru with disagreement := 0, distance := 0 }

/-- The segments up to the derived one left one after another (R48). -/
def leaveSegments (s : State) (passed : List (Nat × Header)) : State :=
  passed.foldl (fun t sh => leaveSegment t sh.1 sh.2) s

/-- The reference position corrected by an agreement (R48), before the counts. -/
def correct (s : State) (p : Located) (d : Derived) (r : Relation) : State :=
  match r with
  | .same _ => s.setOpu { s.opu with position := some { p with offset := d.offset } }
  | .behind _ => s.setOpu { s.opu with position := some { p with offset := 0 } }
  | .ahead _ passed =>
    let left := leaveSegments s passed
    left.setOpu { left.opu with
      position := some { p with segment := d.segment, offset := d.offset, overrun := 0 } }
  | .notFound => s

/-- The position state confirmed or not, by the agreement count (R48). -/
def State.setConfirmed (s : State) (c : Bool) : State :=
  s.setOpu { s.opu with position := s.opu.position.map fun p => { p with confirmed := c } }

/-- An agreement (R48). -/
def agree (s : State) (p : Located) (d : Derived) (r : Relation) (ident : Nat) : State :=
  let corrected := correct s p d r
  let count := raisedCount s.bru.agreement
  let counted := corrected.setBru { corrected.bru with
    agreement := count, disagreement := 0, distance := 0 }
  writeReport (counted.setConfirmed (p.confirmed || count == 2)) .agreed ident (reportedError r)

/-- A disagreement while the position is ESTIMATED or CONFIRMED (R49). -/
def disagree (s : State) (d : Option Derived) (error : Option Int) (ident : Nat) : State :=
  let count := raisedCount s.bru.disagreement
  let counted := (s.setBru { s.bru with agreement := 0, disagreement := count }).setFlag
    .beaconDisagree
  match d with
  | some d =>
    if count = 2 then writeReport (adopt counted d) .adopted ident error
    else writeReport counted .disagreed ident error
  | none => writeReport counted .disagreed ident error

/-- A known beacon handled in LOST (R50). -/
def handleLost (s : State) (d : Option Derived) (ident : Nat) : State :=
  match d with
  | some d =>
    let adopted := adopt s d
    writeReport (adopted.setBru { adopted.bru with agreement := 0 }) .adopted ident none
  | none => writeReport (s.setFlag .beaconDisagree) .disagreed ident none

/-- A known beacon handled (R45, R47 to R50). -/
def handleKnown (s : State) (n : Fin 2) (e : BeaconEntry) (b : PendingBeacon) : State :=
  let derived := derivedPosition s n e b.latched
  match derived.1.opu.position with
  | none => handleLost derived.1 derived.2 b.ident
  | some p =>
    match derived.2 with
    | none => disagree derived.1 none none b.ident
    | some d =>
      let related := relate derived.1 p d
      if agrees s.tables.param.window related.2 then agree related.1 p d related.2 b.ident
      else disagree related.1 (some d) (reportedError related.2) b.ident

/-- A reader slot cleared (R45). -/
def clearReader (s : State) (n : Fin 2) : State :=
  s.setBru { s.bru with reader := s.bru.reader.set n.val none }

/-- A reader slot handled if pending (R45), and cleared. -/
def handleReader (s : State) (n : Fin 2) : State :=
  match s.bru.reader[n] with
  | none => s
  | some b =>
    match beaconFor s.tables.beacon b.ident with
    | none => clearReader (writeReport (s.setFlag .beaconUnknown) .unknown b.ident none) n
    | some e => clearReader (handleKnown s n e b) n

/-! ## Drift (R51) and stage 4 -/

/-- The drift limit in µm. -/
def driftLimit (s : State) : Nat := s.tables.param.drift * 1000000

/-- The distance since confirmation after an update (R51). -/
def driftedDistance (s : State) : Nat :=
  min (s.bru.distance + s.opu.lastDistance.natAbs) (driftLimit s + 1)

/-- The distance since confirmation updated, and a CONFIRMED position beyond the drift limit made
ESTIMATED (R51). -/
def driftStage (s : State) : State :=
  match s.opu.position with
  | none => s
  | some p =>
    let t := s.setBru { s.bru with distance := driftedDistance s }
    t.setOpu { t.opu with
      position := some { p with confirmed := p.confirmed && decide (driftedDistance s ≤ driftLimit s) } }

/-- Stage 4, beacon reconciliation (R45). -/
def beaconStage (s : State) : State := handleReader (handleReader (driftStage s) 0) 1

end Sys2Proof.Machine
end

