-- ==== Sys2Proof/Machine/Position.lean ====
section
/-! DEFINITION. The position update (R19) and what its report starts: the in-use set (R66, R67), the
prefetch needs (R68) and the window report; the command POSITION_UPDATE. -/

namespace Sys2Proof.Machine

/-- The largest semi-wheelbase among the enabled bogies, 0 when none is (R67). -/
def largestSemi (s : State) : Nat :=
  (List.finRange 4).foldl (fun m b =>
    if s.tables.bogie[b].enabled then max m s.tables.bogie[b].semi else m) 0

/-- The in-use reach (R67): the larger of the prefetch horizon and 5000 mm plus twice the largest
semi-wheelbase. -/
def inUseReach (s : State) : Nat :=
  max s.tables.param.horizon (Config.lookAheadLimit + 2 * largestSemi s)

/-- The segments of the trail from the newest to the farthest depth (R66). -/
def trailInUse (s : State) : List Nat :=
  (s.opu.trail.take (s.opu.report.depth.getD 0)).map TrailEntry.segment

/-- The prefetch segments of a walk (R68): the one it starts in, and those entered before the horizon
is used up; with a horizon of 0 the current segment alone (log 15). -/
def prefetchSegments (horizon : Nat) (visited : List Visit) : List Nat :=
  match visited with
  | [] => []
  | start :: rest =>
    firstOccurrences (start.segment ::
      (rest.filter fun v => decide (horizon ≠ 0) && decide (v.entered < (horizon : Int))).map Visit.segment)

/-- The sub-blocks of a held segment that are not valid, as a mask. -/
def missingBlocks (c : Content) : BitVec 8 :=
  (List.finRange 8).foldl (fun m k => if c.blocks[k].isNone then m ||| BitVec.twoPow 8 k.val else m) 0

/-- The prefetch need of a segment (R68), none when all of it is held. -/
def prefetchNeed (s : State) (segment : Nat) : Option Need :=
  match contentOf s segment with
  | none => some (wholeNeed segment)
  | some c =>
    if missingBlocks c = 0 then none
    else some { segment := segment, header := false, blocks := missingBlocks c }

/-- The in-use set replaced at a position report, and the prefetch needs formed and held (R66 to
R68). -/
def recomputeInUse (s : State) : State :=
  match s.opu.position with
  | none => s.setSgc { s.sgc with inUse := [], held := [] }
  | some p =>
    let w := walk .segmentCache s { segment := p.segment, offset := mm p.offset, place := .current }
      (inUseReach s)
    let needs := (prefetchSegments s.tables.param.horizon w.visited).filterMap (prefetchNeed w.state)
    w.state.setSgc { w.state.sgc with
      inUse := firstOccurrences (p.segment :: (trailInUse s ++ w.visited.map Visit.segment))
      held := needs }

/-- The window report (R67): the steering computation starts with bogie 0 (R84). When the part is not
ACTIVE the end of lookups is reported at once, and the prefetch needs are made (R68, R85). -/
def windowReport (s : State) : State :=
  let started := s.setSlu { s.slu with next := some 0 }
  if s.sdu.part = .active then started else makeHeldNeeds started

/-- The position update of a cycle (R19). -/
def positionUpdate (s : State) : State :=
  let begun := s.setOpu { s.opu with updateDue := false }
  let moved := advanceStage (speedStage (odometryStage begun))
  windowReport (recomputeInUse (placementStage (beaconStage moved)))

/-- POSITION_UPDATE (R19): the update of a taken mark; without one due it does not happen (log 4). -/
def execPositionUpdate (s : State) : Host.Outcome State Fault Refusal :=
  .next (if s.opu.updateDue then positionUpdate s else s)

end Sys2Proof.Machine
end

