-- ==== Sys2Proof/Machine/Intake.lean ====
section
/-! DEFINITION. The Sample Intake (chapter 1): items of SAMPLE frames (R6 to R10, R44), freshness at a
cycle mark (R11, R12), emptying of slots (R4, R5), and the commands SAMPLE and SAMPLE_EXPIRED. -/

namespace Sys2Proof.Machine

/-- The valid entry that has a pair of node address and item number (R7). -/
def sourceFor (source : Vector (Option SourceEntry) 24) (node item : Nat) : Option SourceEntry :=
  source.toList.findSome? fun e =>
    match e with
    | some e => if e.node = node ∧ e.item = item then some e else none
    | none => none

/-- One pulse slot replaced. -/
def State.setPulse (s : State) (n : Fin 8) (x : Slot) : State :=
  s.setSit { s.sit with pulse := s.sit.pulse.set n.val x }

/-- One gap slot replaced. -/
def State.setGap (s : State) (n : Fin 8) (x : Slot) : State :=
  s.setSit { s.sit with gap := s.sit.gap.set n.val x }

/-- A slot whose latest record takes an accepted value (R8, R9). -/
def Slot.store (x : Slot) (value : Int) (cycle : Nat) : Slot :=
  { x with latest := some { value := value, arrival := cycle }, expired := false }

/-- A beacon handed to a reader slot (R44): stored when the slot is clear, lost with BEACON_OVERRUN when
it is pending. -/
def handBeacon (s : State) (n : Fin 2) (ident : Nat) (latched : Int) : State :=
  match s.bru.reader[n] with
  | none => s.setBru { s.bru with
      reader := s.bru.reader.set n.val (some { ident := ident, latched := latched }) }
  | some _ => s.setFlag .beaconOverrun

/-- One item handled (R7 to R10). -/
def handleItem (node : Nat) (s : State) (i : SampleItem) : State :=
  match sourceFor s.tables.source node i.item with
  | none => s
  | some e =>
    match e.target with
    | .pulse n =>
      if i.info = 0 then s.setPulse n (s.sit.pulse[n].store (i.value.toNat : Int) s.csu.cycle) else s
    | .gap n =>
      if i.info = 0 then
        s.setGap n (s.sit.gap[n].store (limitInt (-Config.gapLimit) Config.gapLimit i.value.toInt)
          s.csu.cycle)
      else s
    | .beacon n => if i.info = 0 then s else handBeacon s n i.info (i.value.toNat : Int)

/-- A SAMPLE payload is 2 to 24 words of an even number (R6). -/
def sampleLengthOk (payload : List Word) : Bool :=
  decide (2 ≤ payload.length) && decide (payload.length ≤ Config.maxPayload) &&
  payload.length % 2 == 0

/-- A delivered SAMPLE frame handled (R6, R7). -/
def handleSample (s : State) (source : Addr) (payload : List Word) : State :=
  if sampleLengthOk payload then (itemsOf payload).foldl (handleItem source.toNat) s
  else s.setFlag .rxReject

/-! ## Cycle marks (R11, R12) -/

/-- The age of a record against the cycle counter (R11). -/
def recordAge (cycle : Nat) (r : Stamped) : Nat := (cycle + 65536 - r.arrival) % 65536

/-- A slot's view that finds its record too old: the record is marked expired, and the view is a copy
of it with state STALE (R11). -/
def Slot.expire (x : Slot) : Slot := { x with expired := true, view := x.latest, state := .stale }

/-- A slot evaluated at a mark against the raised counter (R11); `maxAge` is that of the configuring
entry, none when the slot is not configured. -/
def Slot.evaluate (x : Slot) (maxAge : Option Nat) (cycle : Nat) : Slot :=
  match x.latest with
  | none => { x with view := none, state := .empty }
  | some r =>
    match maxAge with
    | none => x.expire
    | some limit =>
      if x.expired then { x with view := x.latest, state := .stale }
      else if recordAge cycle r ≤ limit then { x with view := x.latest, state := .fresh }
      else x.expire

/-- All sixteen slots evaluated, and SAMPLE_STALE set when its condition holds (R11, R12). -/
def evaluateSlots (s : State) : State :=
  let t := s.setSit { s.sit with
    pulse := Vector.ofFn fun n : Fin 8 =>
      s.sit.pulse[n].evaluate (maxAgeOf s.tables.source (.pulse n)) s.csu.cycle
    gap := Vector.ofFn fun n : Fin 8 =>
      s.sit.gap[n].evaluate (maxAgeOf s.tables.source (.gap n)) s.csu.cycle }
  t.setFlagIf (sampleStaleCondition t) .sampleStale

/-- Whether a configured slot holds a record that is not expired and older than its max age (R11). A slot that
the last mark found FRESH is not tested again before the next mark, which is the first to use a new max age (R4,
R5). -/
def Slot.tooOld (x : Slot) (maxAge : Option Nat) (cycle : Nat) : Bool :=
  match x.latest, maxAge with
  | some r, some limit =>
    !x.expired && decide (x.state ≠ .fresh) && decide (limit < recordAge cycle r)
  | _, _ => false

/-- One slot's record expired, if it is too old (R11), with SAMPLE_STALE (R12). -/
def expireSlot (s : State) (name : SlotName) : State :=
  match name with
  | .pulse n =>
    if s.sit.pulse[n].tooOld (maxAgeOf s.tables.source (.pulse n)) s.csu.cycle then
      (s.setPulse n s.sit.pulse[n].expire).setFlag .sampleStale
    else s
  | .gap n =>
    if s.sit.gap[n].tooOld (maxAgeOf s.tables.source (.gap n)) s.csu.cycle then
      (s.setGap n s.sit.gap[n].expire).setFlag .sampleStale
    else s

/-! ## Emptying (R4, R5) -/

/-- A slot emptied (R5), with a pulse slot's previous count; a reader slot is not touched (R4). -/
def emptySlot (s : State) (target : SlotTarget) : State :=
  match target with
  | .pulse n => s.setSit { s.sit with
      pulse := s.sit.pulse.set n.val Slot.emptied, previous := s.sit.previous.set n.val none }
  | .gap n => s.setSit { s.sit with gap := s.sit.gap.set n.val Slot.emptied }
  | .beacon _ => s

/-- Whether a Source Table write leaves validity, node, item, kind and slot as they are, so that no
slot is affected (R4). -/
def sameSource (old new : Option SourceEntry) : Bool :=
  match old, new with
  | some a, some b => decide (a.node = b.node ∧ a.item = b.item ∧ a.target = b.target)
  | none, none => true
  | _, _ => false

/-- The slot of an entry emptied, if there is an entry (R4). -/
def emptySlotOf (s : State) (e : Option SourceEntry) : State :=
  match e with
  | some e => emptySlot s e.target
  | none => s

/-- A Source Table entry stored, the affected slots emptied (R4), and SAMPLE_STALE evaluated (R12). -/
def storeSource (s : State) (i : Fin 24) (new : Option SourceEntry) : State :=
  let old := s.tables.source[i]
  let stored := s.setTables { s.tables with source := s.tables.source.set i.val new }
  let t := if sameSource old new then stored else emptySlotOf (emptySlotOf stored old) new
  t.setFlagIf (sampleStaleCondition t) .sampleStale

/-! ## Commands -/

/-- SAMPLE: a delivered frame is handled by R6 to R10; none is delivered to a repeater (R14). -/
def execSample (frame : Delivery) (s : State) : Host.Outcome State Fault Refusal :=
  .next (if forwardOnly s then s else handleSample s frame.source frame.payload)

/-- SAMPLE_EXPIRED (R11): what the mark does to one slot whose record is too old (log 6). -/
def execSampleExpired (slot : SlotName) (s : State) : Host.Outcome State Fault Refusal :=
  .next (expireSlot s slot)

end Sys2Proof.Machine
end

