-- ==== Sys2Proof/Machine/Steering.lean ====
section
/-! DEFINITION. The Steering Law Unit (chapter 5): the determination of a bogie's state (R87), the
computation of a channel (R89 to R99), and the hand-off of its result (R84). -/

namespace Sys2Proof.Machine

/-! ## Curvature readings (R89, R93, R94) -/

/-- What steps 1 to 4 of a curvature reading find (R89): the index of the curvature point, the fraction
of 256 beyond it, its sub-block, and the header's length. -/
structure PointData where
  index  : Nat
  frac   : Nat
  block  : SubBlock
  length : Nat
  deriving DecidableEq, Repr

/-- κ_i of a reading (R89). -/
def PointData.kappa (d : PointData) : Int := d.block.points[Fin.ofNat 4 d.index]

/-- q of a reading at offset `x` (R89): floor(x × 8192 / length). -/
def readingScale (x length : Nat) : Nat := x * 8192 / length

/-- Steps 1 to 4 of a curvature reading at offset `x` of a segment (R89): none when missing. -/
def readPoint (s : State) (segment x : Nat) : State × Option PointData :=
  let looked := steeringHeader s segment
  match looked.2 with
  | none => (looked.1, none)
  | some h =>
    if h.length ≤ x then (looked.1, none)
    else
      let q := readingScale x h.length
      let found := steeringBlock looked.1 segment (Fin.ofNat 8 (q / 256 / 4))
      (found.1, found.2.map fun b => { index := q / 256, frac := q % 256, block := b,
                                       length := h.length })

/-- What the read of a neighbour gives (R93, R94): its curvature, or point 31 used alone, or the reading
is missing. -/
inductive Neighbour where
  | value (k : Int)
  | alone
  | missing
  deriving DecidableEq, Repr

/-- The neighbour of point 31 (R94): point 0 of the segment that a walk of length − x mm reaches, when
it leaves the reading's segment and that segment's sub-block 0 is held; else point 31 alone (log 12). -/
def neighbourBeyond (s : State) (pt : RoutePoint) (length : Nat) : State × Neighbour :=
  let w := walk .steering s pt (length - pt.offset)
  match w.stop with
  | none => (w.state, .alone)
  | some p =>
    if w.visited.length ≤ 1 then (w.state, .alone)
    else
      let found := steeringBlock w.state p.segment 0
      (found.1, match found.2 with
        | some b => .value b.points[(0 : Fin 4)]
        | none => .alone)

/-- The neighbour of a reading's point (R93). -/
def neighbour (s : State) (pt : RoutePoint) (d : PointData) : State × Neighbour :=
  if d.index < 31 then
    if (d.index + 1) / 4 = d.index / 4 then
      (s, .value d.block.points[Fin.ofNat 4 (d.index + 1)])
    else
      let found := steeringBlock s pt.segment (Fin.ofNat 8 ((d.index + 1) / 4))
      (found.1, match found.2 with
        | some b => .value b.points[(0 : Fin 4)]
        | none => .missing)
  else neighbourBeyond s pt d.length

/-- The interpolated reading (R89): κ_i + round((κ_next − κ_i) × f / 256). -/
def interpolate (kappa next : Int) (frac : Nat) : Int :=
  kappa + roundDiv ((next - kappa) * frac) 256

/-- A curvature reading at a point (R89): none when missing. -/
def curvatureReading (s : State) (pt : RoutePoint) : State × Option Int :=
  let read := readPoint s pt.segment pt.offset
  match read.2 with
  | none => (read.1, none)
  | some d =>
    if d.frac = 0 then (read.1, some d.kappa)
    else
      let n := neighbour read.1 pt d
      (n.1, match n.2 with
        | .value k => some (interpolate d.kappa k d.frac)
        | .alone => some d.kappa
        | .missing => none)

/-! ## Angles (R83, R90, R96 to R98) -/

/-- The speed band of a cycle (R83). -/
def speedBand (p : ParamEntry) (v : Nat) : Nat :=
  if v < p.threshold1 then 0 else if v < p.threshold2 then 1 else if v < p.threshold3 then 2 else 3

/-- The look-ahead distance (R90): min(floor(v × t_la / 1000), 5000) mm. -/
def lookAheadDistance (v tla : Nat) : Nat := min (v * tla / 1000) Config.lookAheadLimit

/-- The sign of a channel: +1 leading, −1 trailing (5.4). -/
def channelSign (c : ChannelId) : Int := if c.val % 2 = 0 then 1 else -1

/-- The feedforward angle (R96), scaled by 3/4 while the position is ESTIMATED. -/
def feedforward (sign : Int) (semi : Nat) (kappa : Int) (confirmed : Bool) : Int :=
  let delta := sign * roundDiv ((semi : Int) * kappa) 100
  if confirmed then delta else roundDiv (delta * 3) 4

/-- The lateral correction (R97), none when it is not applied: the gap view is not FRESH or K is 0. -/
def lateralCorrection (gap : Slot) (k : Nat) : Option Int :=
  if gap.state = .fresh ∧ k ≠ 0 then
    gap.view.map fun y => roundDiv ((k : Int) * y.value) 16
  else none

/-- An angle limited to ±θ_max (R98). -/
def limitAngle (thetaMax : Nat) (theta : Int) : Int := limitInt (-(thetaMax : Int)) thetaMax theta

/-! ## Channels -/

/-- One channel's last target and record written (R98, R99), with THETA_CLAMP when the limit changed the
angle. -/
def writeChannel (s : State) (c : ChannelId) (theta : Int) (record : ChannelRecord) : State :=
  let limited := limitAngle s.tables.channel[c].thetaMax theta
  let acted := decide (limited ≠ theta)
  (s.setSlu { s.slu with
    lastTarget := s.slu.lastTarget.set c.val limited
    record := s.slu.record.set c.val { record with limited := acted } }).setFlagIf acted .thetaClamp

/-- A channel that keeps its last target (R92, R98): in a FROZEN bogie, or with no curvature found. -/
def keepChannel (s : State) (c : ChannelId) (record : ChannelRecord) : State :=
  writeChannel s c s.slu.lastTarget[c] record

/-- A channel with target 0 and an emptied record (R87, R99): OFF and PASSIVE bogies. -/
def zeroChannel (s : State) (c : ChannelId) : State :=
  s.setSlu { s.slu with
    lastTarget := s.slu.lastTarget.set c.val 0
    record := s.slu.record.set c.val ChannelRecord.emptied }

/-- A channel whose record alone is emptied (R99): EXCLUDED bogies. -/
def emptyRecord (s : State) (c : ChannelId) : State :=
  s.setSlu { s.slu with record := s.slu.record.set c.val ChannelRecord.emptied }

/-- The curvature found for a channel, with its source (R92): the look-ahead point's, else the axle
point's, else none (HELD). -/
def channelCurvature (s : State) (axle : RoutePoint) (distance : Nat) :
    State × Option Int × CurvatureSource :=
  let w := walk .steering s axle distance
  let ahead := match w.stop with
    | some p => curvatureReading w.state p
    | none => (w.state, none)
  match ahead.2 with
  | some k => (ahead.1, some k, .lookAhead)
  | none =>
    let back := curvatureReading ahead.1 axle
    match back.2 with
    | some k => (back.1, some k, .axle)
    | none => (back.1, none, .held)

/-- A channel of a bogie in step 5 computed (R89 to R99); the second part says whether it marks the
bogie degraded (R95). -/
def computeChannel (s : State) (c : ChannelId) (semi : Nat) (axle : RoutePoint) : State × Bool :=
  let report := s.opu.report
  let band := speedBand s.tables.param report.speed
  let read := readPoint s axle.segment axle.offset
  let cls := match read.2 with
    | some d => d.block.gainClass
    | none => 0
  let entry := s.tables.gain[Fin.ofNat 16 (4 * band + cls)]
  let distance := lookAheadDistance report.speed entry.lookAheadTime
  let found := channelCurvature read.1 axle distance
  let record : ChannelRecord :=
    { source := found.2.2, curvature := found.2.1, band := some band, gainClass := some cls,
      lookAhead := some distance, correction := none, limited := false }
  match found.2.1 with
  | none => (keepChannel found.1 c record, true)
  | some kappa =>
    let confirmed := match report.position with
      | some p => p.confirmed
      | none => false
    let corr := lateralCorrection s.sit.gap[c] entry.gain
    let theta := feedforward (channelSign c) semi kappa confirmed - corr.getD 0
    (writeChannel found.1 c theta { record with correction := corr },
     decide (found.2.2 ≠ .lookAhead))

/-! ## Determination (R84, R87) -/

/-- A bogie's stored state written, with DATA_MISSING when it is DEGRADED (R87, R101). -/
def storeBogieState (s : State) (b : BogieId) (state : BogieState) : State :=
  (s.setSlu { s.slu with bogieState := s.slu.bogieState.set b.val state }).setFlagIf
    (decide (state = .degraded)) .dataMissing

/-- A bogie's state determined and its channels computed, leading first (R87). -/
def determine (s : State) (b : BogieId) : State :=
  let lead := leadOf b
  let trail := trailOf b
  let entry := s.tables.bogie[b]
  if !entry.enabled || decide (s.sdu.part ≠ .active) then
    storeBogieState (zeroChannel (zeroChannel s lead) trail) b .off
  else if bogieExcluded s b then
    storeBogieState (emptyRecord (emptyRecord s lead) trail) b .excluded
  else if s.opu.report.standstill then
    storeBogieState (keepChannel (keepChannel s lead ChannelRecord.emptied) trail
      ChannelRecord.emptied) b .frozen
  else
    match s.opu.report.position, s.opu.report.axle[lead], s.opu.report.axle[trail] with
    | some _, some leadPoint, some trailPoint =>
      let first := computeChannel s lead entry.semi leadPoint
      let second := computeChannel first.1 trail entry.semi trailPoint
      storeBogieState second.1 b (if first.2 || second.2 then .degraded else .tracking)
    | _, _, _ => storeBogieState (zeroChannel (zeroChannel s lead) trail) b .passive

/-- The steering result of a determined bogie (R84): targets in ACTIVE, unless the bogie is
EXCLUDED. -/
def resultOf (s : State) (b : BogieId) : SteeringResult :=
  { bogie := b, state := s.slu.bogieState[b],
    targets :=
      if s.sdu.part = .active ∧ s.slu.bogieState[b] ≠ .excluded then
        some (s.slu.lastTarget[leadOf b], s.slu.lastTarget[trailOf b])
      else none }

/-- The result handed on for an enabled bogie outside CONFIG (R84): it waits for shaping, and the bogie
joins those awaiting offer (R145). -/
def handOn (s : State) (b : BogieId) : State :=
  if s.tables.bogie[b].enabled ∧ s.sdu.part ≠ .config then
    (s.setOsu { s.osu with results := s.osu.results ++ [resultOf s b] }).setCsu
      { s.csu with awaiting := s.csu.awaiting.set b.val true }
  else s

/-- Leaving ACTIVE, at the Steering Law Unit (R86): every bogie OFF, every last target 0. -/
def leaveActive (s : State) : State :=
  s.setSlu { s.slu with
    bogieState := Vector.replicate 4 .off
    lastTarget := Vector.replicate 8 0 }

end Sys2Proof.Machine
end

