-- ==== Sys2Proof/Machine/Shaping.lean ====
section
/-! DEFINITION. The Output Shaping Unit (chapter 6): target codes (R109, R110), the codes of a COMMAND
frame (R111, R112), issued codes (R113) and the copy error (R116). -/

namespace Sys2Proof.Machine

/-! ## Target codes (R110) -/

/-- The code before the range limit (R110): 32768 plus round(raw × (G + 1) / 65536) plus the trim, with
raw = round(θ / 4). -/
def calibrated (e : ChannelEntry) (theta : Int) : Int :=
  32768 + (roundDiv (roundDiv theta 4 * ((e.gain : Int) + 1)) 65536 + e.trim)

/-- The target code of an angle (R110). -/
def targetCode (e : ChannelEntry) (theta : Int) : Nat :=
  (limitInt e.codeMin e.codeMax (calibrated e theta)).toNat

/-- Whether the code range limit acts (R110). -/
def rangeLimits (e : ChannelEntry) (theta : Int) : Bool :=
  decide (limitInt e.codeMin e.codeMax (calibrated e theta) ≠ calibrated e theta)

/-- A channel's target code written, with its range-limited indicator (R110). -/
def writeTarget (s : State) (c : ChannelId) (code : Nat) (limited : Bool) : State :=
  s.setShaped c { s.osu.channel[c] with target := some code, rangeLimited := limited }

/-- The target codes of a bogie's channels for their target angles (R110). -/
def shapedPair (s : State) (b : BogieId) (targets : Int × Int) : CodePair :=
  { lead := targetCode s.tables.channel[leadOf b] targets.1,
    trail := targetCode s.tables.channel[trailOf b] targets.2 }

/-- Both channels' target codes taken from their target angles (R109, R110). -/
def shapeTargets (s : State) (b : BogieId) (targets : Int × Int) : State :=
  writeTarget
    (writeTarget s (leadOf b) (shapedPair s b targets).lead
      (rangeLimits s.tables.channel[leadOf b] targets.1))
    (trailOf b) (shapedPair s b targets).trail
    (rangeLimits s.tables.channel[trailOf b] targets.2)

/-- The fallback codes of a bogie's channels. -/
def fallbackPair (s : State) (b : BogieId) : CodePair :=
  { lead := s.tables.channel[leadOf b].fallback, trail := s.tables.channel[trailOf b].fallback }

/-- Both channels' fallback codes taken as target codes, the range-limited indicators cleared (R109,
R110). -/
def shapeFallback (s : State) (b : BogieId) : State :=
  writeTarget (writeTarget s (leadOf b) (fallbackPair s b).lead false) (trailOf b)
    (fallbackPair s b).trail false

/-- A steering result shaped (R109): the state with its target codes, and the pair offered, none for an
empty offer. -/
def shapeResult (s : State) (r : SteeringResult) : State × Option CodePair :=
  if s.sdu.part = .config ∨ bogieExcluded s r.bogie = true then (s, none)
  else
    match (if s.sdu.part = .active then r.targets else none) with
    | some targets => (shapeTargets s r.bogie targets, some (shapedPair s r.bogie targets))
    | none => (shapeFallback s r.bogie, some (fallbackPair s r.bogie))

/-! ## Building (R111, R112) -/

/-- The inverse copy of a code: 65535 minus it (R111). -/
def inverseOf (code : Nat) : Nat := 65535 - code

/-- A channel passes the copy check (R111): it has no issued code, or its inverse copy is right. -/
def copyOk (x : OsuChannel) : Bool :=
  match x.issued with
  | none => true
  | some i => i.inverse == inverseOf i.code

/-- A code moved towards a target by no more than a step; a step of 0 allows any change (R112). -/
def stepTowards (code target step : Nat) : Nat :=
  if step = 0 then target
  else if code + step < target then code + step
  else if target + step < code then code - step
  else target

/-- The target of a channel at a build (R111): in ACTIVE the code handed in, limited to the range; else
its fallback code. -/
def buildTarget (s : State) (c : ChannelId) (code : Nat) : Nat :=
  let e := s.tables.channel[c]
  if s.sdu.part = .active then limitNat e.codeMin e.codeMax code else e.fallback

/-- The step that a build allows (R112). -/
def buildStep (s : State) (c : ChannelId) : Nat :=
  if s.sdu.part = .active then s.tables.channel[c].slew else s.tables.param.fallbackStep

/-- The code of a channel in a COMMAND frame (R111): its target, or its issued code stepped towards
it. -/
def buildCode (s : State) (c : ChannelId) (code : Nat) : Nat :=
  match s.osu.channel[c].issued with
  | none => buildTarget s c code
  | some i => stepTowards i.code (buildTarget s c code) (buildStep s c)

/-- A channel's issued code written, with its inverse copy (R113). -/
def issueCode (s : State) (c : ChannelId) (code : Nat) : State :=
  s.setShaped c { s.osu.channel[c] with issued := some { code := code, inverse := inverseOf code } }

/-- The codes of a COMMAND frame that left the queue become the issued codes of its channels (R113). -/
def issueFrame (s : State) (f : CommandFrame) : State :=
  issueCode (issueCode s (leadOf f.bogie) f.lead) (trailOf f.bogie) f.trail

/-- A failed copy check at the Output Shaping Unit (R116): the bogie is excluded, COPY_ERR set, the
fallback codes written as issued codes, its waiting frame withdrawn. -/
def copyError (s : State) (b : BogieId) : State :=
  let excluded := (s.setOsu { s.osu with excluded := s.osu.excluded.set b.val true }).setFlag .copyErr
  let issued := issueCode (issueCode excluded (leadOf b) (fallbackPair s b).lead) (trailOf b)
    (fallbackPair s b).trail
  withdrawBogie issued b

/-- All issued codes and inverse copies become none (R114). -/
def clearIssued (s : State) : State :=
  s.setOsu { s.osu with channel := s.osu.channel.map fun x => { x with issued := none } }

end Sys2Proof.Machine
end

