-- ==== Sys2Proof/Machine/Link.lean ====
section
/-! DEFINITION. The Actuator Link Supervisor (chapter 7): building COMMAND frames (R125), offers (R124),
ANSWER and NOTICE echoes (R127 to R129, R133 to R135), timeout and return (R130, R131), restart and
changes of part state (R122, R137); the commands ANSWER, NOTICE, RETURNED_COMMAND, ECHO_TIMEOUT. -/

namespace Sys2Proof.Machine

/-! ## Builds (R125, R132) -/

/-- The COMMAND frame of a build (R125). -/
def commandFor (s : State) (b : BogieId) (pair : CodePair) : CommandFrame :=
  { bogie := b, destination := BitVec.ofNat 6 s.tables.bogie[b].actuator,
    tag := BitVec.ofNat 10 s.csu.cycle, fallback := decide (s.sdu.part = .fallback),
    lead := buildCode s (leadOf b) pair.lead, trail := buildCode s (trailOf b) pair.trail }

/-- The link after its frame was taken by the queue (R125): AWAIT with the frame's tag and codes and the
target codes handed in, or IDLE without echo comparison; nothing is pending. -/
def Link.sent (l : Link) (compare : Bool) (f : CommandFrame) (pair : CodePair) : Link :=
  { l with
    pending := none
    outstanding :=
      if compare then
        some { tag := f.tag, codes := { lead := f.lead, trail := f.trail }, targets := pair, age := 0 }
      else none }

/-- The link after the queue refused its frame (R125): IDLE, the target codes pending. -/
def Link.refusedBy (l : Link) (pair : CodePair) : Link :=
  { l with pending := some pair, outstanding := none }

/-- The link after a failed copy check (R132). -/
def Link.copyFailed (l : Link) : Link :=
  { l with outstanding := none, pending := none, mismatch := 0 }

/-- A COMMAND frame built for a bogie from a pair of target codes (R111, R125), or the build ended by a
failed copy check (R116, R132). -/
def build (s : State) (b : BogieId) (pair : CodePair) : State :=
  if copyOk s.osu.channel[leadOf b] && copyOk s.osu.channel[trailOf b] then
    let f := commandFor s b pair
    let offered := offerCommand s f
    if commandTaken s b then
      offered.setLink b (s.als[b].sent s.tables.bogie[b].echoCompare f pair)
    else offered.setLink b (s.als[b].refusedBy pair)
  else (copyError s b).setLink b s.als[b].copyFailed

/-- An offer taken (R124). An offer for a bogie that has been disabled since its result was handed on
builds no frame, as R125 has it (log 17). -/
def takeOffer (s : State) (b : BogieId) (offer : Option CodePair) : State :=
  match offer with
  | none => s
  | some pair =>
    if !s.tables.bogie[b].enabled then s
    else if s.tables.bogie[b].echoCompare && s.als[b].outstanding.isSome then
      s.setLink b { s.als[b] with pending := some pair }
    else build s b pair

/-! ## Echoes (R127 to R129, R133 to R135) -/

/-- The enabled bogie whose actuator address is a source address (R127). -/
def bogieOf (s : State) (address : Addr) : Option BogieId :=
  (List.finRange 4).find? fun b =>
    s.tables.bogie[b].enabled && s.tables.bogie[b].actuator == address.toNat

/-- Whether a measured position lies beyond a channel's tracking limit from its issued code (R134);
false without an issued code. -/
def offTrack (s : State) (c : ChannelId) (measured : Nat) : Bool :=
  match s.osu.channel[c].issued with
  | none => false
  | some i => decide (s.tables.channel[c].trackLimit < ((measured : Int) - i.code).natAbs)

/-- A tracking count after an echo (R134). -/
def trackedCount (s : State) (c : ChannelId) (measured count : Nat) : Nat :=
  if offTrack s c measured then min (count + 1) 15 else 0

/-- Whether an echo sets TRACK_ERR for a channel (R134). -/
def trackError (s : State) (c : ChannelId) (measured count : Nat) : Bool :=
  offTrack s c measured && decide (s.tables.channel[c].trackCount ≤ trackedCount s c measured count)

/-- The measured positions and status of an echo stored, and the tracking counts updated (R133,
R134). -/
def storeEcho (s : State) (b : BogieId) (e : Echo) : State :=
  let l := s.als[b]
  let lead := e.measuredLead.toNat
  let trail := e.measuredTrail.toNat
  let stored := s.setLink b { l with
    measured := some { lead := lead, trail := trail }
    status := some (statusOf e.status)
    trackLead := trackedCount s (leadOf b) lead l.trackLead
    trackTrail := trackedCount s (trailOf b) trail l.trackTrail }
  (stored.setFlagIf (decide (statusOf e.status ≠ 0)) .actStatus).setFlagIf
    (trackError s (leadOf b) lead l.trackLead || trackError s (trailOf b) trail l.trackTrail)
    .trackErr

/-- A compared ANSWER that equals the outstanding command (R128): the exchange ends, and a pending pair
is built at once. -/
def answerEqual (s : State) (b : BogieId) : State :=
  let l := s.als[b]
  let ended := s.setLink b { l with mismatch := 0, outstanding := none }
  match l.pending with
  | some pair => build ended b pair
  | none => ended

/-- A compared ANSWER that differs (R129): the command is resent, or at the third mismatch the bogie is
excluded for actuator fault. -/
def answerDiffers (s : State) (b : BogieId) (o : Outstanding) : State :=
  let l := s.als[b]
  let count := l.mismatch + 1
  let flagged := s.setFlag .echoMismatch
  if count < 3 then
    build (flagged.setLink b { l with mismatch := count }) b (l.pending.getD o.targets)
  else
    withdrawBogie ((flagged.setLink b { l with
      mismatch := 3, excluded := true, outstanding := none, pending := none }).setFlag .actFault) b

/-- The comparison of an ANSWER (R128): made when the link is AWAIT and the tag is the outstanding
command's. -/
def compareAnswer (s : State) (b : BogieId) (tag : Tag) (e : Echo) : State :=
  match s.als[b].outstanding with
  | none => s
  | some o =>
    if tag = o.tag then
      if e.receivedLead.toNat = o.codes.lead ∧ e.receivedTrail.toNat = o.codes.trail then
        answerEqual s b
      else answerDiffers s b o
    else s

/-- An ANSWER handled (R127, R128): it ends the ignoring of notices, is stored, and compared. R134 does not say
whether its tracking comparison comes before the build that R128 and R129 can make, which may rewrite the issued
codes (R116): it comes first, with the storing (DESIGN CHOICE, log 39). -/
def handleAnswer (s : State) (source : Addr) (tag : Tag) (e : Echo) : State :=
  match bogieOf s source with
  | none => s
  | some b =>
    compareAnswer
      (storeEcho (s.setLink b { s.als[b] with notices := 0, ignoring := false }) b e) b tag e

/-- A NOTICE handled by the notice count (R127, R135). -/
def handleNotice (s : State) (source : Addr) (e : Echo) : State :=
  match bogieOf s source with
  | none => s
  | some b =>
    let l := s.als[b]
    if l.ignoring then s
    else if l.notices < 5 then
      storeEcho (s.setLink b { l with notices := l.notices + 1 }) b e
    else (s.setLink b { l with notices := 6, ignoring := true }).setFlag .noticeSat

/-! ## Timeout and return (R130, R131) -/

/-- An outstanding command whose age has reached the echo timeout of the last mark (R123) is ended, and
ECHO_TIMEOUT set (R130); before the first mark none is. -/
def timeoutLink (s : State) (b : BogieId) : State :=
  match s.als[b].outstanding, s.csu.echoLimit with
  | some o, some limit =>
    if limit ≤ o.age then
      (s.setLink b { s.als[b] with outstanding := none }).setFlag .echoTimeout
    else s
  | _, _ => s

/-- An outstanding command one cycle mark older (R130). -/
def Link.older (l : Link) : Link :=
  { l with outstanding := l.outstanding.map fun o => { o with age := o.age + 1 } }

/-- The ageing of a taken mark (R130). -/
def ageLinks (s : State) : State :=
  (List.finRange 4).foldl timeoutLink (s.setAls (s.als.map Link.older))

/-- A COMMAND of the part's own that came back (R131). -/
def handleReturnedCommand (s : State) (destination : Addr) : State :=
  let flagged := s.setFlag .actAbsent
  match bogieOf s destination with
  | none => flagged
  | some b => flagged.setLink b { s.als[b] with outstanding := none }

/-! ## Restart, re-admission, part states (R122, R136, R137) -/

/-- A restarted link (R122): only the actuator-fault exclusion is kept. -/
def Link.restarted (l : Link) : Link := { Link.initial with excluded := l.excluded }

/-- A bogie's link restarted (R122), and ACT_STATUS evaluated (R133). -/
def restartLink (s : State) (b : BogieId) : State :=
  let t := withdrawBogie (s.setLink b s.als[b].restarted) b
  t.setFlagIf (actStatusCondition t) .actStatus

/-- A re-admitted link (R136). -/
def Link.readmitted (l : Link) : Link :=
  if l.excluded then { l with excluded := false, mismatch := 0 } else l

/-- A link at an entry into CONFIG or STANDBY (R137). -/
def Link.ended (l : Link) : Link := { l with outstanding := none, pending := none, mismatch := 0 }

/-- Every link at an entry into CONFIG or STANDBY, the waiting COMMAND frames withdrawn (R137). -/
def endLinks (s : State) : State := withdrawAll (s.setAls (s.als.map Link.ended))

/-- Every link at an entry into FALLBACK (R137): the waiting frames are withdrawn, and the exchange of
each bogie whose frame is withdrawn is ended. -/
def fallbackLinks (s : State) : State :=
  withdrawAll (s.setAls (Vector.ofFn fun b : Fin 4 =>
    if commandWaits s b then { s.als[b] with outstanding := none } else s.als[b]))

/-! ## Commands -/

/-- ANSWER (R128). -/
def execAnswer (source : Addr) (tag : Tag) (echo : Echo) (s : State) :
    Host.Outcome State Fault Refusal :=
  .next (if forwardOnly s then s else handleAnswer s source tag echo)

/-- NOTICE (R135); its tag is not used. -/
def execNotice (source : Addr) (_tag : Tag) (echo : Echo) (s : State) :
    Host.Outcome State Fault Refusal :=
  .next (if forwardOnly s then s else handleNotice s source echo)

/-- RETURNED_COMMAND (R131): whatever the returned frame's tag. -/
def execReturnedCommand (destination : Addr) (_tag : Tag) (s : State) :
    Host.Outcome State Fault Refusal :=
  .next (if forwardOnly s then s else handleReturnedCommand s destination)

/-- ECHO_TIMEOUT (R130): what the ageing mark does to one command whose age has reached E (log 6). -/
def execEchoTimeout (bogie : BogieId) (s : State) : Host.Outcome State Fault Refusal :=
  .next (timeoutLink s bogie)

end Sys2Proof.Machine
end

