-- ==== Sys2Proof/Machine/PartState.lean ====
section
/-! DEFINITION. Part states (chapter 10): the consistency check (R169), what each entry does at every
block (R171), and supervision expiry (R150); the command SUPERVISION_EXPIRY. -/

namespace Sys2Proof.Machine

/-! ## Consistency check (R169) -/

/-- Whether an enabled bogie's actuator address is 1 to 62 and not the part's own (R169, R121). -/
def actuatorOk (own : Addr) (e : BogieEntry) : Bool :=
  decide (1 ≤ e.actuator) && decide (e.actuator ≤ 62) && decide (e.actuator ≠ own.toNat)

/-- The reason of the first condition that fails, none when the check passes (R169). -/
def inconsistency (s : State) : Option Nat :=
  if !((List.finRange 4).any fun b => s.tables.bogie[b].enabled) then some 1
  else if !((List.finRange 4).all fun b =>
      !s.tables.bogie[b].enabled || actuatorOk s.rpu.own s.tables.bogie[b]) then some 2
  else if !(s.tables.axle.toList.any fun a =>
      match a with
      | some a => a.odometry
      | none => false) then some 4
  else none

/-! ## Supervision (R140, R149 to R151) -/

/-- The effective timeout in ms (R140): the larger of T_ka and 2 × P. -/
def effectiveTimeout (p : ParamEntry) : Nat := max p.timeout (2 * p.period)

/-- The supervision timer stopped at 0. -/
def timerStopped : SupervisionTimer := { counting := false, elapsed := 0 }

/-! ## Entries (R171) -/

/-- What leaving ACTIVE does at the Steering Law Unit, when the part is in ACTIVE (R86). -/
def leaveIfActive (s : State) : State := if s.sdu.part = .active then leaveActive s else s

/-- The held prefetch needs made when the part has left ACTIVE: no later bogie of the cycle is computed,
so the end of lookups is reported (R85; log 18). -/
def endLookupsIfLeft (was : PartState) (s : State) : State :=
  if was = .active then makeHeldNeeds s else s

/-- Entry into CONFIG (R171). -/
def enterConfig (s : State) : State :=
  let ended := endLinks (leaveIfActive s)
  let stopped := ended.setCsu { ended.csu with supervision := timerStopped, rearm := false }
  endLookupsIfLeft s.sdu.part
    (stopped.setSdu { stopped.sdu with part := .config, deferred := false })

/-- Entry into STANDBY (R171): issued codes none, links ended, supervision started. -/
def enterStandby (s : State) : State :=
  let ended := endLinks (clearIssued (leaveIfActive s))
  let started := ended.setCsu { ended.csu with
    supervision := timerStarted, rearm := false, standbyStart := true }
  endLookupsIfLeft s.sdu.part
    (started.setSdu { started.sdu with part := .standby, deferred := false })

/-- Entry into ACTIVE, at a cycle close (R170, R171). -/
def enterActive (s : State) : State := s.setSdu { s.sdu with part := .active, deferred := false }

/-- Entry into FALLBACK on expiry (R150, R171): the timer stops at the value reached. -/
def enterFallback (s : State) : State :=
  let ended := fallbackLinks (leaveIfActive s)
  let stopped := ended.setCsu { ended.csu with
    supervision := { counting := false, elapsed := s.csu.supervision.elapsed }, rearm := false }
  endLookupsIfLeft s.sdu.part
    ((stopped.setSdu { stopped.sdu with part := .fallback, deferred := false }).setFlag .supExpired)

/-- Whether supervision counts: the timer counts, in STANDBY or ACTIVE (R149). -/
def supervised (s : State) : Bool :=
  s.csu.supervision.counting && (decide (s.sdu.part = .standby) || decide (s.sdu.part = .active))

/-- Whether the supervision timer has reached the effective timeout (R150). -/
def supervisionReached (s : State) : Bool :=
  supervised s &&
    decide (2 * effectiveTimeout s.tables.param ≤ s.csu.supervision.elapsed)

/-- Supervision tested (R150): it expires when the timer has reached the effective timeout. -/
def testSupervision (s : State) : State := if supervisionReached s then enterFallback s else s

/-- The time up to the effective timeout passed, and supervision expired (R150; log 7). -/
def expireSupervision (s : State) : State :=
  enterFallback (s.setCsu { s.csu with
    supervision := { s.csu.supervision with
      elapsed := max s.csu.supervision.elapsed (2 * effectiveTimeout s.tables.param) } })

/-- SUPERVISION_EXPIRY (R150): without a timer counting in STANDBY or ACTIVE it does not happen (log
4). -/
def execSupervisionExpiry (s : State) : Host.Outcome State Fault Refusal :=
  .next (if supervised s then expireSupervision s else s)

end Sys2Proof.Machine
end

