-- ==== Sys2Proof/Machine/Tables.lean ====
section
/-! DEFINITION. The tables (chapters 1 to 8, R186, R187): the checks of each TABLE_WRITE, its limits,
and the application of a request at once or at a cycle close, with the re-checks of R107, R121 and
R185; the application of POSITION_SET (R35) and of an invalidation (R76, R77). -/

namespace Sys2Proof.Machine

/-- What the owner's checks make of a write: refused for its state or its range, or accepted as it will
be applied, with the word whether a field was limited (R182). -/
inductive Verdict where
  | refusedState
  | refusedRange
  | accepted (request : HeldRequest) (limited : Bool)
  deriving DecidableEq, Repr

/-! ## Checks against other entries (R3, R16, R42, R121) -/

/-- Whether no other valid Source Table entry has the same node and item (R3). -/
def sourceKeyFree (t : Vector (Option SourceEntry) 24) (i : Fin 24) (e : SourceEntry) : Bool :=
  (List.finRange 24).all fun j =>
    decide (j = i) ||
    match t[j] with
    | some o => !(decide (o.node = e.node) && decide (o.item = e.item))
    | none => true

/-- Whether no other valid Source Table entry of the same kind names the same slot (R3). -/
def sourceSlotFree (t : Vector (Option SourceEntry) 24) (i : Fin 24) (e : SourceEntry) : Bool :=
  (List.finRange 24).all fun j =>
    decide (j = i) ||
    match t[j] with
    | some o => decide (o.target ≠ e.target)
    | none => true

/-- Whether no other used axle entry names the same pulse slot (R16). -/
def axleSlotFree (t : Vector (Option AxleEntry) 8) (i : Fin 8) (e : AxleEntry) : Bool :=
  (List.finRange 8).all fun j =>
    decide (j = i) ||
    match t[j] with
    | some o => decide (o.slot ≠ e.slot)
    | none => true

/-- Whether no other valid beacon entry carries the same identifier (R42). -/
def beaconIdentFree (t : Vector (Option BeaconEntry) 64) (i : Fin 64) (e : BeaconEntry) : Bool :=
  (List.finRange 64).all fun j =>
    decide (j = i) ||
    match t[j] with
    | some o => decide (o.ident ≠ e.ident)
    | none => true

/-- Whether no other enabled bogie entry has the same actuator address (R121). -/
def actuatorFree (t : Vector BogieEntry 4) (i : Fin 4) (e : BogieEntry) : Bool :=
  (List.finRange 4).all fun j =>
    decide (j = i) || !(t[j].enabled && t[j].actuator == e.actuator)

/-! ## The checks of each table -/

/-- An index in range, as an index (R3, R16, R121, R106, R82, R42). -/
def indexIn (n : Nat) (i : Nat) : Option (Fin n) := if h : i < n then some ⟨i, h⟩ else none

/-- The checks of a Source Table write, in their order (R3). -/
def checkSource (s : State) (index : Nat) (f : SourceFields) : Verdict :=
  if s.sdu.part = .active then .refusedState
  else
    match indexIn 24 index with
    | none => .refusedRange
    | some i =>
      if !f.valid then .accepted (.source i none) false
      else
        match f.target with
        | none => .refusedRange
        | some target =>
          let e : SourceEntry :=
            { node := f.node, item := f.item, target := target, maxAge := f.maxAge }
          if decide (1 ≤ f.node) && decide (f.node ≤ 62) && decide (f.node ≠ s.rpu.own.toNat) &&
              (decide (1 ≤ f.maxAge) || decide (f.kind = 3)) &&
              sourceKeyFree s.tables.source i e && sourceSlotFree s.tables.source i e then
            .accepted (.source i (some e)) false
          else .refusedRange

/-- The checks of an axle table write, in their order (R16). The pulse slot is a 4-bit field. -/
def checkAxle (s : State) (index um : Nat) (slot : Nat) (odometry : Bool) : Verdict :=
  if s.sdu.part = .active then .refusedState
  else
    match indexIn 8 index with
    | none => .refusedRange
    | some i =>
      if um = 0 then .accepted (.axle i none) false
      else
        match indexIn 8 slot with
        | none => .refusedRange
        | some n =>
          let e : AxleEntry := { umPerPulse := um, slot := n, odometry := odometry }
          if decide (5000 ≤ um) && decide (um ≤ 40000) && axleSlotFree s.tables.axle i e then
            .accepted (.axle i (some e)) false
          else .refusedRange

/-- The geometry checks of an enabled bogie (R17). -/
def geometryOk (e : BogieEntry) : Bool :=
  decide (400 ≤ e.semi) && decide (e.semi ≤ 1500) && decide (e.pivot ≤ 40000) &&
  decide (e.semi ≤ e.pivot) && decide (e.pivot + e.semi ≤ 40000)

/-- The checks of a bogie table write, in their order (R17, R121). -/
def checkBogie (s : State) (index : Nat) (e : BogieEntry) : Verdict :=
  if s.sdu.part = .active then .refusedState
  else
    match indexIn 4 index with
    | none => .refusedRange
    | some i =>
      if !e.enabled ||
          (actuatorOk s.rpu.own e && actuatorFree s.tables.bogie i e && geometryOk e) then
        .accepted (.bogie i e) false
      else .refusedRange

/-- A channel entry limited field by field (R106). -/
def limitChannel (e : ChannelEntry) : ChannelEntry :=
  { e with
    thetaMax := limitNat 0 100000 e.thetaMax
    slew := limitNat 0 4095 e.slew
    trackCount := limitNat 1 15 e.trackCount
    fallback := limitNat e.codeMin e.codeMax e.fallback }

/-- The checks of a channel table write, in their order (R106). -/
def checkChannel (s : State) (index : Nat) (e : ChannelEntry) : Verdict :=
  match indexIn 8 index with
  | none => .refusedRange
  | some i =>
    if !(decide (-2048 ≤ e.trim) && decide (e.trim ≤ 2047)) then .refusedRange
    else if !decide (e.codeMin < e.codeMax) then .refusedRange
    else if decide (s.sdu.part = .config) ||
        (decide (e.codeMin = s.tables.channel[i].codeMin) &&
         decide (e.codeMax = s.tables.channel[i].codeMax)) then
      .accepted (.channel i (limitChannel e)) (decide (limitChannel e ≠ e))
    else .refusedState

/-- A gain schedule entry limited (R82). -/
def limitGain (e : GainEntry) : GainEntry :=
  { lookAheadTime := limitNat 0 500 e.lookAheadTime, gain := limitNat 0 4095 e.gain }

/-- The check of a gain schedule write (R82). -/
def checkGain (index : Nat) (e : GainEntry) : Verdict :=
  match indexIn 16 index with
  | none => .refusedRange
  | some i => .accepted (.gain i (limitGain e)) (decide (limitGain e ≠ e))

/-- The checks of a beacon table write (R42). -/
def checkBeacon (s : State) (index : Nat) (f : BeaconFields) : Verdict :=
  match indexIn 64 index with
  | none => .refusedRange
  | some i =>
    if !f.valid then .accepted (.beacon i none) false
    else if decide (1 ≤ f.entry.ident) && decide (f.entry.ident ≤ 4095) &&
        decide (f.entry.segment ≠ 0) && decide (f.entry.segment ≠ 65535) &&
        decide (f.entry.offset ≤ 59999) && beaconIdentFree s.tables.beacon i f.entry then
      .accepted (.beacon i (some f.entry)) false
    else .refusedRange

/-- The parameter fields that are checked and refused (R187 step 1, R43, R83). -/
def paramRangeOk (f : ParamFields) : Bool :=
  decide (f.offset0 ≤ 40000) && decide (f.offset1 ≤ 40000) && decide (f.axle0 ≤ 7) &&
  decide (f.axle1 ≤ 7) && decide (1 ≤ f.threshold1) && decide (f.threshold3 ≤ 30000) &&
  decide (f.threshold1 < f.threshold2) && decide (f.threshold2 < f.threshold3)

/-- The parameter fields limited to their ranges (R187 step 2). -/
def limitParam (f : ParamFields) : ParamFields :=
  { f with
    period := limitNat 2 10 f.period
    timeout := limitNat 10 250 f.timeout
    standstill := limitNat 0 1000 f.standstill
    window := limitNat 100 5000 f.window
    drift := limitNat 50 2000 f.drift
    horizon := limitNat 0 60000 f.horizon
    fallbackStep := limitNat 0 4095 f.fallbackStep
    echoTimeout := limitNat 1 4 f.echoTimeout }

/-- The parameter table's entry from its fields, once they are checked. -/
def paramEntry (f : ParamFields) : ParamEntry :=
  { period := f.period, timeout := f.timeout, keepAlive := f.keepAlive, standstill := f.standstill,
    readerOffset := #v[f.offset0, f.offset1],
    readerAxle := #v[Fin.ofNat 8 f.axle0, Fin.ofNat 8 f.axle1], window := f.window,
    drift := f.drift, threshold1 := f.threshold1, threshold2 := f.threshold2,
    threshold3 := f.threshold3, horizon := f.horizon, fallbackStep := f.fallbackStep,
    echoTimeout := f.echoTimeout }

/-- The checks of a parameter table write (R187). -/
def checkParam (index : Nat) (f : ParamFields) : Verdict :=
  if index ≠ 0 then .refusedRange
  else if paramRangeOk f then
    .accepted (.param (paramEntry (limitParam f))) (decide (limitParam f ≠ f))
  else .refusedRange

/-! ## Application (R35, R107, R121, R122, R183 to R185) -/

/-- A Source Table entry applied, the checks against other entries made again (R185, R4). -/
def applySource (s : State) (i : Fin 24) (new : Option SourceEntry) : State :=
  match new with
  | none => storeSource s i none
  | some e =>
    if sourceKeyFree s.tables.source i e && sourceSlotFree s.tables.source i e then
      storeSource s i (some e)
    else (storeSource s i none).setFlag .valueClamp

/-- An axle table entry stored. -/
def storeAxle (s : State) (i : Fin 8) (new : Option AxleEntry) : State :=
  s.setTables { s.tables with axle := s.tables.axle.set i.val new }

/-- An axle table entry applied, the pulse-slot check made again (R185). -/
def applyAxle (s : State) (i : Fin 8) (new : Option AxleEntry) : State :=
  match new with
  | none => storeAxle s i none
  | some e =>
    if axleSlotFree s.tables.axle i e then storeAxle s i (some e)
    else (storeAxle s i none).setFlag .valueClamp

/-- A beacon table entry stored. -/
def storeBeacon (s : State) (i : Fin 64) (new : Option BeaconEntry) : State :=
  s.setTables { s.tables with beacon := s.tables.beacon.set i.val new }

/-- A beacon table entry applied, the identifier check made again (R185). -/
def applyBeacon (s : State) (i : Fin 64) (new : Option BeaconEntry) : State :=
  match new with
  | none => storeBeacon s i none
  | some e =>
    if beaconIdentFree s.tables.beacon i e then storeBeacon s i (some e)
    else (storeBeacon s i none).setFlag .valueClamp

/-- Whether a bogie write changes a link field that restarts the link (R122). -/
def linkFieldsDiffer (old new : BogieEntry) : Bool :=
  decide (old.enabled ≠ new.enabled) || decide (old.actuator ≠ new.actuator) ||
  decide (old.echoCompare ≠ new.echoCompare)

/-- A bogie table entry stored, its link restarted when its link fields change (R122). -/
def storeBogie (s : State) (i : Fin 4) (new : BogieEntry) : State :=
  let stored := s.setTables { s.tables with bogie := s.tables.bogie.set i.val new }
  if linkFieldsDiffer s.tables.bogie[i] new then restartLink stored i else stored

/-- A bogie table entry applied, the duplicate-address check made again (R121). -/
def applyBogie (s : State) (i : Fin 4) (new : BogieEntry) : State :=
  if !new.enabled || actuatorFree s.tables.bogie i new then storeBogie s i new
  else (storeBogie s i { new with enabled := false }).setFlag .valueClamp

/-- The channel entry that an applied write leaves (R107): outside CONFIG the entry keeps its code range
where the write's differs, the fallback code limited into it. -/
def appliedChannel (s : State) (i : Fin 8) (new : ChannelEntry) : ChannelEntry :=
  let old := s.tables.channel[i]
  if s.sdu.part = .config ∨ (old.codeMin = new.codeMin ∧ old.codeMax = new.codeMax) then new
  else
    { new with
      codeMin := old.codeMin
      codeMax := old.codeMax
      fallback := limitNat old.codeMin old.codeMax new.fallback }

/-- A channel table entry applied (R107). -/
def applyChannel (s : State) (i : Fin 8) (new : ChannelEntry) : State :=
  let e := appliedChannel s i new
  (s.setTables { s.tables with channel := s.tables.channel.set i.val e }).setFlagIf
    (decide (e.fallback ≠ new.fallback)) .valueClamp

/-- A POSITION_SET applied (R35), with the reconciliation counts of R52. -/
def applyPosition (s : State) (segment offset : Nat) (trail : List TrailEntry) : State :=
  (s.setOpu { s.opu with
    position := some { segment := segment, offset := offset * 1000, overrun := 0,
                       confirmed := false }
    trail := trail }).setBru { s.bru with agreement := 0, disagreement := 0, distance := 0 }

/-- A request applied, at once (R183) or from the posted slot (R184). -/
def applyRequest (s : State) (r : HeldRequest) : State :=
  match r with
  | .source i e => applySource s i e
  | .axle i e => applyAxle s i e
  | .bogie i e => applyBogie s i e
  | .channel i e => applyChannel s i e
  | .gain i e => s.setTables { s.tables with gain := s.tables.gain.set i.val e }
  | .beacon i e => applyBeacon s i e
  | .param e => s.setTables { s.tables with param := e }
  | .positionSet segment offset trail => applyPosition s segment offset trail
  | .invalidate segment => invalidateSegment s segment
  | .invalidateAll => invalidateAll s

end Sys2Proof.Machine
end

