-- ==== Sys2Proof/Machine/Cycle.lean ====
section
/-! DEFINITION. The cycle (chapter 8): marks (R142 to R144), CYCLE frames (R141, R147), the steps of the
computation in flight (R84, R109, R124, R145), cycle close (R146, R170, R184), and the time that passes
while no command waits (R144, R149, R154); the commands CYCLE, SUBSTITUTE_TIMER_EXPIRY,
BOGIE_DETERMINATION and SHAPING. -/

namespace Sys2Proof.Machine

/-! ## Cycle close (R146) -/

/-- Step 1: the computation becomes IDLE. -/
def becomeIdle (s : State) : State :=
  s.setCsu { s.csu with running := false, endReport := false }

/-- Step 2: the posted request applied, and the slot emptied (R184). -/
def applyPosted (s : State) : State :=
  match s.mrh.posted with
  | none => s
  | some p => applyRequest (s.setMrh { s.mrh with posted := none }) p.request

/-- Step 3: a deferred entry into ACTIVE taken, or cancelled with its reason (R170). -/
def takeDeferred (s : State) : State :=
  if s.sdu.deferred then
    match inconsistency s with
    | none => enterActive s
    | some reason => s.setSdu { s.sdu with deferred := false, reason := some reason }
  else s

/-- The three steps of cycle close (R146); supervision is tested after step 2, so that a lowered
timeout applied there expires at that close (R150; log 16). -/
def closeCycle (s : State) : State := takeDeferred (testSupervision (applyPosted (becomeIdle s)))

/-- Whether cycle close is due (R146): the end report is in, and no bogie awaits offer. -/
def closeDue (s : State) : Bool :=
  s.csu.running && s.csu.endReport && s.csu.awaiting.all fun w => !w

/-- Cycle close, when it is due (R146). -/
def closeIfDue (s : State) : State := if closeDue s then closeCycle s else s

/-! ## Marks (R142 to R144) -/

/-- The cycle counter after a taken mark: 65535 is followed by 0 (R142). -/
def nextCycle (n : Nat) : Nat := (n + 1) % 65536

/-- What a taken mark does at the Cycle and Supervision Unit itself (R142); the echo timeout in force is the
one that ages by this mark (R123). -/
def beginCycle (s : State) : State :=
  s.setCsu { s.csu with
    cycle := nextCycle s.csu.cycle, running := true, awaiting := Vector.replicate 4 false,
    endReport := false, echoLimit := some s.tables.param.echoTimeout }

/-- A cycle mark taken (R142): the counter is raised, the slots are evaluated against it, fetch entries
and outstanding commands age, and the position update of the cycle becomes due. -/
def takeMark (s : State) : State :=
  let aged := ageLinks (ageFetches (evaluateSlots (beginCycle s)))
  aged.setOpu { aged.opu with updateDue := true }

/-- The substitute timer reloaded with a time in half milliseconds (R144). -/
def reloadSubstitute (s : State) (time : Nat) : State :=
  s.setCsu { s.csu with substTimer := some time }

/-- Whether a cycle number continues the sequence (R141). -/
def inSequence (last : Option Nat) (number : Nat) : Bool :=
  match last with
  | some n => number == nextCycle n
  | none => false

/-- Whether a cycle number breaks the sequence; without a last number no test is made (R141). -/
def breaksSequence (last : Option Nat) (number : Nat) : Bool :=
  match last with
  | some n => number != nextCycle n
  | none => false

/-- Whether a CYCLE frame is a valid keep-alive (R147). -/
def validKeepAlive (s : State) (number : Nat) : Bool :=
  inSequence s.csu.lastNumber number || s.csu.standbyStart

/-- What a CYCLE frame of the right length does whether or not its mark can be taken (R141): sequence,
keep-alive, last number, substitute timer. -/
def hearCycle (s : State) (number : Nat) : State :=
  let flagged := s.setFlagIf (breaksSequence s.csu.lastNumber number) .cycleSeq
  let kept := if validKeepAlive s number then keepAlive flagged else flagged
  let last := kept.setCsu { kept.csu with lastNumber := some number, standbyStart := false }
  reloadSubstitute last (3 * s.tables.param.period)

/-- A delivered CYCLE frame handled (R141, R143). -/
def handleCycle (s : State) (payload : List Word) : State :=
  match payload with
  | [number] =>
    let heard := hearCycle s number.toNat
    if heard.csu.running then heard.setFlag .cycleOverrun else takeMark heard
  | _ => s.setFlag .rxReject

/-- The substitute counter raised, stopping at 65535 (R144). -/
def raisedSubstitutes (n : Nat) : Nat := if n < 65535 then n + 1 else 65535

/-- The substitute timer's expiry (R144). -/
def expireSubstitute (s : State) : State :=
  let reloaded := reloadSubstitute s (2 * s.tables.param.period)
  if reloaded.csu.running then reloaded.setFlag .cycleOverrun
  else
    let marked := (takeMark reloaded).setFlag .cycleSubst
    marked.setCsu { marked.csu with substitutes := raisedSubstitutes marked.csu.substitutes }

/-! ## The computation in flight (R84, R109, R124, R145) -/

/-- The end of the steering unit's work for the cycle (R84, R85): the held prefetch needs are made, the
end report reaches the Cycle and Supervision Unit. -/
def endWork (s : State) : State :=
  let made := makeHeldNeeds (s.setSlu { s.slu with next := none })
  closeIfDue (made.setCsu { made.csu with endReport := true })

/-- A bogie determined and handed on, and the next one begun, or the work ended after bogie 3 (R84). -/
def determineNext (s : State) (b : BogieId) : State :=
  let handed := handOn (determine s b) b
  if h : b.val + 1 < 4 then handed.setSlu { handed.slu with next := some ⟨b.val + 1, h⟩ }
  else endWork handed

/-- An offer counted by the Cycle and Supervision Unit (R145), empty or not. -/
def countOffer (s : State) (b : BogieId) : State :=
  closeIfDue (s.setCsu { s.csu with awaiting := s.csu.awaiting.set b.val false })

/-- A steering result shaped and offered (R109, R124). -/
def shapeAndOffer (s : State) (r : SteeringResult) : State :=
  let shaped := shapeResult s r
  countOffer (takeOffer shaped.1 r.bogie shaped.2) r.bogie

/-- The oldest steering result taken out of those handed on, if there is one. -/
def shapeNext (s : State) : State :=
  match s.osu.results with
  | [] => s
  | r :: rest => shapeAndOffer (s.setOsu { s.osu with results := rest }) r

/-! ## Time (R144, R149, R154) -/

/-- Half a millisecond of the substitute timer (R144). -/
def tickSubstitute (s : State) : State :=
  match s.csu.substTimer with
  | none => s
  | some n =>
    if n ≤ 1 then expireSubstitute s else s.setCsu { s.csu with substTimer := some (n - 1) }

/-- Half a millisecond of the supervision timer, which expires at the effective timeout (R149, R150). -/
def tickSupervision (s : State) : State :=
  if supervised s then
    testSupervision (s.setCsu { s.csu with
      supervision := { s.csu.supervision with elapsed := s.csu.supervision.elapsed + 1 } })
  else s

/-- Half a millisecond passes with no command waiting (DESIGN CHOICE, log 7): the gap after the last
frame is over, and the two timers run. -/
def tick (s : State) : State :=
  tickSupervision (tickSubstitute (s.setRpu { s.rpu with gap := false }))

/-! ## Commands -/

/-- CYCLE: a delivered frame is handled by R141 to R143, R147; none is delivered to a repeater (R153). -/
def execCycle (frame : Delivery) (s : State) : Host.Outcome State Fault Refusal :=
  .next (if forwardOnly s then s else handleCycle s frame.payload)

/-- SUBSTITUTE_TIMER_EXPIRY (R144): while the timer is stopped it does not happen (log 4, log 7). -/
def execSubstituteTimerExpiry (s : State) : Host.Outcome State Fault Refusal :=
  .next (if s.csu.substTimer.isSome then expireSubstitute s else s)

/-- BOGIE_DETERMINATION (R87), of the bogie whose turn it is; without work in the steering unit it does
not happen (log 4). One command makes all reads of the bogie, and a fill or a request of the route queue that
comes between two of them (R92, R102) is taken out of `within` before the read that it precedes (DESIGN CHOICE,
log 38). -/
def execBogieDetermination (s : State) : Host.Outcome State Fault Refusal :=
  .next (match s.slu.next with
    | some b => determineNext s b
    | none => s)

/-- SHAPING (R109), of the oldest steering result; without one it does not happen (log 4). -/
def execShaping (s : State) : Host.Outcome State Fault Refusal := .next (shapeNext s)

end Sys2Proof.Machine
end

