-- ==== Sys2Proof/Machine/Reports.lean ====
section
/-! DEFINITION. What the outside reads: the reply data of STATUS_READ,
TABLE_READ, CHANNEL_READ and CACHE_READ (R188, Tables 12.4 to 12.7). An absent value reads as 0
(R193). -/

namespace Sys2Proof.Machine

/-! ## Codes of states -/

/-- The reset cause's code (Table 12.6). -/
def ResetCause.code : ResetCause → Nat
  | .powerOn => 0 | .resetLine => 1 | .key => 2

/-- The beacon outcome's code (Table 12.6). -/
def BeaconOutcome.code : BeaconOutcome → Nat
  | .nothing => 0 | .unknown => 1 | .agreed => 2 | .disagreed => 3 | .adopted => 4

/-- The bogie state's code (Table 12.6). -/
def BogieState.code : BogieState → Nat
  | .off => 0 | .passive => 1 | .tracking => 2 | .degraded => 3 | .frozen => 4 | .excluded => 5

/-- The gap view's code (Table 12.7). -/
def Freshness.code : Freshness → Nat
  | .empty => 0 | .fresh => 1 | .stale => 2

/-- The curvature source's code (Table 12.7). -/
def CurvatureSource.code : CurvatureSource → Nat
  | .nothing => 0 | .lookAhead => 1 | .axle => 2 | .held => 3

/-- The function number of a request in the posted slot (Table 12.3). -/
def HeldRequest.function : HeldRequest → Nat
  | .positionSet _ _ _ => 5
  | .invalidate _ => 9
  | .invalidateAll => 9
  | .source _ _ => 2 | .axle _ _ => 2 | .bogie _ _ => 2 | .channel _ _ => 2
  | .gain _ _ => 2 | .beacon _ _ => 2 | .param _ => 2

/-- A mask with bit n set for each n of 0 to 7 that a test holds of. -/
def mask8 (p : Fin 8 → Bool) : Nat :=
  (List.finRange 8).foldl (fun m n => if p n then m + 2 ^ n.val else m) 0

/-! ## STATUS_READ (Table 12.6) -/

/-- STATUS_READ page 0, word 0. -/
def statusWord (s : State) : Word :=
  bitsAt 14 2 s.sdu.part.code ||| bitAt 13 s.sdu.deferred ||| bitsAt 10 3 (s.sdu.reason.getD 7) |||
  bitsAt 8 2 s.sdu.cause.code ||| bitAt 7 s.csu.running ||| bitAt 6 s.csu.supervision.counting |||
  bitAt 5 s.csu.rearm ||| bitAt 4 s.csu.lastNumber.isSome ||| bitAt 3 s.mrh.posted.isSome |||
  bitAt 2 s.mrh.prepare.isSome

/-- The function of the posted request, 0 when the slot is empty. -/
def postedFunction (s : State) : Nat :=
  match s.mrh.posted with
  | some p => p.request.function
  | none => 0

/-- STATUS_READ page 0 (R138, R152, R166, R179, R188); the supervision timer in whole ms. -/
def statusPage0 (s : State) : List Word :=
  [statusWord s] ++ wordPair s.sdu.flags ++
  [bitsAt 8 6 s.rpu.own.toNat ||| bitsAt 4 3 s.rpu.forward.length ||| bitsAt 0 4 (queueLength s.rpu),
   word s.csu.cycle, word s.csu.substitutes, word (s.csu.lastNumber.getD 0),
   word (s.csu.supervision.elapsed / 2), word (effectiveTimeout s.tables.param),
   bitsAt 12 4 (postedFunction s) |||
   bitsAt 8 4 (bogieMask fun b => s.als[b].outstanding.isSome) |||
   bitsAt 4 4 (bogieMask fun b => s.als[b].excluded) |||
   bitsAt 0 4 (bogieMask fun b => s.als[b].ignoring)]

/-- The current segment, or 0 (R40). -/
def reportedSegment (s : State) : Nat :=
  match s.opu.position with
  | some p => p.segment
  | none => 0

/-- The reference offset in mm, or 0 (R40). -/
def reportedOffset (s : State) : Nat :=
  match s.opu.position with
  | some p => mm p.offset
  | none => 0

/-- The beacon error as reported, limited to a signed word (R53). -/
def reportedBeaconError (s : State) : Int := limitInt (-32768) 32767 (s.bru.report.error.getD 0)

/-- The bogie states, three bits each (Table 12.6). -/
def bogieStateWord (s : State) : Word :=
  bitsAt 0 3 s.slu.bogieState[(0 : Fin 4)].code ||| bitsAt 3 3 s.slu.bogieState[(1 : Fin 4)].code |||
  bitsAt 6 3 s.slu.bogieState[(2 : Fin 4)].code ||| bitsAt 9 3 s.slu.bogieState[(3 : Fin 4)].code

/-- STATUS_READ page 1 (R13, R40, R53, R79, R103, R119, R188). -/
def statusPage1 (s : State) : List Word :=
  [word (reportedSegment s), word (reportedOffset s), word s.opu.report.speed,
   bitsAt 14 2 (positionCode s.opu.position) ||| bitsAt 10 4 s.opu.hold |||
   bitsAt 5 5 s.opu.route.length ||| bitsAt 0 4 s.opu.trail.length,
   bitsAt 14 2 s.bru.agreement ||| bitsAt 12 2 s.bru.disagreement |||
   bitAt 11 s.bru.reader[(0 : Fin 2)].isSome ||| bitAt 10 s.bru.reader[(1 : Fin 2)].isSome |||
   bitsAt 7 3 s.bru.report.outcome.code ||| bitAt 6 s.bru.report.error.isSome |||
   bitsAt 0 3 s.sgc.outstanding.length,
   word (s.bru.distance / 1000000), word (s.bru.report.ident.getD 0),
   signedWord (reportedBeaconError s),
   bitsAt 8 8 (mask8 fun n => decide (s.sit.pulse[n].state = .fresh)) |||
   bitsAt 0 8 (mask8 fun n => decide (s.sit.gap[n].state = .fresh)),
   bogieStateWord s,
   bitsAt 0 4 (bogieMask fun b => s.osu.excluded[b])]

/-- The data of a STATUS_READ, none for a page other than 0 and 1 (R188). -/
def statusData (s : State) (page : Nat) : Option (List Word) :=
  if page = 0 then some (statusPage0 s) else if page = 1 then some (statusPage1 s) else none

/-! ## TABLE_READ (Table 12.4) -/

/-- The data of a TABLE_READ, none for a table number or an index out of range (R188): a write in the
posted slot is not shown. -/
def tableData (t : Tables) (table index : Nat) : Option (List Word) :=
  if table = 1 then (indexIn 24 index).map fun i => sourceWords t.source[i]
  else if table = 2 then (indexIn 8 index).map fun i => axleWords t.axle[i]
  else if table = 3 then (indexIn 4 index).map fun i => bogieWords t.bogie[i]
  else if table = 4 then (indexIn 8 index).map fun i => channelWords t.channel[i]
  else if table = 5 then (indexIn 16 index).map fun i => gainWords t.gain[i]
  else if table = 6 then (indexIn 64 index).map fun i => beaconWords t.beacon[i]
  else if table = 7 then (indexIn 1 index).map fun _ => paramWords t.param
  else none

/-! ## CHANNEL_READ (Table 12.7) -/

/-- A pair's two words, zeros when it is absent. -/
def pairWords (p : Option CodePair) : List Word :=
  match p with
  | some p => [word p.lead, word p.trail]
  | none => [0, 0]

/-- The outstanding command's age and tag, 0 when there is none (Table 12.7). -/
def outstandingWord (l : Link) : Word :=
  match l.outstanding with
  | some o => bitsAt 12 3 o.age ||| bitsAt 0 10 o.tag.toNat
  | none => 0

/-- CHANNEL_READ part 0, the bogie's state and link (R103, R119, R138). -/
def bogiePart (s : State) (b : BogieId) : List Word :=
  let l := s.als[b]
  [bitsAt 13 3 s.slu.bogieState[b].code ||| bitAt 12 l.outstanding.isSome |||
   bitAt 11 l.pending.isSome ||| bitAt 10 l.measured.isSome ||| bitAt 9 l.status.isSome |||
   bitAt 8 s.osu.excluded[b] ||| bitAt 7 l.excluded ||| bitAt 6 l.ignoring |||
   bitsAt 4 2 l.mismatch ||| bitsAt 0 3 l.notices,
   outstandingWord l] ++ pairWords l.pending ++ pairWords l.measured ++
  [bitsAt 0 3 (match l.status with
    | some v => v.toNat
    | none => 0)]

/-- The tracking count of a channel (R134, R138). -/
def trackingCount (s : State) (c : ChannelId) : Nat :=
  let l := s.als[Fin.ofNat 4 (c.val / 2)]
  if c.val % 2 = 0 then l.trackLead else l.trackTrail

/-- An axle point's two words, zeros when unplaced (R40). -/
def pointWords (p : Option RoutePoint) : List Word :=
  match p with
  | some p => [word p.segment, word p.offset]
  | none => [0, 0]

/-- A slot's view: its state, and its value when it has one (R13). -/
def viewWords (x : Slot) : List Word :=
  [bitsAt 14 2 x.state.code, match x.view with
    | some v => signedWord v.value
    | none => 0]

/-- CHANNEL_READ part 1 or 2, one channel (R13, R40, R99, R103, R119, R138). -/
def channelPart (s : State) (c : ChannelId) : List Word :=
  let r := s.slu.record[c]
  let x := s.osu.channel[c]
  [bitAt 15 s.opu.report.axle[c].isSome ||| bitAt 14 x.target.isSome ||| bitAt 13 x.rangeLimited |||
   bitAt 12 x.issued.isSome ||| bitAt 11 r.correction.isSome ||| bitAt 10 r.limited |||
   bitsAt 8 2 r.source.code ||| bitsAt 6 2 (r.band.getD 0) ||| bitsAt 4 2 (r.gainClass.getD 0) |||
   bitsAt 0 4 (trackingCount s c)] ++
  viewWords s.sit.gap[c] ++ pointWords s.opu.report.axle[c] ++
  wordPair (BitVec.ofInt 32 s.slu.lastTarget[c]) ++
  [word (r.lookAhead.getD 0), signedWord (r.curvature.getD 0)] ++
  wordPair (BitVec.ofInt 32 (r.correction.getD 0)) ++
  [word (x.target.getD 0), match x.issued with
    | some i => word i.code
    | none => 0]

/-- The data of a CHANNEL_READ, none for a bogie above 3 or a part above 2 (R188). -/
def channelData (s : State) (part bogie : Nat) : Option (List Word) :=
  match indexIn 4 bogie with
  | none => none
  | some b =>
    if part = 0 then some (bogiePart s b)
    else if part = 1 then some (channelPart s (leadOf b))
    else if part = 2 then some (channelPart s (trailOf b))
    else none

/-! ## CACHE_READ (Table 12.5) -/

/-- The mask of valid sub-blocks of a content. -/
def validMask (c : Content) : Nat := mask8 fun k => c.blocks[k].isSome

/-- The gain classes, packed as in the SEGMENT gain-class word (Table 12.5). -/
def gainClasses (c : Content) : Word :=
  (List.finRange 8).foldl (fun w k =>
    w ||| (match c.blocks[k] with
      | some b => bitsAt (2 * k.val) 2 b.gainClass
      | none => 0)) 0

/-- The four curvature points of a sub-block, zeros when it is not valid (R78). -/
def blockWords (b : Option SubBlock) : List Word :=
  match b with
  | some b => b.points.toList.map signedWord
  | none => [0, 0, 0, 0]

/-- The points of the four sub-blocks of a part, 0 or 1 (R78). -/
def partPoints (c : Content) (part : Fin 2) : List Word :=
  (List.finRange 4).flatMap fun k => blockWords c.blocks[Fin.ofNat 8 (4 * part.val + k.val)]

/-- The words of a way's content, zeros without a valid header (R78). -/
def contentWords (segment : Nat) (content : Option Content) (part : Fin 2) : List Word :=
  match content with
  | some c =>
    [word segment, word c.header.length, word c.header.succ0, word c.header.succ1, gainClasses c] ++
      partPoints c part
  | none => [word segment, 0, 0, 0, 0] ++ List.replicate 16 0

/-- The data of a CACHE_READ (R78): every word of a way that is not allocated is 0 (log 34). -/
def cacheWords (s : State) (i : Fin 64) (w : Fin 2) (part : Fin 2) : List Word :=
  match s.sgc.sets[i].ways[w] with
  | none => List.replicate 22 0
  | some l =>
    [bitAt 15 true ||| bitAt 14 (wayInUse s i w) ||| bitAt 13 (s.sgc.sets[i].lru == w) |||
     bitAt 12 l.content.isSome ||| bitsAt 0 8 (match l.content with
       | some c => validMask c
       | none => 0)] ++ contentWords (lineSegment i l) l.content part

/-- The data of a CACHE_READ, none for a set, a way or a part out of range (R78). -/
def cacheData (s : State) (set way part : Nat) : Option (List Word) :=
  match indexIn 64 set, indexIn 2 way, indexIn 2 part with
  | some i, some w, some p => some (cacheWords s i w p)
  | _, _, _ => none

end Sys2Proof.Machine
end

