-- ==== Sys2Proof/WellFormed.lean ====
section
/-! DEFINITION. Which commands the ring or the part itself can give: the bounds that a command's
operands have by the frame layout (chapter 12). The machine gives every command a meaning, well-formed
or not; the checks here say which terms stand for a command that can occur. -/

namespace Sys2Proof

/-- The payload of a frame is at most 24 words (R155, Table 12.1). -/
def Delivery.wf (d : Delivery) : Bool := decide (d.payload.length ≤ 24)

/-- Request data is what follows the first payload word: at most 23 words (R180). -/
def dataWf (data : List Word) : Bool := decide (data.length ≤ 23)

/-- Function values that name no request (Table 12.3). -/
def namesNoRequest (function : BitVec 4) : Bool :=
  function == 0 || function == 14 || function == 15

/-- A command that can occur: payloads and request data within a frame's size, a function number that
names no request in REFUSED_FUNCTION, a TABLE_WRITE or read within its argument's width by its type. -/
def Instr.wf : Instr → Bool
  | .powerOnReset _ => true
  | .resetLine _ => true
  | .frameClose burst => decide (burst.bytes ≠ [])
  | .sample d => d.wf
  | .answer _ _ _ => true
  | .notice _ _ _ => true
  | .segment d => d.wf
  | .cycle d => d.wf
  | .returnedCommand _ _ => true
  | .returnedFetch _ => true
  | .returnedReply => true
  | .substituteTimerExpiry => true
  | .sampleExpired _ => true
  | .fetchTimeout _ => true
  | .echoTimeout _ => true
  | .positionUpdate => true
  | .bogieDetermination => true
  | .shaping => true
  | .supervisionExpiry => true
  | .outSelection => true
  | .replyLeftOut _ => true
  | .statusRead _ _ data => dataWf data
  | .tableRead _ _ _ data => dataWf data
  | .tableWriteSource _ _ entry => dataWf entry
  | .tableWriteAxle _ _ entry => dataWf entry
  | .tableWriteBogie _ _ entry => dataWf entry
  | .tableWriteChannel _ _ entry => dataWf entry
  | .tableWriteGainSchedule _ _ entry => dataWf entry
  | .tableWriteBeacon _ _ entry => dataWf entry
  | .tableWriteParameter _ _ entry => dataWf entry
  | .stateSetConfig _ data => dataWf data
  | .stateSetStandby _ data => dataWf data
  | .stateSetActive _ data => dataWf data
  | .positionSet _ _ data => dataWf data
  | .routeAppend _ _ data => dataWf data
  | .routeClear _ data => dataWf data
  | .diagAck _ data => dataWf data
  | .cacheInvalidate _ data => dataWf data
  | .cacheInvalidateAll _ data => dataWf data
  | .cacheRead _ data => dataWf data
  | .channelRead _ _ _ data => dataWf data
  | .resetPrepare _ data => dataWf data
  | .resetConfirm _ data => dataWf data.words
  | .refusedFunction _ function data => namesNoRequest function && dataWf data
  | .lineIdle => true
  | .frameTransmissionEnd => true

end Sys2Proof
end

