-- ==== Sys2Proof/Machine/Management.lean ====
section
/-! DEFINITION. The Management Request Handler (chapter 11): posting (R183), every request with its checks
(R182), and their commands, each on the path of Reply.lean. -/

namespace Sys2Proof.Machine

/-- A read request answered (R188): DONE with its data, or REFUSED_RANGE. -/
def answerRead (s : State) (data : Option (List Word)) : State × Reply :=
  match data with
  | some d => (s, .withData d)
  | none => refuseRange s

/-! ## Posting (R183) -/

/-- A request applied at once in CONFIG, or placed in the posted slot, or answered NOT_READY (R183).
`limited` says that a field was limited; a table write's data is one word, 1 when posted (Table 12.3).
NOT_READY has no effect, and sets no VALUE_CLAMP (log 23). -/
def applyOrPost (s : State) (o : Origin) (r : HeldRequest) (limited tableWrite : Bool) :
    State × Reply :=
  let data (posted : Word) : List Word := if tableWrite then [posted] else []
  if s.sdu.part = .config then
    (applyRequest (s.setFlagIf limited .valueClamp) r,
     { result := if limited then .clamped else .done, reason := 0, data := data 0,
       confirms := none })
  else if s.mrh.posted.isNone then
    ((s.setMrh { s.mrh with posted := some { request := r, sender := o.source } }).setFlagIf limited
      .valueClamp,
     { result := if limited then .clamped else .posted, reason := 0, data := data 1,
       confirms := none })
  else (s, .plain .notReady)

/-- A table write answered by its owner's verdict (R182, R183, R186). -/
def answerWrite (s : State) (o : Origin) (v : Verdict) : State × Reply :=
  match v with
  | .refusedState => (s, .plain .refusedState)
  | .refusedRange => refuseRange s
  | .accepted r limited => applyOrPost s o r limited true

/-! ## Table writes (R186, R187) -/

/-- A Source Table write (R3). -/
def writeSource (o : Origin) (index : Nat) (entry : List Word) (s : State) : State × Reply :=
  match entry with
  | [w0, w1] => answerWrite s o (checkSource s index (SourceFields.ofWords w0 w1))
  | _ => refuseRange s

/-- An axle table write (R16, Table 12.4). -/
def writeAxle (o : Origin) (index : Nat) (entry : List Word) (s : State) : State × Reply :=
  match entry with
  | [w0, w1] => answerWrite s o (checkAxle s index w0.toNat (field w1 0 4) (w1.getLsbD 15))
  | _ => refuseRange s

/-- A bogie table write (R17, R121). -/
def writeBogie (o : Origin) (index : Nat) (entry : List Word) (s : State) : State × Reply :=
  match entry with
  | [w0, w1, w2] => answerWrite s o (checkBogie s index (BogieEntry.ofWords w0 w1 w2))
  | _ => refuseRange s

/-- A channel table write (R106). -/
def writeChannelEntry (o : Origin) (index : Nat) (entry : List Word) (s : State) : State × Reply :=
  match ChannelEntry.ofWords entry with
  | some e => answerWrite s o (checkChannel s index e)
  | none => refuseRange s

/-- A gain schedule write (R82). -/
def writeGain (o : Origin) (index : Nat) (entry : List Word) (s : State) : State × Reply :=
  match entry with
  | [tla, k] => answerWrite s o (checkGain index { lookAheadTime := tla.toNat, gain := k.toNat })
  | _ => refuseRange s

/-- A beacon table write (R42). -/
def writeBeacon (o : Origin) (index : Nat) (entry : List Word) (s : State) : State × Reply :=
  match entry with
  | [w0, w1, w2] => answerWrite s o (checkBeacon s index (BeaconFields.ofWords w0 w1 w2))
  | _ => refuseRange s

/-- A parameter table write (R187). -/
def writeParam (o : Origin) (index : Nat) (entry : List Word) (s : State) : State × Reply :=
  match ParamFields.ofWords entry with
  | some f => answerWrite s o (checkParam index f)
  | none => refuseRange s

/-- A TABLE_WRITE by its table number (R186): a number that names no table is REFUSED_RANGE. -/
def writeTable (o : Origin) (table index : Nat) (entry : List Word) (s : State) : State × Reply :=
  if table = 1 then writeSource o index entry s
  else if table = 2 then writeAxle o index entry s
  else if table = 3 then writeBogie o index entry s
  else if table = 4 then writeChannelEntry o index entry s
  else if table = 5 then writeGain o index entry s
  else if table = 6 then writeBeacon o index entry s
  else if table = 7 then writeParam o index entry s
  else refuseRange s

/-! ## Reads (R188) -/

/-- STATUS_READ (R188). -/
def readStatus (page : Nat) (data : List Word) (s : State) : State × Reply :=
  if data = [] then answerRead s (statusData s page) else refuseRange s

/-- TABLE_READ (R188). -/
def readTable (table index : Nat) (data : List Word) (s : State) : State × Reply :=
  if data = [] then answerRead s (tableData s.tables table index) else refuseRange s

/-- CHANNEL_READ (R188). -/
def readChannel (part bogie : Nat) (data : List Word) (s : State) : State × Reply :=
  if data = [] then answerRead s (channelData s part bogie) else refuseRange s

/-- CACHE_READ (R78). -/
def readCache (data : List Word) (s : State) : State × Reply :=
  match data with
  | [set, way, part] => answerRead s (cacheData s set.toNat way.toNat part.toNat)
  | _ => refuseRange s

/-! ## STATE_SET (R168) -/

/-- A STATE_SET refused: the reason is written and answered (R168). -/
def refuseState (s : State) (reason : Nat) : State × Reply :=
  (s.setSdu { s.sdu with reason := some reason },
   { result := .refusedState, reason := reason, data := [], confirms := none })

/-- A deferred entry cancelled (R170). -/
def cancelDeferred (s : State) : State := s.setSdu { s.sdu with deferred := false }

/-- STANDBY entered when the consistency check passes (R168, R169). -/
def checkedStandby (s : State) : State × Reply :=
  match inconsistency s with
  | none => (enterStandby s, .plain .done)
  | some reason => refuseState s reason

/-- STATE_SET(CONFIG) (R168). -/
def stateSetConfig (s : State) : State × Reply :=
  match s.sdu.part with
  | .config => (s, .plain .done)
  | .standby => (enterConfig s, .plain .done)
  | .active => (enterConfig s, .plain .done)
  | .fallback => (enterConfig s, .plain .done)

/-- STATE_SET(STANDBY) (R168): in FALLBACK the re-arm indicator is tested first. -/
def stateSetStandby (s : State) : State × Reply :=
  match s.sdu.part with
  | .config => checkedStandby s
  | .standby => (cancelDeferred s, .plain .done)
  | .active => (enterStandby s, .plain .done)
  | .fallback => if s.csu.rearm then checkedStandby s else refuseState s 5

/-- STATE_SET(ACTIVE) with no data (R168, R170): in STANDBY the entry is deferred when the check passes; a
refusal cancels a held one (R182). -/
def askActive (s : State) : State × Reply :=
  match s.sdu.part with
  | .config => refuseState (cancelDeferred s) 0
  | .standby =>
    match inconsistency s with
    | none => (s.setSdu { s.sdu with deferred := true }, .plain .posted)
    | some reason => refuseState (cancelDeferred s) reason
  | .active => (s, .plain .done)
  | .fallback => refuseState (cancelDeferred s) 0

/-- STATE_SET(ACTIVE) (R168, R182): refused for its length it cancels a held deferred entry too, as R182 says of
every refused one, beside R168 and R170, which name a failed check alone (DEDUCED, log 40). -/
def stateSetActive (data : List Word) (s : State) : State × Reply :=
  if data = [] then askActive s else refuseRange (cancelDeferred s)

/-- STATE_SET by its target, another target being REFUSED_RANGE (R168). -/
def stateSet (target : Nat) (data : List Word) (s : State) : State × Reply :=
  if target = 0 then withoutData stateSetConfig data s
  else if target = 1 then withoutData stateSetStandby data s
  else if target = 2 then stateSetActive data s
  else refuseRange s

/-! ## Position and route (R32 to R35) -/

/-- A trail entry that POSITION_SET may carry (R34). -/
def trailEntryOk (e : Nat × Nat) : Bool :=
  segmentOk e.1 && decide (1000 ≤ e.2) && decide (e.2 ≤ 60000)

/-- POSITION_SET (R34, R35, R183): its length is 2 words and 2 for each of the entries that argument B
counts. -/
def setPosition (o : Origin) (count : Nat) (data : List Word) (s : State) : State × Reply :=
  match data with
  | segment :: offset :: rest =>
    if decide (rest.length = 2 * count) && segmentOk segment.toNat && decide (count ≤ 4) &&
        (wordPairs rest).all trailEntryOk then
      applyOrPost s o (.positionSet segment.toNat offset.toNat
        ((wordPairs rest).map fun e => { segment := e.1, length := e.2 })) false false
    else refuseRange s
  | _ => refuseRange s

/-! ## Acknowledgement (R176, R177) -/

/-- The copy-error exclusions lifted (R117, R177). -/
def liftCopyErrors (s : State) : State :=
  s.setOsu { s.osu with excluded := Vector.replicate 4 false }

/-- The actuator-fault exclusions lifted (R136, R177). -/
def liftActuatorFaults (s : State) : State := s.setAls (s.als.map Link.readmitted)

/-- An acknowledgement by a mask (R176), then its side effects (R177). -/
def acknowledge (s : State) (mask : BitVec 32) : State :=
  let cleared := s.setSdu { s.sdu with flags := acknowledged s.sdu.flags mask (conditionWord s) }
  let copied := if mask.getLsbD Flag.copyErr.bit then liftCopyErrors cleared else cleared
  if mask.getLsbD Flag.actFault.bit then liftActuatorFaults copied else copied

/-- DIAG_ACK (R176): the mask in two words, the high word first. -/
def ackFlags (data : List Word) (s : State) : State × Reply :=
  match data with
  | [hi, lo] => (acknowledge s (hi ++ lo), .plain .done)
  | _ => refuseRange s

/-! ## Invalidation (R76, R77) -/

/-- CACHE_INVALIDATE of one segment (R76). -/
def invalidateOne (o : Origin) (data : List Word) (s : State) : State × Reply :=
  match data with
  | [segment] =>
    if segmentOk segment.toNat then applyOrPost s o (.invalidate segment.toNat) false false
    else refuseRange s
  | _ => refuseRange s

/-- CACHE_INVALIDATE with the indicator "all" (R77): its data word is carried and ignored (log 35). -/
def invalidateEvery (o : Origin) (data : List Word) (s : State) : State × Reply :=
  match data with
  | [_] => applyOrPost s o .invalidateAll false false
  | _ => refuseRange s

/-! ## Reset exchange (R189) -/

/-- RESET_PREPARE (R189); one of another length is refused, the held prepare cancelled (log 24). -/
def prepareReset (o : Origin) (data : List Word) (s : State) : State × Reply :=
  match data with
  | [v] => (s.setMrh { s.mrh with prepare := some { value := v, sender := o.source } }, .plain .done)
  | _ => refuseRange s

/-- RESET_CONFIRM (R189), with the prepare that was held when it was taken; the prepare is cancelled in
every case. -/
def confirmReset (held : Option Prepare) (straps : Addr) (o : Origin) (data : List Word) (s : State) :
    State × Reply :=
  match data with
  | [c] =>
    match held with
    | none => (s, .plain .refusedState)
    | some p =>
      if p.sender ≠ o.source then (s, .plain .refusedState)
      else if c.toNat ≠ 65535 - p.value.toNat then refuseRange s
      else
        (s.setMrh { s.mrh with confirmed := true },
         { result := .done, reason := 0, data := [], confirms := some straps })
  | _ => refuseRange s

/-- A function number that names no request (R182). -/
def refuseFunction (s : State) : State × Reply := (s, .plain .refusedFunction)

/-! ## A request by its function number (Table 12.3) -/

/-- The handler that a first payload word names: function, argument A, argument B, with the request
data. -/
def handlerOf (s : State) (straps : Addr) (o : Origin) (function a b : Nat) (data : List Word) :
    State → State × Reply :=
  if function = 1 then readStatus b data
  else if function = 2 then writeTable o a b data
  else if function = 3 then readTable a b data
  else if function = 4 then stateSet b data
  else if function = 5 then setPosition o b data
  else if function = 6 then appendRoute b data
  else if function = 7 then withoutData clearRoute data
  else if function = 8 then ackFlags data
  else if function = 9 then (if a = 1 then invalidateEvery o data else invalidateOne o data)
  else if function = 10 then readCache data
  else if function = 11 then readChannel a b data
  else if function = 12 then prepareReset o data
  else if function = 13 then confirmReset s.mrh.prepare straps o data
  else refuseFunction

/-- A delivered MANAGE frame handled (R180, R182); `straps` is what the straps read, should it lead to a
key reset (R190). -/
def handleManage (s : State) (straps : Addr) (o : Origin) (payload : List Word) : State :=
  match payload with
  | [] => if s.mrh.confirmed then s else s.setFlag .rxReject
  | w :: data =>
    manage s o (field w 12 4) (handlerOf s straps o (field w 12 4) (field w 8 4) (field w 0 8) data)

/-! ## Commands -/

/-- STATUS_READ (R188). -/
def execStatusRead (o : Origin) (page : Byte) (data : List Word) (s : State) :
    Host.Outcome State Fault Refusal :=
  .next (manage s o 1 (readStatus page.toNat data))

/-- TABLE_READ (R188). -/
def execTableRead (o : Origin) (table : BitVec 4) (index : Byte) (data : List Word) (s : State) :
    Host.Outcome State Fault Refusal :=
  .next (manage s o 3 (readTable table.toNat index.toNat data))

/-- TABLE_WRITE_SOURCE (R3). -/
def execTableWriteSource (o : Origin) (index : Byte) (entry : List Word) (s : State) :
    Host.Outcome State Fault Refusal :=
  .next (manage s o 2 (writeSource o index.toNat entry))

/-- TABLE_WRITE_AXLE (R16). -/
def execTableWriteAxle (o : Origin) (index : Byte) (entry : List Word) (s : State) :
    Host.Outcome State Fault Refusal :=
  .next (manage s o 2 (writeAxle o index.toNat entry))

/-- TABLE_WRITE_BOGIE (R121). -/
def execTableWriteBogie (o : Origin) (index : Byte) (entry : List Word) (s : State) :
    Host.Outcome State Fault Refusal :=
  .next (manage s o 2 (writeBogie o index.toNat entry))

/-- TABLE_WRITE_CHANNEL (R106). -/
def execTableWriteChannel (o : Origin) (index : Byte) (entry : List Word) (s : State) :
    Host.Outcome State Fault Refusal :=
  .next (manage s o 2 (writeChannelEntry o index.toNat entry))

/-- TABLE_WRITE_GAIN_SCHEDULE (R82). -/
def execTableWriteGainSchedule (o : Origin) (index : Byte) (entry : List Word) (s : State) :
    Host.Outcome State Fault Refusal :=
  .next (manage s o 2 (writeGain o index.toNat entry))

/-- TABLE_WRITE_BEACON (R42). -/
def execTableWriteBeacon (o : Origin) (index : Byte) (entry : List Word) (s : State) :
    Host.Outcome State Fault Refusal :=
  .next (manage s o 2 (writeBeacon o index.toNat entry))

/-- TABLE_WRITE_PARAMETER (R187). -/
def execTableWriteParameter (o : Origin) (index : Byte) (entry : List Word) (s : State) :
    Host.Outcome State Fault Refusal :=
  .next (manage s o 2 (writeParam o index.toNat entry))

/-- STATE_SET_CONFIG (R168). -/
def execStateSetConfig (o : Origin) (data : List Word) (s : State) :
    Host.Outcome State Fault Refusal :=
  .next (manage s o 4 (withoutData stateSetConfig data))

/-- STATE_SET_STANDBY (R168). -/
def execStateSetStandby (o : Origin) (data : List Word) (s : State) :
    Host.Outcome State Fault Refusal :=
  .next (manage s o 4 (withoutData stateSetStandby data))

/-- STATE_SET_ACTIVE (R168). -/
def execStateSetActive (o : Origin) (data : List Word) (s : State) :
    Host.Outcome State Fault Refusal :=
  .next (manage s o 4 (stateSetActive data))

/-- POSITION_SET (R35). -/
def execPositionSet (o : Origin) (count : Byte) (data : List Word) (s : State) :
    Host.Outcome State Fault Refusal :=
  .next (manage s o 5 (setPosition o count.toNat data))

/-- ROUTE_APPEND (R32). -/
def execRouteAppend (o : Origin) (count : Byte) (data : List Word) (s : State) :
    Host.Outcome State Fault Refusal :=
  .next (manage s o 6 (appendRoute count.toNat data))

/-- ROUTE_CLEAR (R33). -/
def execRouteClear (o : Origin) (data : List Word) (s : State) :
    Host.Outcome State Fault Refusal :=
  .next (manage s o 7 (withoutData clearRoute data))

/-- DIAG_ACK (R176). -/
def execDiagAck (o : Origin) (data : List Word) (s : State) : Host.Outcome State Fault Refusal :=
  .next (manage s o 8 (ackFlags data))

/-- CACHE_INVALIDATE (R76). -/
def execCacheInvalidate (o : Origin) (data : List Word) (s : State) :
    Host.Outcome State Fault Refusal :=
  .next (manage s o 9 (invalidateOne o data))

/-- CACHE_INVALIDATE_ALL (R77). -/
def execCacheInvalidateAll (o : Origin) (data : List Word) (s : State) :
    Host.Outcome State Fault Refusal :=
  .next (manage s o 9 (invalidateEvery o data))

/-- CACHE_READ (R78). -/
def execCacheRead (o : Origin) (data : List Word) (s : State) : Host.Outcome State Fault Refusal :=
  .next (manage s o 10 (readCache data))

/-- CHANNEL_READ (R188). -/
def execChannelRead (o : Origin) (part : BitVec 4) (bogie : Byte) (data : List Word) (s : State) :
    Host.Outcome State Fault Refusal :=
  .next (manage s o 11 (readChannel part.toNat bogie.toNat data))

/-- RESET_PREPARE (R189). -/
def execResetPrepare (o : Origin) (data : List Word) (s : State) :
    Host.Outcome State Fault Refusal :=
  .next (manage s o 12 (prepareReset o data))

/-- RESET_CONFIRM (R189, R190). -/
def execResetConfirm (o : Origin) (data : Confirmation) (s : State) :
    Host.Outcome State Fault Refusal :=
  .next (manage s o 13 (confirmReset s.mrh.prepare data.straps o data.words))

/-- REFUSED_FUNCTION (R182); with a function that names a request no such frame comes (log 26). -/
def execRefusedFunction (o : Origin) (function : BitVec 4) (_data : List Word) (s : State) :
    Host.Outcome State Fault Refusal :=
  .next (if namesNoRequest function then manage s o function.toNat refuseFunction else s)

end Sys2Proof.Machine
end

