-- ==== Sys2Proof/Machine/Ring.lean ====
section
/-! DEFINITION. The Ring Port Unit (chapter 9): the receive assembler (R154), reception checks and
disposition (R155 to R159, R165), the OUT arbiter (R163, R164), and the commands FRAME_CLOSE,
RETURNED_REPLY, OUT_SELECTION, REPLY_LEFT_OUT, LINE_IDLE and FRAME_TRANSMISSION_END. -/

namespace Sys2Proof.Machine

/-! ## Receive assembler (R154) -/

/-- Bytes of a burst collected: kept up to the 53rd, counted beyond it (R154). -/
def Assembler.collect (a : Assembler) (bytes : List Byte) : Assembler :=
  { a with kept := (a.kept ++ bytes).take Config.maxBurst, count := a.count + bytes.length }

/-- The assembler with no byte of a burst. -/
def Assembler.emptied (a : Assembler) : Assembler := { a with kept := [], count := 0 }

/-- The receive assembler replaced. -/
def State.setAssembler (s : State) (a : Assembler) : State :=
  s.setRpu { s.rpu with assembler := a }

/-! ## Forwarding (R159) -/

/-- A valid frame placed in the forward buffer, or dropped with FWD_OVERRUN when it is full (R159). -/
def forwardFrame (s : State) (bytes : List Byte) : State :=
  if s.rpu.forward.length < Config.forwardCapacity then
    s.setRpu { s.rpu with forward := s.rpu.forward ++ [bytes] }
  else s.setFlag .fwdOverrun

/-! ## Returned frames (R157) -/

/-- A returned REPLY (R157). -/
def handleReturnedReply (s : State) : State := s.setFlag .replyLost

/-- A frame of the part's own that came back, handled by its class (R157). A returned FETCH names the
segment of its first payload word, and none when it has no payload (log 25). -/
def handleReturned (s : State) (f : ValidFrame) : State :=
  match f.header.cls with
  | .command => handleReturnedCommand s f.header.destination
  | .fetch => handleReturnedFetch s (f.payload.head?.map BitVec.toNat)
  | .reply => handleReturnedReply s
  | .sample | .echo | .segment | .manage | .cycle => s.setFlag .rxReject

/-! ## Delivery (R158) -/

/-- An ECHO delivered: its payload is checked, and it is handled by its kind (R127). -/
def handleEcho (s : State) (source : Addr) (tag : Tag) (payload : List Word) : State :=
  match echoOfPayload payload with
  | some (.answer, e) => handleAnswer s source tag e
  | some (.notice, e) => handleNotice s source e
  | none => s.setFlag .rxReject

/-- A frame taken in, or a broadcast frame, handed to the block that owns its class (R158). -/
def deliver (s : State) (straps : Addr) (f : ValidFrame) (broadcast : Bool) : State :=
  match f.header.cls with
  | .sample => handleSample s f.header.source f.payload
  | .echo => handleEcho s f.header.source f.header.tag f.payload
  | .segment => handleSegment s f.payload
  | .cycle => handleCycle s f.payload
  | .manage =>
    handleManage s straps { source := f.header.source, tag := f.header.tag, broadcast := broadcast }
      f.payload
  | .command | .fetch | .reply => if broadcast then s else s.setFlag .rxReject

/-- The disposition of a valid frame, by its source and destination in this order (R156), or forwarded
whatever they are by a repeater (R165). -/
def dispose (s : State) (straps : Addr) (f : ValidFrame) : State :=
  if forwardOnly s then forwardFrame s f.bytes
  else if f.header.source = s.rpu.own then handleReturned s f
  else if f.header.destination = s.rpu.own then deliver s straps f false
  else if f.header.destination = Config.broadcast then deliver (forwardFrame s f.bytes) straps f true
  else forwardFrame s f.bytes

/-- The burst in the assembler closed, checked and dispositioned, or dropped with RX_REJECT (R154,
R155). -/
def closeFrame (s : State) (straps : Addr) : State :=
  let a := s.rpu.assembler
  let emptied := s.setAssembler a.emptied
  match checkFrame a.kept a.count with
  | some f => dispose emptied straps f
  | none => emptied.setFlag .rxReject

/-- A burst that comes to an assembler which no longer waits for an idle line (R154). -/
def receiveBurst (s : State) (burst : List Byte) (straps : Addr) : State :=
  closeFrame (s.setAssembler (s.rpu.assembler.collect burst)) straps

/-! ## The OUT port (R163, R164) -/

/-- What the arbiter selects (R163, R160). -/
inductive Selection where
  | forwarded (bytes : List Byte) (rest : List (List Byte))
  | command (frame : CommandFrame) (rest : List CommandFrame)
  | other (frame : OtherFrame) (rest : List OtherFrame)
  deriving DecidableEq, Repr

/-- The queued frame that the arbiter takes (R160): the oldest COMMAND, else the oldest other frame. -/
def selectQueued (r : Rpu) : Option Selection :=
  match r.commands, r.others with
  | c :: rest, _ => some (.command c rest)
  | [], f :: rest => some (.other f rest)
  | [], [] => none

/-- The arbiter's selection (R163), none when nothing waits. -/
def select (r : Rpu) : Option Selection :=
  match r.forward with
  | [] => selectQueued r
  | oldest :: rest =>
    if queueLength r ≠ 0 ∧ r.forwardCount = 2 then selectQueued r
    else some (.forwarded oldest rest)

/-- The frame of the other group as sent (R73, R164, R181): a FETCH goes to the ring master with tag
0. -/
def otherTransmission (own : Addr) (f : OtherFrame) : Transmission :=
  match f with
  | .fetch n =>
    { origin := .fetch, bytes := originate .fetch own Config.ringMaster 0 (fetchPayload n) }
  | .reply r =>
    { origin := .reply r.confirms, bytes := originate .reply own r.destination r.tag r.payload }

/-- A COMMAND frame as sent (R125, R164). -/
def commandTransmission (own : Addr) (f : CommandFrame) : Transmission :=
  { origin := .command, bytes := originate .command own f.destination f.tag (commandPayload f) }

/-- The forwarded count after a forwarded frame: raised by 1, stopping at 2 (R163). -/
def raisedForwardCount (n : Nat) : Nat := min (n + 1) 2

/-- The selected frame becomes the frame in transmission (R163); a COMMAND's codes become the issued
codes of its bogie's channels (R113, R164). -/
def startSending (s : State) (x : Selection) : State :=
  match x with
  | .forwarded bytes rest => s.setRpu { s.rpu with
      forward := rest, sending := some { origin := .forwarded, bytes := bytes }, gap := false,
      forwardCount := raisedForwardCount s.rpu.forwardCount }
  | .command f rest =>
    issueFrame (s.setRpu { s.rpu with
      commands := rest, sending := some (commandTransmission s.rpu.own f), gap := false,
      forwardCount := 0 }) f
  | .other f rest => s.setRpu { s.rpu with
      others := rest, sending := some (otherTransmission s.rpu.own f), gap := false,
      forwardCount := 0 }

/-- A selection made while no frame is in transmission; the command stands for the moment at which the
gap has passed (log 8). -/
def selectNext (s : State) : State :=
  match s.rpu.sending, select s.rpu with
  | none, some x => startSending s x
  | _, _ => s

/-- The frame in transmission ended: its last byte has been sent, and the gap begins (R154, R163). -/
def endSending (s : State) : State := s.setRpu { s.rpu with sending := none, gap := true }

/-- A REPLY has left OUT (R164): after the one that answers a confirmed reset, the key reset takes
effect (R190), with the straps as they read then (R165). -/
def replyLeft (s : State) (straps : Addr) : State :=
  match s.rpu.sending with
  | some { origin := .reply confirms, .. } =>
    if confirms && s.mrh.confirmed then keyReset (endSending s) straps else endSending s
  | _ => s

/-- The last byte of a frame other than a REPLY has been sent (R163, R164). -/
def transmissionEnded (s : State) : State :=
  match s.rpu.sending with
  | none => s
  | some { origin := .reply _, .. } => s
  | some _ => endSending s

/-! ## Commands -/

/-- FRAME_CLOSE (R155): while the assembler waits for an idle line it takes no byte, and no frame closes
(R154). -/
def execFrameClose (burst : Burst) (s : State) : Host.Outcome State Fault Refusal :=
  .next (if s.rpu.assembler.waitIdle then s else receiveBurst s burst.bytes burst.straps)

/-- RETURNED_REPLY (R157). -/
def execReturnedReply (s : State) : Host.Outcome State Fault Refusal :=
  .next (if forwardOnly s then s else handleReturnedReply s)

/-- OUT_SELECTION (R163): while a frame is in transmission or nothing waits it does not happen (log
4). -/
def execOutSelection (s : State) : Host.Outcome State Fault Refusal := .next (selectNext s)

/-- REPLY_LEFT_OUT (R164): without a REPLY in transmission it does not happen (log 4). -/
def execReplyLeftOut (straps : Addr) (s : State) : Host.Outcome State Fault Refusal :=
  .next (replyLeft s straps)

/-- LINE_IDLE (R154): the line has been idle for more than 1 byte time, and bytes are taken again. -/
def execLineIdle (s : State) : Host.Outcome State Fault Refusal :=
  .next (s.setAssembler { s.rpu.assembler with waitIdle := false })

/-- FRAME_TRANSMISSION_END (R163): without a frame other than a REPLY in transmission it does not happen
(log 4). -/
def execFrameTransmissionEnd (s : State) : Host.Outcome State Fault Refusal :=
  .next (transmissionEnded s)

end Sys2Proof.Machine
end

