-- ==== Sys2Proof/Machine/Dispatch.lean ====
section
/-! DEFINITION. The meaning of every command: one arm per constructor of Instr, one direct call each. -/

namespace Sys2Proof.Machine

def exec (i : Instr) (s : State) : Host.Outcome State Fault Refusal :=
  match i with
  | .powerOnReset straps => Sys2Proof.Machine.execPowerOnReset straps s
  | .resetLine straps => Sys2Proof.Machine.execResetLine straps s
  | .frameClose burst => Sys2Proof.Machine.execFrameClose burst s
  | .sample frame => Sys2Proof.Machine.execSample frame s
  | .answer source tag echo => Sys2Proof.Machine.execAnswer source tag echo s
  | .notice source tag echo => Sys2Proof.Machine.execNotice source tag echo s
  | .segment frame => Sys2Proof.Machine.execSegment frame s
  | .cycle frame => Sys2Proof.Machine.execCycle frame s
  | .returnedCommand destination tag => Sys2Proof.Machine.execReturnedCommand destination tag s
  | .returnedFetch segment => Sys2Proof.Machine.execReturnedFetch segment s
  | .returnedReply => Sys2Proof.Machine.execReturnedReply s
  | .substituteTimerExpiry => Sys2Proof.Machine.execSubstituteTimerExpiry s
  | .sampleExpired slot => Sys2Proof.Machine.execSampleExpired slot s
  | .fetchTimeout segment => Sys2Proof.Machine.execFetchTimeout segment s
  | .echoTimeout bogie => Sys2Proof.Machine.execEchoTimeout bogie s
  | .positionUpdate => Sys2Proof.Machine.execPositionUpdate s
  | .bogieDetermination => Sys2Proof.Machine.execBogieDetermination s
  | .shaping => Sys2Proof.Machine.execShaping s
  | .supervisionExpiry => Sys2Proof.Machine.execSupervisionExpiry s
  | .outSelection => Sys2Proof.Machine.execOutSelection s
  | .replyLeftOut straps => Sys2Proof.Machine.execReplyLeftOut straps s
  | .statusRead origin page data => Sys2Proof.Machine.execStatusRead origin page data s
  | .tableRead origin table index data => Sys2Proof.Machine.execTableRead origin table index data s
  | .tableWriteSource origin index entry => Sys2Proof.Machine.execTableWriteSource origin index entry s
  | .tableWriteAxle origin index entry => Sys2Proof.Machine.execTableWriteAxle origin index entry s
  | .tableWriteBogie origin index entry => Sys2Proof.Machine.execTableWriteBogie origin index entry s
  | .tableWriteChannel origin index entry => Sys2Proof.Machine.execTableWriteChannel origin index entry s
  | .tableWriteGainSchedule origin index entry => Sys2Proof.Machine.execTableWriteGainSchedule origin index entry s
  | .tableWriteBeacon origin index entry => Sys2Proof.Machine.execTableWriteBeacon origin index entry s
  | .tableWriteParameter origin index entry => Sys2Proof.Machine.execTableWriteParameter origin index entry s
  | .stateSetConfig origin data => Sys2Proof.Machine.execStateSetConfig origin data s
  | .stateSetStandby origin data => Sys2Proof.Machine.execStateSetStandby origin data s
  | .stateSetActive origin data => Sys2Proof.Machine.execStateSetActive origin data s
  | .positionSet origin count data => Sys2Proof.Machine.execPositionSet origin count data s
  | .routeAppend origin count data => Sys2Proof.Machine.execRouteAppend origin count data s
  | .routeClear origin data => Sys2Proof.Machine.execRouteClear origin data s
  | .diagAck origin data => Sys2Proof.Machine.execDiagAck origin data s
  | .cacheInvalidate origin data => Sys2Proof.Machine.execCacheInvalidate origin data s
  | .cacheInvalidateAll origin data => Sys2Proof.Machine.execCacheInvalidateAll origin data s
  | .cacheRead origin data => Sys2Proof.Machine.execCacheRead origin data s
  | .channelRead origin part bogie data => Sys2Proof.Machine.execChannelRead origin part bogie data s
  | .resetPrepare origin data => Sys2Proof.Machine.execResetPrepare origin data s
  | .resetConfirm origin data => Sys2Proof.Machine.execResetConfirm origin data s
  | .refusedFunction origin function data => Sys2Proof.Machine.execRefusedFunction origin function data s
  | .lineIdle => Sys2Proof.Machine.execLineIdle s
  | .frameTransmissionEnd => Sys2Proof.Machine.execFrameTransmissionEnd s

end Sys2Proof.Machine
end

