-- ==== Sys2Proof/Machine/Step.lean ====
section
/-! DEFINITION. One step of the block: the command at the front of the queue, or, when none waits, half a
millisecond of time. -/

namespace Sys2Proof.Machine

/-- One step: the front command is taken out of the queue and run; on an empty queue half a millisecond
passes (DESIGN CHOICE, log 7). -/
def step (s : State) : Host.Outcome State Fault Refusal :=
  match s.pending with
  | [] => .next (tick s)
  | c :: rest => exec c (s.setPending rest)

/-- The state with the command that a word spells at the front of its queue; the table gives no row any
bits, so no word spells a command and the state stands as it is. -/
def State.withFetchWord (s : State) (nbits w : Nat) : State :=
  match decodeTableWord nbits w with
  | some c => s.setPending (c :: s.pending)
  | none => s

end Sys2Proof.Machine
end

