-- ==== Sys2Proof/Safety.lean ====
section
/-! DEFINITION. What counts as a sound state of the part, in the terms that the statements use: flags that
follow their conditions, links that are quiet where nothing may be sent, tables without doubles, fields
within their ranges, a computation in flight that has a next event; and the classes of commands that the
statements speak of. -/

namespace Sys2Proof.Machine

/-! ## Sound states -/

/-- Each persistent flag is set while its condition holds (R175). -/
def FlagsFollow (s : State) : Prop :=
  (sampleStaleCondition s = true → s.flag .sampleStale = true) ∧
  (odoHoldCondition s = true → s.flag .odoHold = true) ∧
  (positionLostCondition s = true → s.flag .positionLost = true) ∧
  (dataMissingCondition s = true → s.flag .dataMissing = true) ∧
  (actStatusCondition s = true → s.flag .actStatus = true)

/-- A bogie to which nothing may be sent: excluded, disabled, or in CONFIG (R125). -/
def barred (s : State) (b : BogieId) : Bool :=
  bogieExcluded s b || !s.tables.bogie[b].enabled || decide (s.sdu.part = .config)

/-- A barred bogie has no outstanding command, no pending pair and no waiting frame (R125). -/
def LinksQuiet (s : State) : Prop :=
  ∀ b : BogieId, barred s b = true →
    s.als[b].outstanding = none ∧ s.als[b].pending = none ∧ commandWaits s b = false

/-- A waiting COMMAND frame carries the tag and the codes of its bogie's outstanding command (R125,
R161). -/
def FramesMatch (s : State) : Prop :=
  ∀ f ∈ s.rpu.commands, ∀ o, s.als[f.bogie].outstanding = some o →
    o.tag = f.tag ∧ o.codes = { lead := f.lead, trail := f.trail }

/-- No two valid Source Table entries share a node and item or a slot (R3), no two used axle entries a
pulse slot (R16), no two valid beacon entries an identifier (R42), no two enabled bogies an actuator
address (R121). -/
def TablesUnique (t : Tables) : Prop :=
  (∀ i j : Fin 24, i ≠ j → ∀ a b, t.source[i] = some a → t.source[j] = some b →
    (a.node ≠ b.node ∨ a.item ≠ b.item) ∧ a.target ≠ b.target) ∧
  (∀ i j : Fin 8, i ≠ j → ∀ a b, t.axle[i] = some a → t.axle[j] = some b → a.slot ≠ b.slot) ∧
  (∀ i j : Fin 64, i ≠ j → ∀ a b, t.beacon[i] = some a → t.beacon[j] = some b →
    a.ident ≠ b.ident) ∧
  (∀ i j : Fin 4, i ≠ j → t.bogie[i].enabled = true → t.bogie[j].enabled = true →
    t.bogie[i].actuator ≠ t.bogie[j].actuator)

/-- A channel entry within the ranges of Table 6.1 (R105). -/
def ChannelEntry.InRange (e : ChannelEntry) : Prop :=
  e.gain ≤ 65535 ∧ -2048 ≤ e.trim ∧ e.trim ≤ 2047 ∧ e.codeMin < e.codeMax ∧ e.codeMax ≤ 65535 ∧
  e.slew ≤ 4095 ∧ e.codeMin ≤ e.fallback ∧ e.fallback ≤ e.codeMax ∧ e.thetaMax ≤ 100000 ∧
  e.trackLimit ≤ 65535 ∧ 1 ≤ e.trackCount ∧ e.trackCount ≤ 15


/-- The parameter table within its ranges (R18, R43, R69, R83, R108, R123, R140). -/
def ParamEntry.InRange (p : ParamEntry) : Prop :=
  2 ≤ p.period ∧ p.period ≤ 10 ∧ 10 ≤ p.timeout ∧ p.timeout ≤ 250 ∧ p.standstill ≤ 1000 ∧
  (∀ n : Fin 2, p.readerOffset[n] ≤ 40000) ∧ 100 ≤ p.window ∧ p.window ≤ 5000 ∧ 50 ≤ p.drift ∧
  p.drift ≤ 2000 ∧ 1 ≤ p.threshold1 ∧ p.threshold1 < p.threshold2 ∧ p.threshold2 < p.threshold3 ∧
  p.threshold3 ≤ 30000 ∧ p.horizon ≤ 60000 ∧ p.fallbackStep ≤ 4095 ∧ 1 ≤ p.echoTimeout ∧
  p.echoTimeout ≤ 4

/-- A held request that stores a channel entry or the parameter table stores one in range. -/
def HeldRequest.InRange : HeldRequest → Prop
  | .channel _ e => e.InRange
  | .param e => e.InRange
  | .gain _ e => e.lookAheadTime ≤ 500 ∧ e.gain ≤ 4095
  | .source _ _ => True
  | .axle _ _ => True
  | .bogie _ _ => True
  | .beacon _ _ => True
  | .positionSet _ _ trail => trail.length ≤ 4
  | .invalidate _ => True
  | .invalidateAll => True

/-- Every channel entry (R105), every gain schedule entry (R82) and the parameter table in range, a
posted request included. -/
def TablesInRange (s : State) : Prop :=
  (∀ i : Fin 8, s.tables.channel[i].InRange) ∧
  (∀ i : Fin 16, s.tables.gain[i].lookAheadTime ≤ 500 ∧ s.tables.gain[i].gain ≤ 4095) ∧
  s.tables.param.InRange ∧ (∀ p, s.mrh.posted = some p → p.request.InRange)

/-- Buffers, queues and tables within their sizes, and the sets among them without doubles (R71, R154,
R159, R160, R163). -/
def QueuesBounded (s : State) : Prop :=
  s.rpu.forward.length ≤ Config.forwardCapacity ∧ queueLength s.rpu ≤ Config.queueCapacity ∧
  (s.rpu.commands.map CommandFrame.bogie).Nodup ∧ s.rpu.forwardCount ≤ 2 ∧
  s.rpu.assembler.kept.length ≤ Config.maxBurst ∧
  s.sgc.outstanding.length ≤ Config.fetchCapacity ∧
  (s.sgc.outstanding.map FetchEntry.segment).Nodup

/-- The lists and counters of the position units, the links and the Cycle and Supervision Unit within
their ranges (R22, R24, R31, R32, chapters 3, 7 and 8); a posted POSITION_SET carries no more trail
entries than the list holds. -/
def CountsBounded (s : State) : Prop :=
  s.opu.hold ≤ Config.holdLimit ∧ s.opu.history.length ≤ Config.historyCapacity ∧
  s.opu.trail.length ≤ Config.trailCapacity ∧ s.opu.route.length ≤ Config.routeCapacity ∧
  s.bru.agreement ≤ 2 ∧ s.bru.disagreement ≤ 2 ∧
  (∀ p segment offset trail, s.mrh.posted = some p →
    p.request = .positionSet segment offset trail → trail.length ≤ Config.trailCapacity) ∧
  (∀ b : BogieId, s.als[b].mismatch ≤ 3 ∧ s.als[b].notices ≤ 6 ∧ s.als[b].trackLead ≤ 15 ∧
    s.als[b].trackTrail ≤ 15) ∧
  s.csu.cycle ≤ 65535 ∧ s.csu.substitutes ≤ 65535

/-- Supervision counts only in STANDBY and ACTIVE (R149), a re-armed part is in FALLBACK (R151), and a
deferred entry waits only in STANDBY (R170). -/
def StatesAgree (s : State) : Prop :=
  (s.csu.supervision.counting = true ↔ s.sdu.part = .standby ∨ s.sdu.part = .active) ∧
  (s.csu.rearm = true → s.sdu.part = .fallback) ∧
  (s.sdu.deferred = true → s.sdu.part = .standby)

/-- The computation in flight and the events that are to come in it agree (R142, R145, R146): IDLE, and
nothing is to come; or RUNNING, with the position update due, or a bogie to be determined, or a result
to be shaped, the bogies awaiting offer being those of the results handed on. -/
def InFlight (s : State) : Prop :=
  (s.csu.running = false →
    s.opu.updateDue = false ∧ s.slu.next = none ∧ s.osu.results = [] ∧ s.csu.endReport = false) ∧
  (s.opu.updateDue = true →
    s.slu.next = none ∧ s.osu.results = [] ∧ s.csu.endReport = false) ∧
  (s.csu.running = true → s.opu.updateDue = false →
    (s.slu.next.isSome = true ↔ s.csu.endReport = false)) ∧
  (s.csu.running = true → s.csu.endReport = true → s.osu.results ≠ []) ∧
  (s.osu.results.map SteeringResult.bogie).Nodup ∧
  (∀ b : BogieId, s.csu.awaiting[b] = true ↔ b ∈ s.osu.results.map SteeringResult.bogie) ∧
  (∀ b, s.slu.next = some b → ∀ r ∈ s.osu.results, r.bogie < b)

/-- What the cache and the trail hold is as R34, R55, R59 and R60 let it in: every header of a length of 1000
to 60000 mm, no successor 65535, no switch without a successor 0, every point within ±8000 counts, no tag in
both ways of a set; every trail length, and every one in a posted POSITION_SET, 1000 to 60000 mm. -/
def RouteSound (s : State) : Prop :=
  (∀ (i : Fin 64) (w : Fin 2) (l : Line) (c : Content), s.sgc.sets[i].ways[w] = some l →
    l.content = some c →
      1000 ≤ c.header.length ∧ c.header.length ≤ 60000 ∧ c.header.succ0 ≠ 65535 ∧
      c.header.succ1 ≠ 65535 ∧ (c.header.succ1 ≠ 0 → c.header.succ0 ≠ 0) ∧
      ∀ (k : Fin 8) (b : SubBlock), c.blocks[k] = some b →
        ∀ j : Fin 4, -8000 ≤ b.points[j] ∧ b.points[j] ≤ 8000) ∧
  (∀ (i : Fin 64) (l m : Line), s.sgc.sets[i].ways[(0 : Fin 2)] = some l →
    s.sgc.sets[i].ways[(1 : Fin 2)] = some m → l.tag ≠ m.tag) ∧
  (∀ e ∈ s.opu.trail, 1000 ≤ e.length ∧ e.length ≤ 60000) ∧
  (∀ p segment offset trail, s.mrh.posted = some p →
    p.request = .positionSet segment offset trail →
    ∀ e ∈ trail, 1000 ≤ e.length ∧ e.length ≤ 60000)

/-! ## The route as the manual reads it

The machine reads the cache by lookups that leave needs behind and counts fuel; what follows says the same
without either, on what the cache holds. -/

/-- The header that the cache holds of a segment (R55). -/
def heldHeader (s : State) (segment : Nat) : Option Header := (contentOf s segment).map Content.header

/-- The sub-block that the cache holds of a segment (R55). -/
def heldBlock (s : State) (segment : Nat) (k : Fin 8) : Option SubBlock :=
  match contentOf s segment with
  | some c => c.blocks[k]
  | none => none

/-- The reference point with what it leaves behind, as the advance moves them (R26 to R31): the offset and
the overrun in µm, and whether a switch was left without its queue entry. -/
structure Motion where
  segment  : Nat
  offset   : Nat
  overrun  : Nat
  trail    : List TrailEntry
  route    : List RouteEntry
  mismatch : Bool
  deriving DecidableEq, Repr

/-- A held segment left (R27, R28, R31): pushed on the trail; a switch takes the front entry's branch when
that names it, and the entry goes; else branch 0, with a mismatch at a switch. -/
def Motion.leave (m : Motion) (segment : Nat) (h : Header) : Motion :=
  let left : TrailEntry := { segment := segment, length := h.length }
  let pushed := { m with trail := (left :: m.trail).take 8 }
  if h.succ1 = 0 then { pushed with segment := h.succ0 }
  else
    match m.route with
    | [] => { pushed with segment := h.succ0, mismatch := true }
    | front :: later =>
      if front.segment = segment then
        { pushed with segment := if front.branch then h.succ1 else h.succ0, route := later }
      else { pushed with segment := h.succ0, mismatch := true }

/-- The advance (R27, R29): where a reference point at its new offset comes to rest, and whether its end
overrun loses the position. -/
inductive Advances (held : Nat → Option Header) : Motion → Motion → (lost : Bool) → Prop
  /-- The header of the current segment is not held. -/
  | notHeld (m : Motion) : held m.segment = none → Advances held m m false
  /-- The offset is below the length. -/
  | within (m : Motion) (h : Header) : held m.segment = some h → m.offset < h.length * 1000 →
      Advances held m m false
  /-- The end of a route (R29). -/
  | ends (m : Motion) (h : Header) : held m.segment = some h → h.length * 1000 ≤ m.offset →
      h.succ0 = 0 →
      Advances held m
        { m with
          offset := (h.length - 1) * 1000
          overrun := m.overrun + (m.offset - (h.length - 1) * 1000) }
        (decide (2000000 < m.overrun + (m.offset - (h.length - 1) * 1000)))
  /-- The segment is left (R28). -/
  | leaves (m n : Motion) (h : Header) (lost : Bool) : held m.segment = some h →
      h.length * 1000 ≤ m.offset → h.succ0 ≠ 0 →
      Advances held
        { m.leave m.segment h with offset := m.offset - h.length * 1000, overrun := 0 } n lost →
      Advances held m n lost

/-- How a walk goes on from a place (R38, R39): the next place and segment by the successors and the queue,
without removing entries; none at the end of a route. -/
def onwards (s : State) (place : Place) (segment : Nat) (h : Header) : Option (Place × Nat) :=
  let at0 : Nat := match place with
    | .beyond q => q
    | .current => 0
    | .trail _ => 0
  if h.succ0 = 0 then none
  else if h.succ1 = 0 then some (.beyond at0, h.succ0)
  else
    match s.opu.route[at0]? with
    | none => some (.beyond at0, h.succ0)
    | some e =>
      if e.segment = segment then
        some (.beyond (at0 + 1), if e.branch then h.succ1 else h.succ0)
      else some (.beyond at0, h.succ0)

/-- What a walk finds where it stands (R38): nothing when a header that it needs is not held; the length,
and nothing beyond, or the end of a route, or the next place and segment. -/
def stretch (s : State) (place : Place) (segment : Nat) :
    Option (Nat × Option (Option (Place × Nat))) :=
  match place with
  | .trail 0 => s.opu.trail[0]?.map fun e =>
      (e.length, s.opu.position.map fun p => some (.current, p.segment))
  | .trail (n + 1) => s.opu.trail[n + 1]?.map fun e =>
      (e.length, s.opu.trail[n]?.map fun newer => some (.trail n, newer.segment))
  | .current => (heldHeader s segment).map fun h => (h.length, some (onwards s .current segment h))
  | .beyond q => (heldHeader s segment).map fun h => (h.length, some (onwards s (.beyond q) segment h))

/-- A forward walk of `dist` mm from offset `off` of a segment (R38, R39): the point reached, or none for
data missing. -/
inductive Walks (s : State) : Place → (segment off dist : Nat) → Option RoutePoint → Prop
  | missing (place : Place) (segment off dist : Nat) : stretch s place segment = none →
      Walks s place segment off dist none
  | reached (place : Place) (segment off dist length : Nat) (next : Option (Option (Place × Nat))) :
      stretch s place segment = some (length, next) → off + dist < length →
      Walks s place segment off dist (some ⟨segment, off + dist, place⟩)
  | cut (place : Place) (segment off dist length : Nat) :
      stretch s place segment = some (length, none) → length ≤ off + dist →
      Walks s place segment off dist none
  | ends (place : Place) (segment off dist length : Nat) :
      stretch s place segment = some (length, some none) → length ≤ off + dist →
      Walks s place segment off dist (some ⟨segment, length - 1, place⟩)
  | onward (place next : Place) (segment off dist length beyond : Nat) (stop : Option RoutePoint) :
      stretch s place segment = some (length, some (some (next, beyond))) → length ≤ off + dist →
      Walks s next beyond 0 (off + dist - length) stop →
      Walks s place segment off dist stop

/-- The segments that a forward walk enters (R67), in order, each with the distance in mm from the start of the
walk at which it does, `gone` for the one it stands in: below 0 when the walk started beyond a length. -/
inductive Enters (s : State) :
    Place → (segment off dist : Nat) → (gone : Int) → List (Nat × Int) → Prop
  | stays (place : Place) (segment off dist : Nat) (gone : Int) :
      (∀ length next, stretch s place segment = some (length, some (some next)) →
        off + dist < length) →
      Enters s place segment off dist gone [(segment, gone)]
  | onward (place next : Place) (segment off dist length beyond : Nat) (gone : Int)
      (more : List (Nat × Int)) :
      stretch s place segment = some (length, some (some (next, beyond))) → length ≤ off + dist →
      Enters s next beyond 0 (off + dist - length) (gone + ((length : Int) - off)) more →
      Enters s place segment off dist gone ((segment, gone) :: more)

/-- The forward search of R47 for a segment: the distance in µm from the reference to its start, with the
segments passed and their headers; `gone` is that distance to the start of the segment stood in (log 14). -/
inductive Meets (s : State) (target : Nat) :
    Place → (segment off dist : Nat) → (gone : Int) → Option (Int × List (Nat × Header)) → Prop
  | missing (place : Place) (segment off dist : Nat) (gone : Int) : heldHeader s segment = none →
      Meets s target place segment off dist gone none
  | within (place : Place) (segment off dist : Nat) (gone : Int) (h : Header) :
      heldHeader s segment = some h → off + dist < h.length →
      Meets s target place segment off dist gone none
  | ends (place : Place) (segment off dist : Nat) (gone : Int) (h : Header) :
      heldHeader s segment = some h → h.length ≤ off + dist → onwards s place segment h = none →
      Meets s target place segment off dist gone none
  | found (place next : Place) (segment off dist : Nat) (gone : Int) (h : Header) :
      heldHeader s segment = some h → h.length ≤ off + dist →
      onwards s place segment h = some (next, target) →
      Meets s target place segment off dist gone (some (gone + h.length * 1000, [(segment, h)]))
  | onward (place next : Place) (segment off dist beyond : Nat) (gone : Int) (h : Header)
      (r : Option (Int × List (Nat × Header))) :
      heldHeader s segment = some h → h.length ≤ off + dist →
      onwards s place segment h = some (next, beyond) → beyond ≠ target →
      Meets s target next beyond 0 (off + dist - h.length) (gone + h.length * 1000) r →
      Meets s target place segment off dist gone
        (r.map fun m => (m.1, (segment, h) :: m.2))

/-- A curvature reading at a point (R89, R93, R94), none when it is missing. Point 31's neighbour is point 0
of the segment that a walk of what is left reaches, if it leaves the reading's segment (log 12). -/
def Reading (s : State) (pt : RoutePoint) (r : Option Int) : Prop :=
  match heldHeader s pt.segment with
  | none => r = none
  | some h =>
    if h.length ≤ pt.offset then r = none
    else
      let i := pt.offset * 8192 / h.length / 256
      let f := pt.offset * 8192 / h.length % 256
      match heldBlock s pt.segment (Fin.ofNat 8 (i / 4)) with
      | none => r = none
      | some b =>
        let k := b.points[Fin.ofNat 4 i]
        let between (next : Int) : Option Int := some (k + roundDiv ((next - k) * f) 256)
        if f = 0 then r = some k
        else if i < 31 then
          if (i + 1) % 4 ≠ 0 then r = between b.points[Fin.ofNat 4 (i + 1)]
          else
            match heldBlock s pt.segment (Fin.ofNat 8 ((i + 1) / 4)) with
            | none => r = none
            | some later => r = between later.points[(0 : Fin 4)]
        else
          ∃ stop, Walks s pt.place pt.segment pt.offset (h.length - pt.offset) stop ∧
            ((∃ length next, stretch s pt.place pt.segment = some (length, some (some next)) ∧
                length ≤ h.length) →
              match stop.bind fun p => heldBlock s p.segment 0 with
              | none => r = some k
              | some later => r = between later.points[(0 : Fin 4)]) ∧
            ((∀ length next, stretch s pt.place pt.segment = some (length, some (some next)) →
                h.length < length) → r = some k)

/-! ## Echoes -/

/-- A measured position lies beyond its channel's tracking limit from the issued code (R134). -/
def BeyondLimit (s : State) (c : ChannelId) (measured : Nat) : Prop :=
  ∃ i, s.osu.channel[c].issued = some i ∧
    s.tables.channel[c].trackLimit < ((measured : Int) - i.code).natAbs

/-- What an echo that is used leaves of its bogie (R133, R134): the measured positions and the status, with
ACT_STATUS for a fault; each channel's tracking count 1 more, up to 15, when its position lies beyond the limit,
and else 0; TRACK_ERR for a count then at N or more. -/
def EchoStored (s : State) (b : BogieId) (e : Echo) (t : State) : Prop :=
  let lead := e.measuredLead.toNat
  let trail := e.measuredTrail.toNat
  t.als[b].measured = some { lead := lead, trail := trail } ∧
  t.als[b].status = some (e.status.extractLsb' 0 3) ∧
  (e.status.extractLsb' 0 3 ≠ 0 → t.flag .actStatus = true) ∧
  (BeyondLimit s (leadOf b) lead → t.als[b].trackLead = min (s.als[b].trackLead + 1) 15) ∧
  (¬ BeyondLimit s (leadOf b) lead → t.als[b].trackLead = 0) ∧
  (BeyondLimit s (trailOf b) trail → t.als[b].trackTrail = min (s.als[b].trackTrail + 1) 15) ∧
  (¬ BeyondLimit s (trailOf b) trail → t.als[b].trackTrail = 0) ∧
  (t.flag .trackErr = true ↔ s.flag .trackErr = true ∨
    (BeyondLimit s (leadOf b) lead ∧
      s.tables.channel[leadOf b].trackCount ≤ t.als[b].trackLead) ∨
    (BeyondLimit s (trailOf b) trail ∧
      s.tables.channel[trailOf b].trackCount ≤ t.als[b].trackTrail))

/-! ## Reply data as chapter 12 lays it out

Each word from its highest bit down, the unnamed bits written as zeros (R193). -/

/-- One bit for each bogie, bogie 3 highest. -/
def bogieBits (p : BogieId → Bool) : BitVec 4 :=
  BitVec.ofBool (p 3) ++ BitVec.ofBool (p 2) ++ BitVec.ofBool (p 1) ++ BitVec.ofBool (p 0)

/-- One bit for each of eight, number 7 highest. -/
def eightBits (p : Fin 8 → Bool) : BitVec 8 :=
  BitVec.ofBool (p 7) ++ BitVec.ofBool (p 6) ++ BitVec.ofBool (p 5) ++ BitVec.ofBool (p 4) ++
  BitVec.ofBool (p 3) ++ BitVec.ofBool (p 2) ++ BitVec.ofBool (p 1) ++ BitVec.ofBool (p 0)

/-- A signed 32-bit value, the high word first. -/
def signedPair (v : Int) : List Word :=
  [BitVec.ofInt 16 (v / 65536), BitVec.ofInt 16 v]

/-- STATUS_READ page 0 (Table 12.6). -/
def statusLayout0 (s : State) : List Word :=
  let part : BitVec 2 := match s.sdu.part with
    | .config => 0 | .standby => 1 | .active => 2 | .fallback => 3
  let cause : BitVec 2 := match s.sdu.cause with
    | .powerOn => 0 | .resetLine => 1 | .key => 2
  let reason : BitVec 3 := match s.sdu.reason with
    | some n => BitVec.ofNat 3 n
    | none => 7
  let posted : BitVec 4 := match s.mrh.posted.map Posted.request with
    | none => 0
    | some (.positionSet _ _ _) => 5
    | some (.invalidate _) => 9
    | some .invalidateAll => 9
    | some (.source _ _) => 2
    | some (.axle _ _) => 2
    | some (.bogie _ _) => 2
    | some (.channel _ _) => 2
    | some (.gain _ _) => 2
    | some (.beacon _ _) => 2
    | some (.param _) => 2
  [part ++ BitVec.ofBool s.sdu.deferred ++ reason ++ cause ++ BitVec.ofBool s.csu.running ++
     BitVec.ofBool s.csu.supervision.counting ++ BitVec.ofBool s.csu.rearm ++
     BitVec.ofBool s.csu.lastNumber.isSome ++ BitVec.ofBool s.mrh.posted.isSome ++
     BitVec.ofBool s.mrh.prepare.isSome ++ 0#2,
   s.sdu.flags.extractLsb' 16 16, s.sdu.flags.extractLsb' 0 16,
   0#2 ++ s.rpu.own ++ 0#1 ++ BitVec.ofNat 3 s.rpu.forward.length ++
     BitVec.ofNat 4 (s.rpu.commands.length + s.rpu.others.length),
   BitVec.ofNat 16 s.csu.cycle, BitVec.ofNat 16 s.csu.substitutes,
   BitVec.ofNat 16 (s.csu.lastNumber.getD 0), BitVec.ofNat 16 (s.csu.supervision.elapsed / 2),
   BitVec.ofNat 16 (max s.tables.param.timeout (2 * s.tables.param.period)),
   posted ++ bogieBits (fun b => s.als[b].outstanding.isSome) ++
     bogieBits (fun b => s.als[b].excluded) ++ bogieBits (fun b => s.als[b].ignoring)]

/-- A bogie state's three bits (Table 12.6). -/
def bogieStateBits : BogieState → BitVec 3
  | .off => 0 | .passive => 1 | .tracking => 2 | .degraded => 3 | .frozen => 4 | .excluded => 5

/-- STATUS_READ page 1 (Table 12.6). -/
def statusLayout1 (s : State) : List Word :=
  let located : BitVec 2 := match s.opu.position with
    | none => 0
    | some p => if p.confirmed then 2 else 1
  let outcome : BitVec 3 := match s.bru.report.outcome with
    | .nothing => 0 | .unknown => 1 | .agreed => 2 | .disagreed => 3 | .adopted => 4
  let state (b : BogieId) : BitVec 3 := bogieStateBits s.slu.bogieState[b]
  [BitVec.ofNat 16 ((s.opu.position.map Located.segment).getD 0),
   BitVec.ofNat 16 ((s.opu.position.map fun p => p.offset / 1000).getD 0),
   BitVec.ofNat 16 s.opu.report.speed,
   located ++ BitVec.ofNat 4 s.opu.hold ++ BitVec.ofNat 5 s.opu.route.length ++ 0#1 ++
     BitVec.ofNat 4 s.opu.trail.length,
   BitVec.ofNat 2 s.bru.agreement ++ BitVec.ofNat 2 s.bru.disagreement ++
     BitVec.ofBool s.bru.reader[(0 : Fin 2)].isSome ++
     BitVec.ofBool s.bru.reader[(1 : Fin 2)].isSome ++ outcome ++
     BitVec.ofBool s.bru.report.error.isSome ++ 0#3 ++ BitVec.ofNat 3 s.sgc.outstanding.length,
   BitVec.ofNat 16 (s.bru.distance / 1000000), BitVec.ofNat 16 (s.bru.report.ident.getD 0),
   BitVec.ofInt 16 (max (-32768) (min 32767 (s.bru.report.error.getD 0))),
   eightBits (fun n => decide (s.sit.pulse[n].state = .fresh)) ++
     eightBits (fun n => decide (s.sit.gap[n].state = .fresh)),
   0#4 ++ state 3 ++ state 2 ++ state 1 ++ state 0,
   0#12 ++ bogieBits (fun b => s.osu.excluded[b])]

/-- TABLE_READ of one entry (Table 12.4); a table number or an index out of range has none. -/
def tableLayout (t : Tables) (table index : Nat) : Option (List Word) :=
  if table = 1 then
    if h : index < 24 then
      match t.source[index] with
      | none => some [0, 0]
      | some e =>
        let kind : BitVec 2 := match e.target with
          | .pulse _ => 1 | .gap _ => 2 | .beacon _ => 3
        let slot : Nat := match e.target with
          | .pulse n => n.val | .gap n => n.val | .beacon n => n.val
        some [1#1 ++ 0#1 ++ BitVec.ofNat 6 e.node ++ 0#4 ++ BitVec.ofNat 4 e.item,
              0#2 ++ kind ++ 0#1 ++ BitVec.ofNat 3 slot ++ 0#4 ++ BitVec.ofNat 4 e.maxAge]
    else none
  else if table = 2 then
    if h : index < 8 then
      match t.axle[index] with
      | none => some [0, 0]
      | some e => some [BitVec.ofNat 16 e.umPerPulse,
          BitVec.ofBool e.odometry ++ 0#11 ++ BitVec.ofNat 4 e.slot.val]
    else none
  else if table = 3 then
    if h : index < 4 then
      let e := t.bogie[index]
      some [BitVec.ofBool e.enabled ++ BitVec.ofBool e.echoCompare ++ 0#8 ++
              BitVec.ofNat 6 e.actuator,
            BitVec.ofNat 16 e.pivot, BitVec.ofNat 16 e.semi]
    else none
  else if table = 4 then
    if h : index < 8 then
      let e := t.channel[index]
      some [BitVec.ofNat 16 e.gain, BitVec.ofInt 16 e.trim, BitVec.ofNat 16 e.codeMin,
            BitVec.ofNat 16 e.codeMax, BitVec.ofNat 16 e.slew, BitVec.ofNat 16 e.fallback,
            BitVec.ofNat 16 (e.thetaMax / 65536), BitVec.ofNat 16 e.thetaMax,
            BitVec.ofNat 16 e.trackLimit, BitVec.ofNat 16 e.trackCount]
    else none
  else if table = 5 then
    if h : index < 16 then
      some [BitVec.ofNat 16 t.gain[index].lookAheadTime, BitVec.ofNat 16 t.gain[index].gain]
    else none
  else if table = 6 then
    if h : index < 64 then
      match t.beacon[index] with
      | none => some [0, 0, 0]
      | some e => some [1#1 ++ 0#3 ++ BitVec.ofNat 12 e.ident, BitVec.ofNat 16 e.segment,
          BitVec.ofNat 16 e.offset]
    else none
  else if table = 7 ∧ index = 0 then
    let p := t.param
    some [BitVec.ofNat 16 p.period, BitVec.ofNat 16 p.timeout, 0#15 ++ BitVec.ofBool p.keepAlive,
          BitVec.ofNat 16 p.standstill, BitVec.ofNat 16 p.readerOffset[(0 : Fin 2)],
          BitVec.ofNat 16 p.readerOffset[(1 : Fin 2)],
          0#4 ++ BitVec.ofNat 4 p.readerAxle[(1 : Fin 2)].val ++ 0#4 ++
            BitVec.ofNat 4 p.readerAxle[(0 : Fin 2)].val,
          BitVec.ofNat 16 p.window, BitVec.ofNat 16 p.drift, BitVec.ofNat 16 p.threshold1,
          BitVec.ofNat 16 p.threshold2, BitVec.ofNat 16 p.threshold3, BitVec.ofNat 16 p.horizon,
          BitVec.ofNat 16 p.fallbackStep, BitVec.ofNat 16 p.echoTimeout]
  else none

/-- CHANNEL_READ part 0 (Table 12.7). -/
def bogieLayout (s : State) (b : BogieId) : List Word :=
  let l := s.als[b]
  [bogieStateBits s.slu.bogieState[b] ++ BitVec.ofBool l.outstanding.isSome ++
     BitVec.ofBool l.pending.isSome ++ BitVec.ofBool l.measured.isSome ++
     BitVec.ofBool l.status.isSome ++ BitVec.ofBool s.osu.excluded[b] ++
     BitVec.ofBool l.excluded ++ BitVec.ofBool l.ignoring ++ BitVec.ofNat 2 l.mismatch ++ 0#1 ++
     BitVec.ofNat 3 l.notices,
   match l.outstanding with
   | some o => 0#1 ++ BitVec.ofNat 3 o.age ++ 0#2 ++ o.tag
   | none => 0,
   BitVec.ofNat 16 ((l.pending.map CodePair.lead).getD 0),
   BitVec.ofNat 16 ((l.pending.map CodePair.trail).getD 0),
   BitVec.ofNat 16 ((l.measured.map CodePair.lead).getD 0),
   BitVec.ofNat 16 ((l.measured.map CodePair.trail).getD 0),
   0#13 ++ l.status.getD 0]

/-- CHANNEL_READ part 1 or 2 (Table 12.7), with the tracking count of that channel. -/
def channelLayout (s : State) (c : ChannelId) (tracking : Nat) : List Word :=
  let r := s.slu.record[c]
  let x := s.osu.channel[c]
  let g := s.sit.gap[c]
  let source : BitVec 2 := match r.source with
    | .nothing => 0 | .lookAhead => 1 | .axle => 2 | .held => 3
  let view : BitVec 2 := match g.state with
    | .empty => 0 | .fresh => 1 | .stale => 2
  [BitVec.ofBool s.opu.report.axle[c].isSome ++ BitVec.ofBool x.target.isSome ++
     BitVec.ofBool x.rangeLimited ++ BitVec.ofBool x.issued.isSome ++
     BitVec.ofBool r.correction.isSome ++ BitVec.ofBool r.limited ++ source ++
     BitVec.ofNat 2 (r.band.getD 0) ++ BitVec.ofNat 2 (r.gainClass.getD 0) ++
     BitVec.ofNat 4 tracking,
   view ++ 0#14, BitVec.ofInt 16 ((g.view.map Stamped.value).getD 0),
   BitVec.ofNat 16 ((s.opu.report.axle[c].map RoutePoint.segment).getD 0),
   BitVec.ofNat 16 ((s.opu.report.axle[c].map RoutePoint.offset).getD 0)] ++
  signedPair s.slu.lastTarget[c] ++
  [BitVec.ofNat 16 (r.lookAhead.getD 0), BitVec.ofInt 16 (r.curvature.getD 0)] ++
  signedPair (r.correction.getD 0) ++
  [BitVec.ofNat 16 (x.target.getD 0), BitVec.ofNat 16 ((x.issued.map Issued.code).getD 0)]

/-- CACHE_READ (Table 12.5) of a way, all zeros when it is not allocated (log 34). -/
def cacheLayout (s : State) (i : Fin 64) (w part : Fin 2) : List Word :=
  match s.sgc.sets[i].ways[w] with
  | none => List.replicate 22 0
  | some l =>
    let segment := l.tag * 64 + i.val
    let block (k : Fin 8) : Option SubBlock := l.content.bind fun c => c.blocks[k]
    let cls (k : Fin 8) : BitVec 2 := BitVec.ofNat 2 (((block k).map SubBlock.gainClass).getD 0)
    let point (k : Fin 8) (j : Fin 4) : Word :=
      BitVec.ofInt 16 (((block k).map fun b => b.points[j]).getD 0)
    let four (k : Fin 8) : List Word := [point k 0, point k 1, point k 2, point k 3]
    [1#1 ++ BitVec.ofBool (s.sgc.inUse.contains segment) ++
       BitVec.ofBool (decide (s.sgc.sets[i].lru = w)) ++ BitVec.ofBool l.content.isSome ++ 0#4 ++
       eightBits (fun k => (block k).isSome),
     BitVec.ofNat 16 segment, BitVec.ofNat 16 ((l.content.map fun c => c.header.length).getD 0),
     BitVec.ofNat 16 ((l.content.map fun c => c.header.succ0).getD 0),
     BitVec.ofNat 16 ((l.content.map fun c => c.header.succ1).getD 0),
     cls 7 ++ cls 6 ++ cls 5 ++ cls 4 ++ cls 3 ++ cls 2 ++ cls 1 ++ cls 0] ++
    if part = 0 then four 0 ++ four 1 ++ four 2 ++ four 3
    else four 4 ++ four 5 ++ four 6 ++ four 7

/-! ## Requests -/

/-- The origin and the function number of a command that is a management request (Table 12.3). -/
def requestOf : Instr → Option (Origin × Nat)
  | .powerOnReset _ => none
  | .resetLine _ => none
  | .frameClose _ => none
  | .sample _ => none
  | .answer _ _ _ => none
  | .notice _ _ _ => none
  | .segment _ => none
  | .cycle _ => none
  | .returnedCommand _ _ => none
  | .returnedFetch _ => none
  | .returnedReply => none
  | .substituteTimerExpiry => none
  | .sampleExpired _ => none
  | .fetchTimeout _ => none
  | .echoTimeout _ => none
  | .positionUpdate => none
  | .bogieDetermination => none
  | .shaping => none
  | .supervisionExpiry => none
  | .outSelection => none
  | .replyLeftOut _ => none
  | .statusRead o _ _ => some (o, 1)
  | .tableRead o _ _ _ => some (o, 3)
  | .tableWriteSource o _ _ => some (o, 2)
  | .tableWriteAxle o _ _ => some (o, 2)
  | .tableWriteBogie o _ _ => some (o, 2)
  | .tableWriteChannel o _ _ => some (o, 2)
  | .tableWriteGainSchedule o _ _ => some (o, 2)
  | .tableWriteBeacon o _ _ => some (o, 2)
  | .tableWriteParameter o _ _ => some (o, 2)
  | .stateSetConfig o _ => some (o, 4)
  | .stateSetStandby o _ => some (o, 4)
  | .stateSetActive o _ => some (o, 4)
  | .positionSet o _ _ => some (o, 5)
  | .routeAppend o _ _ => some (o, 6)
  | .routeClear o _ => some (o, 7)
  | .diagAck o _ => some (o, 8)
  | .cacheInvalidate o _ => some (o, 9)
  | .cacheInvalidateAll o _ => some (o, 9)
  | .cacheRead o _ => some (o, 10)
  | .channelRead o _ _ _ => some (o, 11)
  | .resetPrepare o _ => some (o, 12)
  | .resetConfirm o _ => some (o, 13)
  | .refusedFunction o f _ => some (o, f.toNat)
  | .lineIdle => none
  | .frameTransmissionEnd => none

/-- The command that a MANAGE frame with first payload word `w` and request data `data` stands for (Table
12.3); none for a TABLE_WRITE or a STATE_SET whose argument names no table or target, which no row of
the command table covers. -/
def requestCommand (o : Origin) (straps : Addr) (w : Word) (data : List Word) : Option Instr :=
  let function := field w 12 4
  let a : BitVec 4 := w.extractLsb' 8 4
  let b : Byte := w.extractLsb' 0 8
  if function = 1 then some (.statusRead o b data)
  else if function = 2 then
    if a = 1 then some (.tableWriteSource o b data)
    else if a = 2 then some (.tableWriteAxle o b data)
    else if a = 3 then some (.tableWriteBogie o b data)
    else if a = 4 then some (.tableWriteChannel o b data)
    else if a = 5 then some (.tableWriteGainSchedule o b data)
    else if a = 6 then some (.tableWriteBeacon o b data)
    else if a = 7 then some (.tableWriteParameter o b data)
    else none
  else if function = 3 then some (.tableRead o a b data)
  else if function = 4 then
    if b = 0 then some (.stateSetConfig o data)
    else if b = 1 then some (.stateSetStandby o data)
    else if b = 2 then some (.stateSetActive o data)
    else none
  else if function = 5 then some (.positionSet o b data)
  else if function = 6 then some (.routeAppend o b data)
  else if function = 7 then some (.routeClear o data)
  else if function = 8 then some (.diagAck o data)
  else if function = 9 then
    if a = 1 then some (.cacheInvalidateAll o data) else some (.cacheInvalidate o data)
  else if function = 10 then some (.cacheRead o data)
  else if function = 11 then some (.channelRead o a b data)
  else if function = 12 then some (.resetPrepare o data)
  else if function = 13 then some (.resetConfirm o ⟨data, straps⟩)
  else some (.refusedFunction o (w.extractLsb' 12 4) data)

/-- A request addressed to a part that accepts it (R180). -/
def Addressed (s : State) (o : Origin) : Prop :=
  forwardOnly s = false ∧ s.mrh.confirmed = false ∧ o.broadcast = false

/-- What follows the handling of a request: its REPLY and its keep-alive (R181, R148). -/
def finish (s : State) (o : Origin) (function : Nat) (r : Reply) : State :=
  managementKeepAlive (sendReply s o function r)

/-- The assembler takes bytes, and holds none (R154). -/
def Listening (s : State) : Prop :=
  s.rpu.assembler = { waitIdle := false, kept := [], count := 0 }

/-- A command that a repeater is not given: a delivered or a returned frame, or a request (R158, R165). -/
def delivered : Instr → Bool
  | .sample _ => true
  | .answer _ _ _ => true
  | .notice _ _ _ => true
  | .segment _ => true
  | .cycle _ => true
  | .returnedCommand _ _ => true
  | .returnedFetch _ => true
  | .returnedReply => true
  | c => (requestOf c).isSome

/-- A command in which a flag can be cleared (R174): a reset, an acknowledgement, the end or the refusal
of the REPLY to a confirmed reset, and a closed frame, which may carry an acknowledgement or a
confirmation. -/
def mayClearFlags : Instr → Bool
  | .powerOnReset _ => true
  | .resetLine _ => true
  | .frameClose _ => true
  | .replyLeftOut _ => true
  | .diagAck _ _ => true
  | .resetConfirm _ _ => true
  | _ => false

/-- Every field of the state but what comes from outside and the straps is at its value after a
reset; the tables, the reset cause and the flags are stated beside it (R14, R41, R54, R81, R104, R120,
R139, R153, R167, R172, R191). -/
def BlocksAtReset (t : State) : Prop :=
  t.sit = Sit.initial ∧ t.opu = Opu.initial ∧ t.bru = Bru.initial ∧ t.sgc = Sgc.initial ∧
  t.slu = Slu.initial ∧ t.osu = Osu.initial ∧ (∀ b : BogieId, t.als[b] = Link.initial) ∧
  t.csu = Csu.initial ∧ t.mrh = Mrh.initial ∧ t.rpu.forward = [] ∧ t.rpu.commands = [] ∧
  t.rpu.others = [] ∧ t.rpu.sending = none ∧ t.rpu.forwardCount = 0 ∧
  t.rpu.assembler = { waitIdle := true, kept := [], count := 0 } ∧ t.sdu.part = .config ∧
  t.sdu.deferred = false ∧ t.sdu.reason = none

end Sys2Proof.Machine
end

