-- ==== Sys2Proof/Certificates/Slice0/Obligations.lean ====
section
/-! DEFINITION. The statements for the provers, in the order of OBLIGATIONS.json. A rule that a docstring
names says what its clauses formalise; a log number names the model's own choice. -/

open Sys2Proof Sys2Proof.Machine

/-! ## Steps -/

/-- A step with a command at the front of the queue is that command's meaning on the state with the
queue's rest. -/
def Obligations.StepRunsFrontCommand : Prop :=
  ∀ (c : Instr) (s : State), step (s.setPending (c :: s.pending)) = exec c s

/-- On an empty queue half a millisecond passes (the model's choice, log 7): the gap is over; a running
substitute timer counts half a millisecond, or expires as SUBSTITUTE_TIMER_EXPIRY when that is its last; then
a supervision timer that counts does the same, or expires as SUPERVISION_EXPIRY when it reaches the effective
timeout (R140, R144, R149, R150). -/
def Obligations.EmptyQueueCountsTime : Prop :=
  ∀ s : State, s.pending = [] →
    let passed := s.setRpu { s.rpu with gap := false }
    ∃ u : State,
      (s.csu.substTimer = none → u = passed) ∧
      (∀ n, s.csu.substTimer = some (n + 2) →
        u = passed.setCsu { s.csu with substTimer := some (n + 1) }) ∧
      (∀ n, s.csu.substTimer = some n → n ≤ 1 → exec .substituteTimerExpiry passed = .next u) ∧
      let counted := u.setCsu { u.csu with
        supervision := { u.csu.supervision with elapsed := s.csu.supervision.elapsed + 1 } }
      let timeout := 2 * max s.tables.param.timeout (2 * s.tables.param.period)
      let counts := s.csu.supervision.counting = true ∧
        (s.sdu.part = .standby ∨ s.sdu.part = .active)
      (¬ counts → step s = .next u) ∧
      (counts → s.csu.supervision.elapsed + 1 < timeout → step s = .next counted) ∧
      (counts → timeout ≤ s.csu.supervision.elapsed + 1 →
        step s = exec .supervisionExpiry counted)

/-! ## Resets -/

/-- POWER_ON_RESET and RESET_LINE (R172, R165 and each chapter's state after reset): the straps are read,
every table takes its default, every block its reset state, the cause is the reset's; RESET_SEEN and
POSITION_LOST alone are set (R173). What the position report holds is the model's choice (log 3). -/
def Obligations.FullResets : Prop :=
  ∀ (straps : Addr) (s : State),
    (∃ t, exec (.powerOnReset straps) s = .next t ∧ t.straps = straps ∧ t.rpu.own = straps ∧
      t.tables = Tables.initial ∧ BlocksAtReset t ∧ t.sdu.cause = .powerOn ∧
      t.sdu.flags = 0x401#32 ∧ t.pending = s.pending ∧ t.within = s.within) ∧
    (∃ t, exec (.resetLine straps) s = .next t ∧ t.straps = straps ∧ t.rpu.own = straps ∧
      t.tables = Tables.initial ∧ BlocksAtReset t ∧ t.sdu.cause = .resetLine ∧
      t.sdu.flags = 0x401#32 ∧ t.pending = s.pending ∧ t.within = s.within)

/-- The key reset takes effect when the REPLY to a confirmed reset has left OUT, or at the moment the queue
refuses that REPLY (R190, R164): the straps are read, the tables kept, every block takes its reset state,
the cause is KEY. What the straps read at either moment comes with the command (log 19). -/
def Obligations.KeyResetAtReply : Prop :=
  (∀ (straps : Addr) (s : State) (bytes : List Byte),
    s.rpu.sending = some { origin := .reply true, bytes := bytes } → s.mrh.confirmed = true →
    ∃ t, exec (.replyLeftOut straps) s = .next t ∧ t.straps = straps ∧ t.rpu.own = straps ∧
      t.tables = s.tables ∧ BlocksAtReset t ∧ t.sdu.cause = .key ∧ t.pending = s.pending) ∧
  (∀ (straps : Addr) (o : Origin) (c : Word) (p : Prepare) (s : State), Addressed s o →
    s.mrh.prepare = some p →
    p.sender = o.source → c.toNat = 65535 - p.value.toNat → 12 ≤ queueLength s.rpu →
    ∃ t, exec (.resetConfirm o ⟨[c], straps⟩) s = .next t ∧ BlocksAtReset t ∧ t.tables = s.tables ∧
      t.straps = straps ∧ t.sdu.cause = .key ∧ t.rpu.own = straps ∧ t.flag .resetSeen = true ∧
      t.flag .positionLost = true ∧ t.flag .txqFull = false)

/-- What every reset sets of the flags (R173): RESET_SEEN and POSITION_LOST, and after a key reset, at the end
or at the refusal of its REPLY (R190), SAMPLE_STALE exactly when a Source Table entry that was kept
configures a slot; no other flag. The bytes of the frame that it cut off are gone. -/
def Obligations.ResetFlags : Prop :=
  ∀ (c : Instr) (straps : Addr) (s t : State),
    let key : Prop :=
      (c = .replyLeftOut straps ∧ s.mrh.confirmed = true ∧
        ∃ bytes, s.rpu.sending = some { origin := .reply true, bytes := bytes }) ∨
      (∃ (o : Origin) (w : Word) (p : Prepare), c = .resetConfirm o ⟨[w], straps⟩ ∧ Addressed s o ∧
        s.mrh.prepare = some p ∧ p.sender = o.source ∧ w.toNat = 65535 - p.value.toNat ∧
        12 ≤ queueLength s.rpu)
    (c = .powerOnReset straps ∨ c = .resetLine straps ∨ key) →
    exec c s = .next t →
    t.rpu.assembler.kept = [] ∧
    ∀ f : Flag, t.flag f = true ↔
      f = .resetSeen ∨ f = .positionLost ∨
      (f = .sampleStale ∧ key ∧
        ∃ n : Fin 8, slotConfigured s.tables.source (.pulse n) = true ∨
          slotConfigured s.tables.source (.gap n) = true)

/-! ## Reception -/

/-- A closed burst that fails guard, length or check byte is dropped with RX_REJECT and nothing else
(R155); while the assembler waits for an idle line no burst is taken (R154). -/
def Obligations.BadFrameDropped : Prop :=
  ∀ (burst : List Byte) (straps : Addr) (s : State),
    (s.rpu.assembler.waitIdle = true → exec (.frameClose ⟨burst, straps⟩) s = .next s) ∧
    (Listening s →
      (burst.length < 5 ∨
        ∃ b0 b1 b2 b3 rest, burst = b0 :: b1 :: b2 :: b3 :: rest ∧
          (b0.getLsbD 7 = b0.getLsbD 6 ∨
           24 < (FrameHeader.ofValue (b0 ++ b1 ++ b2 ++ b3)).length ∨
           burst.length ≠ 5 + 2 * (FrameHeader.ofValue (b0 ++ b1 ++ b2 ++ b3)).length ∨
           burst.getLast? ≠ some (checkByte burst.dropLast))) →
      exec (.frameClose ⟨burst, straps⟩) s = .next (s.setFlag .rxReject))

/-- A frame that the part originates passes the reception checks wherever it arrives whole, with the
guard pair 10, its class, addresses, tag and payload (R192, R155). -/
def Obligations.OriginatedFrameIsValid : Prop :=
  ∀ (cls : FrameClass) (own destination : Addr) (tag : Tag) (payload : List Word),
    payload.length ≤ 24 →
    checkFrame (originate cls own destination tag payload)
      (originate cls own destination tag payload).length =
      some {
        header := { guard := 0b10#2, cls := cls, length := payload.length,
                    destination := destination, source := own, tag := tag }
        payload := payload
        bytes := originate cls own destination tag payload }

/-- A valid frame for another node, and in a repeater every valid frame, is placed at the back of the
forward buffer byte for byte, or dropped with FWD_OVERRUN when the buffer holds 4 (R156, R159, R165). -/
def Obligations.FrameForwarded : Prop :=
  ∀ (burst : List Byte) (straps : Addr) (s : State) (f : ValidFrame), Listening s → burst.length ≤ 53 →
    checkFrame burst burst.length = some f →
    (forwardOnly s = true ∨
      (f.header.source ≠ s.rpu.own ∧ f.header.destination ≠ s.rpu.own ∧
        f.header.destination ≠ 63)) →
    (s.rpu.forward.length < 4 →
      exec (.frameClose ⟨burst, straps⟩) s = .next (s.setRpu { s.rpu with
        forward := s.rpu.forward ++ [burst] })) ∧
    (4 ≤ s.rpu.forward.length → exec (.frameClose ⟨burst, straps⟩) s = .next (s.setFlag .fwdOverrun))

/-- A valid frame addressed to the part, or broadcast by another node, is the command of its class on
the state that has forwarded a broadcast frame, in the same step (the model's choice, log 5); an unfit ECHO,
and a COMMAND, FETCH or REPLY addressed to the part, set RX_REJECT (R156, R158, R127). A MANAGE frame of a
TABLE_WRITE of no table or a STATE_SET of no target is no command of the table and is answered REFUSED_RANGE
when it is accepted (R168, R180, R186; log 26). -/
def Obligations.DeliveredFrameIsItsCommand : Prop :=
  ∀ (burst : List Byte) (straps : Addr) (s : State) (f : ValidFrame), Listening s → burst.length ≤ 53 →
    checkFrame burst burst.length = some f → forwardOnly s = false →
    f.header.source ≠ s.rpu.own →
    (f.header.destination = s.rpu.own ∨ f.header.destination = 63) →
    let broadcast := decide (f.header.destination ≠ s.rpu.own)
    let u := if broadcast then forwardFrame s burst else s
    let d : Delivery := { source := f.header.source, tag := f.header.tag, payload := f.payload }
    let o : Origin := { source := f.header.source, tag := f.header.tag, broadcast := broadcast }
    (f.header.cls = .sample → exec (.frameClose ⟨burst, straps⟩) s = exec (.sample d) u) ∧
    (f.header.cls = .segment → exec (.frameClose ⟨burst, straps⟩) s = exec (.segment d) u) ∧
    (f.header.cls = .cycle → exec (.frameClose ⟨burst, straps⟩) s = exec (.cycle d) u) ∧
    (f.header.cls = .echo →
      (∀ e, echoOfPayload f.payload = some (.answer, e) →
        exec (.frameClose ⟨burst, straps⟩) s = exec (.answer f.header.source f.header.tag e) u) ∧
      (∀ e, echoOfPayload f.payload = some (.notice, e) →
        exec (.frameClose ⟨burst, straps⟩) s = exec (.notice f.header.source f.header.tag e) u) ∧
      (echoOfPayload f.payload = none →
        exec (.frameClose ⟨burst, straps⟩) s = .next (u.setFlag .rxReject))) ∧
    (f.header.cls = .manage →
      (f.payload = [] → u.mrh.confirmed = false →
        exec (.frameClose ⟨burst, straps⟩) s = .next (u.setFlag .rxReject)) ∧
      (f.payload = [] → u.mrh.confirmed = true → exec (.frameClose ⟨burst, straps⟩) s = .next u) ∧
      (∀ w data c, f.payload = w :: data → requestCommand o straps w data = some c →
        exec (.frameClose ⟨burst, straps⟩) s = exec c u) ∧
      (∀ w data, f.payload = w :: data → requestCommand o straps w data = none →
        (w.toNat / 4096 = 2 ∧ (w.toNat / 256 % 16 = 0 ∨ 7 < w.toNat / 256 % 16) ∨
          w.toNat / 4096 = 4 ∧ 2 < w.toNat % 256) ∧
        (u.mrh.confirmed = true ∨ (broadcast = true ∧ w.toNat / 4096 = 2) →
          exec (.frameClose ⟨burst, straps⟩) s = .next u) ∧
        (u.mrh.confirmed = false → (broadcast = false ∨ w.toNat / 4096 = 4) →
          exec (.frameClose ⟨burst, straps⟩) s =
            .next (finish (cancelPrepare u) o (w.toNat / 4096) (.plain .refusedRange))))) ∧
    (f.header.cls = .command ∨ f.header.cls = .fetch ∨ f.header.cls = .reply →
      exec (.frameClose ⟨burst, straps⟩) s = .next (if broadcast then u else u.setFlag .rxReject))

/-- A valid frame whose source is the own address is removed, whatever its destination, and handled by its
class (R156, R157), in the same step (the model's choice, log 5). A returned FETCH frees the outstanding
entry of the segment it names and sets FETCH_TIMEOUT in either case (R75), and one without a payload word
names none (log 25); a returned REPLY sets REPLY_LOST (R157). -/
def Obligations.ReturnedFrameHandled : Prop :=
  (∀ (burst : List Byte) (straps : Addr) (s : State) (f : ValidFrame), Listening s → burst.length ≤ 53 →
    checkFrame burst burst.length = some f → forwardOnly s = false →
    f.header.source = s.rpu.own →
    (f.header.cls = .command →
      exec (.frameClose ⟨burst, straps⟩) s = exec (.returnedCommand f.header.destination f.header.tag) s) ∧
    (∀ n rest, f.header.cls = .fetch → f.payload = n :: rest →
      exec (.frameClose ⟨burst, straps⟩) s = exec (.returnedFetch n) s) ∧
    (f.header.cls = .fetch → f.payload = [] →
      exec (.frameClose ⟨burst, straps⟩) s = .next (s.setFlag .fetchTimeout)) ∧
    (f.header.cls = .reply → exec (.frameClose ⟨burst, straps⟩) s = exec .returnedReply s) ∧
    (f.header.cls = .sample ∨ f.header.cls = .echo ∨ f.header.cls = .segment ∨
        f.header.cls = .manage ∨ f.header.cls = .cycle →
      exec (.frameClose ⟨burst, straps⟩) s = .next (s.setFlag .rxReject))) ∧
  (∀ (segment : Word) (s : State), forwardOnly s = false →
    (∃ t, exec (.returnedFetch segment) s = .next t ∧ t.flag .fetchTimeout = true ∧
      (∀ e, e ∈ t.sgc.outstanding ↔ e ∈ s.sgc.outstanding ∧ e.segment ≠ segment.toNat) ∧
      t.sgc.sets = s.sgc.sets ∧ t.sgc.inUse = s.sgc.inUse ∧ t.sgc.held = s.sgc.held ∧
      t.rpu = s.rpu ∧ t.tables = s.tables ∧ (∀ f, f ≠ .fetchTimeout → t.flag f = s.flag f)) ∧
    exec .returnedReply s = .next (s.setFlag .replyLost))

/-- A COMMAND of the part's own that comes back (R131): ACT_ABSENT is set; an enabled bogie whose
actuator it addresses becomes IDLE whatever the tag, its pending pair and mismatch count kept, and its
next offer is built at once; any other COMMAND changes no link. -/
def Obligations.ReturnedCommandEndsExchange : Prop :=
  ∀ (destination : Addr) (tag : Tag) (s : State), forwardOnly s = false →
    ∃ t, exec (.returnedCommand destination tag) s = .next t ∧ t.flag .actAbsent = true ∧
      t.tables = s.tables ∧ t.rpu = s.rpu ∧ t.osu = s.osu ∧
      (∀ f, f ≠ .actAbsent → t.flag f = s.flag f) ∧
      (∀ b : BogieId, bogieOf s destination = some b →
        t.als[b] = { s.als[b] with outstanding := none } ∧
        (∀ c : BogieId, c ≠ b → t.als[c] = s.als[c]) ∧
        (∀ pair, takeOffer t b (some pair) = build t b pair)) ∧
      ((∀ b : BogieId, bogieOf s destination = some b → s.als[b].outstanding = none) →
        t = s.setFlag .actAbsent)

/-! ## The OUT port -/

/-- An idle line lets the assembler take bytes again (R154); the end of a frame, and of a REPLY that
answers no confirmed reset, frees the OUT port and begins the gap (R163, R164); with none in transmission
neither happens (log 4). -/
def Obligations.LineAndTransmissionEnd : Prop :=
  ∀ (straps : Addr) (s : State),
    exec .lineIdle s = .next (s.setRpu { s.rpu with
      assembler := { s.rpu.assembler with waitIdle := false } }) ∧
    (∀ x, s.rpu.sending = some x → (∀ confirms, x.origin ≠ .reply confirms) →
      exec .frameTransmissionEnd s = .next (s.setRpu { s.rpu with sending := none, gap := true })) ∧
    (∀ confirms bytes, s.rpu.sending = some { origin := .reply confirms, bytes := bytes } →
      (confirms = true → s.mrh.confirmed = false) →
      exec (.replyLeftOut straps) s = .next (s.setRpu { s.rpu with sending := none, gap := true })) ∧
    (s.rpu.sending = none →
      exec .frameTransmissionEnd s = .next s ∧ exec (.replyLeftOut straps) s = .next s)

/-- The arbiter's table (R163): the oldest forwarded frame, the forwarded count raised and stopping at 2,
unless a queued frame waits and the count is 2; a FETCH goes to the ring master with tag 0 (R73). While a
frame is in transmission, or nothing waits, no selection happens (log 4). The command stands for the
moment at which the gap has passed, whatever is left of it (the model's choice, log 8). -/
def Obligations.OutSelectionTable : Prop :=
  ∀ s : State, (s.rpu.sending ≠ none → exec .outSelection s = .next s) ∧
    (s.rpu.sending = none → s.rpu.forwardCount ≤ 2 →
    (∀ oldest rest, s.rpu.forward = oldest :: rest →
      (s.rpu.commands = [] ∧ s.rpu.others = []) ∨ s.rpu.forwardCount < 2 →
      exec .outSelection s = .next (s.setRpu { s.rpu with
        forward := rest, sending := some { origin := .forwarded, bytes := oldest }, gap := false,
        forwardCount := if s.rpu.forwardCount < 2 then s.rpu.forwardCount + 1 else 2 })) ∧
    (∀ n rest, (s.rpu.forward = [] ∨ s.rpu.forwardCount = 2) → s.rpu.commands = [] →
      s.rpu.others = .fetch n :: rest →
      exec .outSelection s = .next (s.setRpu { s.rpu with
        others := rest
        gap := false
        forwardCount := 0
        sending := some ⟨.fetch,
          originate .fetch s.rpu.own 0 0 (fetchPayload n)⟩ })) ∧
    (∀ r rest, (s.rpu.forward = [] ∨ s.rpu.forwardCount = 2) → s.rpu.commands = [] →
      s.rpu.others = .reply r :: rest →
      exec .outSelection s = .next (s.setRpu { s.rpu with
        others := rest
        gap := false
        forwardCount := 0
        sending := some ⟨.reply r.confirms,
          originate .reply s.rpu.own r.destination r.tag r.payload⟩ })) ∧
    (s.rpu.forward = [] → s.rpu.commands = [] → s.rpu.others = [] →
      exec .outSelection s = .next s))

/-- A selected COMMAND frame leaves the queue before any other frame waits longer there, and its codes
become the issued codes of its bogie's channels, each with its inverse copy (R113, R160, R163, R164). The gap
has passed when the command comes (the model's choice, log 8). -/
def Obligations.SelectedCommandIsIssued : Prop :=
  ∀ (s : State) (f : CommandFrame) (rest : List CommandFrame), s.rpu.sending = none →
    (s.rpu.forward = [] ∨ s.rpu.forwardCount = 2) → s.rpu.commands = f :: rest →
    ∃ t, exec .outSelection s = .next t ∧
      t.rpu = { s.rpu with
        commands := rest
        gap := false
        forwardCount := 0
        sending := some ⟨.command,
          originate .command s.rpu.own f.destination f.tag (commandPayload f)⟩ } ∧
      t.osu.channel[leadOf f.bogie] = { s.osu.channel[leadOf f.bogie] with
        issued := some { code := f.lead, inverse := 65535 - f.lead } } ∧
      t.osu.channel[trailOf f.bogie] = { s.osu.channel[trailOf f.bogie] with
        issued := some { code := f.trail, inverse := 65535 - f.trail } } ∧
      (∀ c : ChannelId, c ≠ leadOf f.bogie → c ≠ trailOf f.bogie →
        t.osu.channel[c] = s.osu.channel[c]) ∧
      t.osu.excluded = s.osu.excluded ∧ t.osu.results = s.osu.results ∧ t.tables = s.tables ∧
      t.als = s.als ∧ t.slu = s.slu ∧ t.csu = s.csu ∧ t.mrh = s.mrh ∧ t.sdu = s.sdu ∧
      t.opu = s.opu ∧ t.bru = s.bru ∧ t.sgc = s.sgc ∧ t.sit = s.sit

/-! ## Sample intake -/

/-- A SAMPLE payload of 2 to 24 words of an even number is handled item by item, and one of another
length is discarded whole with RX_REJECT; the tag makes no difference (R6). -/
def Obligations.SampleLength : Prop :=
  ∀ (d : Delivery) (tag : Tag) (s : State), forwardOnly s = false →
    ((d.payload.length = 0 ∨ d.payload.length % 2 = 1 ∨ 24 < d.payload.length) →
      exec (.sample d) s = .next (s.setFlag .rxReject)) ∧
    (2 ≤ d.payload.length → d.payload.length ≤ 24 → d.payload.length % 2 = 0 →
      exec (.sample d) s = .next ((itemsOf d.payload).foldl (handleItem d.source.toNat) s)) ∧
    exec (.sample { d with tag := tag }) s = exec (.sample d) s

/-- One item of a SAMPLE frame (R7 to R10, R44): a PULSE item with field 0 stores its count, a GAP item
with field 0 its value limited to ±200, each with the cycle counter as arrival; a BEACON item with an
identifier goes to a clear reader slot, or sets BEACON_OVERRUN at a pending one; any other item is
ignored. -/
def Obligations.SampleItems : Prop :=
  ∀ (d : Delivery) (head value : Word) (s : State), forwardOnly s = false →
    d.payload = [head, value] →
    let entry := sourceFor s.tables.source d.source.toNat (head.toNat / 4096)
    let info := head.toNat % 4096
    (entry = none → exec (.sample d) s = .next s) ∧
    (∀ e n, entry = some e → e.target = .pulse n →
      exec (.sample d) s = .next (if info = 0 then
        s.setSit { s.sit with pulse := s.sit.pulse.set n.val { s.sit.pulse[n] with
          latest := some { value := value.toNat, arrival := s.csu.cycle }, expired := false } }
        else s)) ∧
    (∀ e n, entry = some e → e.target = .gap n →
      exec (.sample d) s = .next (if info = 0 then
        s.setSit { s.sit with gap := s.sit.gap.set n.val { s.sit.gap[n] with
          latest := some { value := max (-200) (min 200 value.toInt), arrival := s.csu.cycle }
          expired := false } }
        else s)) ∧
    (∀ e n, entry = some e → e.target = .beacon n →
      (info = 0 → exec (.sample d) s = .next s) ∧
      (info ≠ 0 → s.bru.reader[n] = none →
        exec (.sample d) s = .next (s.setBru { s.bru with
          reader := s.bru.reader.set n.val (some { ident := info, latched := value.toNat }) })) ∧
      (info ≠ 0 → s.bru.reader[n] ≠ none →
        exec (.sample d) s = .next (s.setFlag .beaconOverrun)))

/-- SAMPLE_EXPIRED, FETCH_TIMEOUT and ECHO_TIMEOUT as commands of their own (that they act on one slot, entry
or link outside a mark is the model's reading, log 6). A record that is not expired and older than its max
age becomes expired, its view a copy of it in state STALE, with SAMPLE_STALE (R11, R12); a slot that the last
mark found FRESH waits for the next mark, the first to use a new max age (R4, R5). An entry whose age has reached
8, and a command whose age has reached the echo timeout of the last mark (R123), is ended (R74, R130; log 30).
Any other slot, without a record, not configured, FRESH, expired already or young enough, any other entry and
any other link is left as it stands. -/
def Obligations.SingleExpiries : Prop :=
  (∀ (n : Fin 8) (s : State),
    (∀ r limit, s.sit.pulse[n].latest = some r → maxAgeOf s.tables.source (.pulse n) = some limit →
      s.sit.pulse[n].expired = false → s.sit.pulse[n].state ≠ .fresh →
      limit < (s.csu.cycle + 65536 - r.arrival) % 65536 →
      exec (.sampleExpired (.pulse n)) s = .next ((s.setSit { s.sit with
        pulse := s.sit.pulse.set n.val
          { latest := some r, expired := true, view := some r, state := .stale } }).setFlag
        .sampleStale)) ∧
    (∀ r limit, s.sit.gap[n].latest = some r → maxAgeOf s.tables.source (.gap n) = some limit →
      s.sit.gap[n].expired = false → s.sit.gap[n].state ≠ .fresh →
      limit < (s.csu.cycle + 65536 - r.arrival) % 65536 →
      exec (.sampleExpired (.gap n)) s = .next ((s.setSit { s.sit with
        gap := s.sit.gap.set n.val
          { latest := some r, expired := true, view := some r, state := .stale } }).setFlag
        .sampleStale)) ∧
    let tooOld (x : Slot) (maxAge : Option Nat) : Prop := x.expired = false ∧ x.state ≠ .fresh ∧
      ∃ r limit, x.latest = some r ∧ maxAge = some limit ∧
        limit < (s.csu.cycle + 65536 - r.arrival) % 65536
    (¬ tooOld s.sit.pulse[n] (maxAgeOf s.tables.source (.pulse n)) →
      exec (.sampleExpired (.pulse n)) s = .next s) ∧
    (¬ tooOld s.sit.gap[n] (maxAgeOf s.tables.source (.gap n)) →
      exec (.sampleExpired (.gap n)) s = .next s)) ∧
  (∀ s : State,
    (∀ (segment : Word) e, outstandingFor s segment.toNat = some e → 8 ≤ e.age →
      exec (.fetchTimeout segment) s = .next ((s.setSgc { s.sgc with
        outstanding := s.sgc.outstanding.filter fun x => x.segment ≠ segment.toNat }).setFlag
        .fetchTimeout)) ∧
    (∀ segment : Word, (∀ e, outstandingFor s segment.toNat = some e → e.age < 8) →
      exec (.fetchTimeout segment) s = .next s) ∧
    (∀ (b : BogieId) o limit, s.als[b].outstanding = some o → s.csu.echoLimit = some limit →
      limit ≤ o.age → exec (.echoTimeout b) s = .next ((s.setAls (s.als.set b.val
        { s.als[b] with outstanding := none })).setFlag .echoTimeout)) ∧
    (∀ b : BogieId, (∀ o limit, s.als[b].outstanding = some o → s.csu.echoLimit = some limit →
        o.age < limit) →
      exec (.echoTimeout b) s = .next s))

/-! ## Cycle marks -/

/-- A CYCLE frame of one word while the computation is IDLE (R141, R142, R147): it makes a mark, becomes
the last number, clears the standby-start indicator, reloads the substitute timer with 1.5 × P, sets
CYCLE_SEQ when it breaks the sequence, and is a keep-alive when it continues it or is the first since
the entry into STANDBY: it sets the supervision timer to 0 in STANDBY and ACTIVE (R149), and re-arms in
FALLBACK once SUP_EXPIRED is acknowledged (R151). What the mark does at the slots, the fetch entries and the
links is MarkEvaluatesAndAges. A frame of another length sets RX_REJECT alone. -/
def Obligations.CycleFrameMakesMark : Prop :=
  ∀ (d : Delivery) (s : State), forwardOnly s = false →
    (d.payload.length ≠ 1 → exec (.cycle d) s = .next (s.setFlag .rxReject)) ∧
    (∀ number, d.payload = [number] → s.csu.running = false →
      let follows := s.csu.lastNumber = some ((number.toNat + 65535) % 65536)
      let alive := follows ∨ s.csu.standbyStart = true
      ∃ t, exec (.cycle d) s = .next t ∧
        t.csu.cycle = (s.csu.cycle + 1) % 65536 ∧ t.csu.running = true ∧
        (∀ b : BogieId, t.csu.awaiting[b] = false) ∧ t.csu.endReport = false ∧
        t.csu.lastNumber = some number.toNat ∧ t.csu.standbyStart = false ∧
        t.csu.substTimer = some (3 * s.tables.param.period) ∧
        t.csu.substitutes = s.csu.substitutes ∧ t.opu = { s.opu with updateDue := true } ∧
        (s.csu.lastNumber.all (· < 65536) = true →
          (t.flag .cycleSeq = true ↔ s.flag .cycleSeq = true ∨
            (s.csu.lastNumber ≠ none ∧ ¬ follows))) ∧
        (alive → s.sdu.part = .standby ∨ s.sdu.part = .active →
          t.csu.supervision = { counting := true, elapsed := 0 }) ∧
        (s.csu.lastNumber.all (· < 65536) = true → ¬ alive →
          t.csu.supervision = s.csu.supervision ∧ t.csu.rearm = s.csu.rearm) ∧
        (alive → s.sdu.part = .fallback →
          t.csu.supervision = s.csu.supervision ∧
          (t.csu.rearm = true ↔ s.csu.rearm = true ∨ s.flag .supExpired = false)) ∧
        t.tables = s.tables ∧ t.rpu = s.rpu ∧ t.bru = s.bru ∧ t.slu = s.slu ∧ t.osu = s.osu ∧
        t.mrh = s.mrh ∧ t.sdu.part = s.sdu.part ∧ t.sdu.deferred = s.sdu.deferred ∧
        t.sdu.reason = s.sdu.reason ∧ t.sdu.cause = s.sdu.cause)

/-- A mark that arrives while the computation is RUNNING is not taken (R143): CYCLE_OVERRUN is set, the
counter stands, nothing is evaluated, aged or started; a CYCLE frame still keeps the sequence, the
keep-alive (R147, R149, R151) and the substitute timer, and an expiry, which the command stands for whatever
time is left (the model's choice, log 7), reloads the timer. -/
def Obligations.MarkNotTakenWhileRunning : Prop :=
  ∀ (d : Delivery) (number : Word) (s : State), s.csu.running = true →
    (forwardOnly s = false → d.payload = [number] →
      let follows := ∃ m, s.csu.lastNumber = some m ∧ number.toNat = (m + 1) % 65536
      let alive := follows ∨ s.csu.standbyStart = true
      ∃ t, exec (.cycle d) s = .next t ∧ t.flag .cycleOverrun = true ∧
        t.csu.cycle = s.csu.cycle ∧ t.csu.running = true ∧ t.csu.awaiting = s.csu.awaiting ∧
        t.csu.endReport = s.csu.endReport ∧ t.csu.substitutes = s.csu.substitutes ∧
        t.csu.echoLimit = s.csu.echoLimit ∧ t.csu.lastNumber = some number.toNat ∧
        t.csu.standbyStart = false ∧
        t.csu.substTimer = some (3 * s.tables.param.period) ∧
        (t.flag .cycleSeq = true ↔ s.flag .cycleSeq = true ∨
          (s.csu.lastNumber ≠ none ∧ ¬ follows)) ∧
        (alive → s.sdu.part = .standby ∨ s.sdu.part = .active →
          t.csu.supervision = { counting := true, elapsed := 0 } ∧ t.csu.rearm = s.csu.rearm) ∧
        (alive → s.sdu.part = .fallback →
          t.csu.supervision = s.csu.supervision ∧
          (t.csu.rearm = true ↔ s.csu.rearm = true ∨ s.flag .supExpired = false)) ∧
        (¬ alive ∨ s.sdu.part = .config →
          t.csu.supervision = s.csu.supervision ∧ t.csu.rearm = s.csu.rearm) ∧
        t.sit = s.sit ∧ t.sgc = s.sgc ∧ t.als = s.als ∧ t.opu = s.opu ∧ t.bru = s.bru ∧
        t.slu = s.slu ∧ t.osu = s.osu ∧ t.rpu = s.rpu ∧ t.tables = s.tables ∧ t.mrh = s.mrh ∧
        t.sdu.part = s.sdu.part) ∧
    (s.csu.substTimer ≠ none →
      exec .substituteTimerExpiry s = .next ((s.setCsu { s.csu with
        substTimer := some (2 * s.tables.param.period) }).setFlag .cycleOverrun))

/-- A substitute mark taken (R144): the timer is reloaded with P, the cycle counter and the substitute
counter are raised, CYCLE_SUBST is set; it is no keep-alive and leaves the last number and the
standby-start indicator. The command is the expiry, whatever time the running timer has left (the model's
choice, log 7); while the timer is stopped no expiry happens (log 4). -/
def Obligations.SubstituteMark : Prop :=
  ∀ s : State,
    (s.csu.substTimer = none → exec .substituteTimerExpiry s = .next s) ∧
    (s.csu.substTimer ≠ none → s.csu.running = false →
      ∃ t, exec .substituteTimerExpiry s = .next t ∧ t.flag .cycleSubst = true ∧
        t.csu = { s.csu with
          cycle := (s.csu.cycle + 1) % 65536
          substitutes := if s.csu.substitutes < 65535 then s.csu.substitutes + 1 else 65535
          running := true
          awaiting := Vector.replicate 4 false
          endReport := false
          substTimer := some (2 * s.tables.param.period)
          echoLimit := some s.tables.param.echoTimeout } ∧
        t.opu = { s.opu with updateDue := true } ∧ t.tables = s.tables ∧ t.rpu = s.rpu ∧
        t.bru = s.bru ∧ t.slu = s.slu ∧ t.osu = s.osu ∧ t.mrh = s.mrh ∧
        t.sdu.part = s.sdu.part)

/-- At a taken mark, from a CYCLE frame or from the substitute timer, whatever time that has left (the
model's choice, log 7), every pulse and gap slot is evaluated against the raised counter (R11), and
SAMPLE_STALE is set when a configured one is not FRESH (R12); every outstanding fetch entry grows one cycle
older, and one that reaches 8 is freed with FETCH_TIMEOUT (R74); every outstanding command grows one cycle
older, and one whose age is then E or more (log 30), E being the value in force at this mark (R123), is ended
with ECHO_TIMEOUT, its pending pair and mismatch count kept (R130). -/
def Obligations.MarkEvaluatesAndAges : Prop :=
  ∀ (c : Instr) (s t : State), s.csu.running = false →
    ((c = .substituteTimerExpiry ∧ s.csu.substTimer ≠ none) ∨
      ∃ (d : Delivery) (number : Word), c = .cycle d ∧ d.payload = [number] ∧
        forwardOnly s = false) →
    exec c s = .next t →
    t.csu.cycle = (s.csu.cycle + 1) % 65536 ∧ t.csu.echoLimit = some s.tables.param.echoTimeout ∧
    (∀ n : Fin 8,
      let age (r : Stamped) : Nat := (t.csu.cycle + 65536 - r.arrival) % 65536
      let evaluated (before after : Slot) (maxAge : Option Nat) : Prop :=
        after.latest = before.latest ∧
        (before.latest = none → after.view = none ∧ after.state = .empty) ∧
        (∀ r, before.latest = some r → after.view = some r ∧
          (after.state = .fresh ↔
            before.expired = false ∧ ∃ limit, maxAge = some limit ∧ age r ≤ limit) ∧
          (after.state ≠ .fresh → after.state = .stale ∧ after.expired = true) ∧
          (after.state = .fresh → after.expired = false))
      evaluated s.sit.pulse[n] t.sit.pulse[n] (maxAgeOf s.tables.source (.pulse n)) ∧
      evaluated s.sit.gap[n] t.sit.gap[n] (maxAgeOf s.tables.source (.gap n)) ∧
      (slotConfigured s.tables.source (.pulse n) = true → t.sit.pulse[n].state ≠ .fresh →
        t.flag .sampleStale = true) ∧
      (slotConfigured s.tables.source (.gap n) = true → t.sit.gap[n].state ≠ .fresh →
        t.flag .sampleStale = true)) ∧
    t.sit.previous = s.sit.previous ∧
    ((s.sgc.outstanding.map FetchEntry.segment).Nodup →
      (∀ e, e ∈ t.sgc.outstanding ↔
        ∃ old ∈ s.sgc.outstanding, e = { old with age := old.age + 1 } ∧ old.age + 1 < 8) ∧
      ((∃ e ∈ s.sgc.outstanding, 8 ≤ e.age + 1) → t.flag .fetchTimeout = true)) ∧
    ∀ b : BogieId,
      (s.als[b].outstanding = none → t.als[b] = s.als[b]) ∧
      (∀ o, s.als[b].outstanding = some o → o.age + 1 < s.tables.param.echoTimeout →
        t.als[b] = { s.als[b] with outstanding := some { o with age := o.age + 1 } }) ∧
      (∀ o, s.als[b].outstanding = some o → s.tables.param.echoTimeout ≤ o.age + 1 →
        t.als[b] = { s.als[b] with outstanding := none } ∧ t.flag .echoTimeout = true)

/-! ## The control chain -/

/-- The position update of a taken mark (R19). The distance is the median of the increments (R20) that lie
no farther than an eighth of their median and 2000 µm from it (R21), or the held one (R22); previous counts are
renewed (R23), the history takes the distance and gives the speed and the standstill (R24). With no beacon
waiting the reference point moves by the distance, across the segments and the route queue (R26 to R31), and a
drifted position loses its confirmation (R51). The report places both axles of each enabled bogie, or neither,
by walking back over the trail (R36, R37). The in-use set is then the trail's segments down to the farthest
depth (R66) and those that a walk of the in-use reach enters (R67); each present one that the walk looks up has
its way made most recently used (R70). The prefetch needs are formed of the segments entered before the horizon
is used up (R68; the distances with their signs, and one need a segment, formed at the walk, are the model's
choice, log 15), held in ACTIVE and else made at once (R85), and the steering computation starts with bogie 0
(R84). Without a mark's update due nothing happens (log 4). -/
def Obligations.PositionUpdateRuns : Prop :=
  ∀ s : State,
    (s.opu.updateDue = false → exec .positionUpdate s = .next s) ∧
    (s.opu.updateDue = true →
      let mid (ys : List Int) : Int :=
        if ys.length % 2 = 1 then ys.getD (ys.length / 2) 0
        else (ys.getD (ys.length / 2 - 1) 0 + ys.getD (ys.length / 2) 0) / 2
      let moved : List Int := (List.finRange 8).filterMap fun i =>
        match s.tables.axle[i] with
        | none => none
        | some a =>
          if a.odometry = true ∧ s.sit.pulse[a.slot].state = .fresh then
            match s.sit.pulse[a.slot].view, s.sit.previous[a.slot] with
            | some v, some before =>
              some (((v.value - before + 32768) % 65536 - 32768) * (a.umPerPulse : Int))
            | _, _ => none
          else none
      ∃ t, exec .positionUpdate s = .next t ∧ t.opu.updateDue = false ∧
        t.slu = { s.slu with next := some 0 } ∧
        (∀ sorted kept : List Int, sorted.Perm moved → sorted.Pairwise (· ≤ ·) →
          kept.Perm (moved.filter fun x =>
            decide ((x - mid sorted).natAbs ≤ (mid sorted).natAbs / 8 + 2000)) →
          kept.Pairwise (· ≤ ·) →
          (kept ≠ [] → t.opu.hold = 0 ∧ t.opu.lastDistance = mid kept) ∧
          (kept = [] → t.flag .odoHold = true ∧
            t.opu.hold = (if s.opu.hold < 9 then s.opu.hold + 1 else s.opu.hold) ∧
            t.opu.lastDistance = (if t.opu.hold < 9 then s.opu.lastDistance else 0)) ∧
          (kept.length < moved.length → t.flag .axleExcluded = true)) ∧
        t.opu.history = (t.opu.lastDistance :: s.opu.history).take 8 ∧
        t.opu.report.speed = (if t.opu.history.sum < 0 then 0
          else min 30000 (t.opu.history.sum.toNat / (8 * s.tables.param.period))) ∧
        t.opu.report.standstill = decide (t.opu.report.speed < s.tables.param.standstill) ∧
        t.sit = { s.sit with previous := renewedPrevious s.sit } ∧
        t.opu.report.position = t.opu.position ∧
        t.opu.report.distance = t.opu.lastDistance ∧
        (∀ p, s.opu.position = some p → RouteSound s → (∀ n : Fin 2, s.bru.reader[n] = none) →
          t.opu.hold = 0 ∨ s.opu.hold < 8 →
          let sum : Int := p.offset + t.opu.lastDistance
          let since := s.bru.distance + t.opu.lastDistance.natAbs
          let limit := s.tables.param.drift * 1000000
          let confirmed := p.confirmed && decide (since ≤ limit)
          (sum < 0 → t.opu.position = some { p with offset := 0, confirmed := confirmed } ∧
            t.opu.trail = s.opu.trail ∧ t.opu.route = s.opu.route ∧ t.flag .rollback = true ∧
            t.bru.distance = min since (limit + 1)) ∧
          (0 ≤ sum → ∃ m lost, Advances (heldHeader s)
              { segment := p.segment, offset := sum.toNat, overrun := p.overrun,
                trail := s.opu.trail, route := s.opu.route, mismatch := false } m lost ∧
            t.opu.route = m.route ∧ (m.mismatch = true → t.flag .routeMismatch = true) ∧
            (lost = true ∨ 65535999 < m.offset →
              t.opu.position = none ∧ t.opu.trail = [] ∧ t.flag .positionLost = true ∧
              t.bru.agreement = 0 ∧ t.bru.disagreement = 0 ∧ t.bru.distance = 0) ∧
            (lost = false → m.offset ≤ 65535999 →
              t.opu.position = some { segment := m.segment, offset := m.offset,
                                      overrun := m.overrun, confirmed := confirmed } ∧
              t.opu.trail = m.trail ∧ t.bru.distance = min since (limit + 1)))) ∧
        (let behind (d : Nat) (q : Option RoutePoint) : Prop :=
          (t.opu.position = none → q = none) ∧
          ∀ p, t.opu.position = some p →
            let o := p.offset / 1000
            let newer (n : Nat) : Nat := ((t.opu.trail.take n).map TrailEntry.length).sum
            (d ≤ o → q = some ⟨p.segment, o - d, .current⟩) ∧
            (∀ n e, t.opu.trail[n]? = some e → o + newer n < d → d ≤ o + newer (n + 1) →
              q = some ⟨e.segment, o + newer (n + 1) - d, .trail n⟩) ∧
            (o + newer t.opu.trail.length < d → q = none)
        ∀ b : BogieId, ∃ lead trail,
          behind (s.tables.bogie[b].pivot - s.tables.bogie[b].semi) lead ∧
          behind (s.tables.bogie[b].pivot + s.tables.bogie[b].semi) trail ∧
          (s.tables.bogie[b].enabled = true ∧ lead ≠ none ∧ trail ≠ none →
            t.opu.report.axle[leadOf b] = lead ∧ t.opu.report.axle[trailOf b] = trail) ∧
          (s.tables.bogie[b].enabled = false ∨ lead = none ∨ trail = none →
            t.opu.report.axle[leadOf b] = none ∧ t.opu.report.axle[trailOf b] = none)) ∧
        (∀ (c : ChannelId) (q : RoutePoint) (n : Nat), t.opu.report.axle[c] = some q →
          q.place = .trail n → ∃ deepest, t.opu.report.depth = some deepest ∧ n + 1 ≤ deepest) ∧
        (∀ deepest, t.opu.report.depth = some deepest →
          ∃ (c : ChannelId) (q : RoutePoint) (n : Nat), t.opu.report.axle[c] = some q ∧
            q.place = .trail n ∧ n + 1 = deepest) ∧
        (t.opu.position = none → t.sgc.inUse = [] ∧ ∀ c : ChannelId, t.opu.report.axle[c] = none) ∧
        (∀ p, t.opu.position = some p → p.segment ∈ t.sgc.inUse) ∧
        (t.opu.position = none → t.sgc.held = []) ∧
        (∀ (p : Located) (semi : Nat), t.opu.position = some p → RouteSound s →
          (∀ b : BogieId, s.tables.bogie[b].enabled = true → s.tables.bogie[b].semi ≤ semi) →
          semi = 0 ∨ (∃ b : BogieId, s.tables.bogie[b].enabled = true ∧
            s.tables.bogie[b].semi = semi) →
          let horizon := s.tables.param.horizon
          let before := handleReader (handleReader (driftStage (advanceStage (speedStage
            (odometryStage (s.setOpu { s.opu with updateDue := false }))))) 0) 1
          let setOf (n : Nat) : Fin 64 := Fin.ofNat 64 n
          let holds (w : Fin 2) (n : Nat) : Prop :=
            ∃ l, s.sgc.sets[setOf n].ways[w] = some l ∧ l.tag = n / 64
          ∃ entered,
            Enters t .current p.segment (p.offset / 1000) (max horizon (5000 + 2 * semi)) 0 entered ∧
            (∀ n, n ∈ t.sgc.inUse ↔
              n ∈ (t.opu.trail.take (t.opu.report.depth.getD 0)).map TrailEntry.segment ∨
              n ∈ entered.map Prod.fst) ∧
            (let near := (entered.zipIdx.filter fun e =>
                decide (e.2 = 0 ∨ (horizon ≠ 0 ∧ e.1.2 < (horizon : Int)))).map fun e => e.1.1
              let needs := near.eraseDups.filterMap fun n =>
                match heldHeader s n with
                | none => some ({ segment := n, header := true, blocks := 255 } : Need)
                | some _ =>
                  let missing := eightBits fun k => (heldBlock s n k).isNone
                  if missing = 0 then none
                  else some { segment := n, header := false, blocks := missing }
              (s.sdu.part = .active → t.sgc.held = needs ∧ t.rpu = before.rpu ∧
                t.sgc.outstanding = before.sgc.outstanding) ∧
              (s.sdu.part ≠ .active → t.sgc.held = [] ∧ ∃ v : State, v.rpu = before.rpu ∧
                v.sgc.outstanding = before.sgc.outstanding ∧
                t.rpu = (needs.foldl makeNeed v).rpu ∧
                t.sgc.outstanding = (needs.foldl makeNeed v).sgc.outstanding)) ∧
            ∀ i : Fin 64, t.sgc.sets[i].ways = s.sgc.sets[i].ways ∧
              ((∀ e ∈ entered, setOf e.1 = i → ∀ w, ¬ holds w e.1) →
                t.sgc.sets[i].lru = before.sgc.sets[i].lru) ∧
              ∀ earlier e later w, entered = earlier ++ e :: later → setOf e.1 = i → holds w e.1 →
                (∀ x ∈ later, setOf x.1 = i → ∀ v, ¬ holds v x.1) →
                t.sgc.sets[i].lru = 1 - w) ∧
        t.tables = s.tables ∧ t.als = s.als ∧ t.osu = s.osu ∧ t.csu = s.csu ∧ t.mrh = s.mrh ∧
        t.sdu.part = s.sdu.part ∧ t.sdu.deferred = s.sdu.deferred ∧ t.pending = s.pending)

/-- The ninth uncounted update in a row makes the position LOST (R22, R30), and so does each one after it that
finds a position given again: the trail is emptied, POSITION_LOST set, the counts of the reconciliation become 0
(R52); with no beacon pending it stays LOST through the update. -/
def Obligations.NinthUncountedLosesPosition : Prop :=
  ∀ s t : State, s.opu.updateDue = true → 8 ≤ s.opu.hold → s.opu.position ≠ none →
    countedDistance (increments s) = none →
    (∀ n : Fin 2, s.bru.reader[n] = none) → exec .positionUpdate s = .next t →
    t.opu.position = none ∧ t.opu.trail = [] ∧ t.opu.hold = max 9 s.opu.hold ∧ t.opu.lastDistance = 0 ∧
    t.flag .positionLost = true ∧ t.flag .odoHold = true ∧ t.bru.agreement = 0 ∧
    t.bru.disagreement = 0 ∧ t.bru.distance = 0 ∧ t.opu.route = s.opu.route ∧ t.sgc.inUse = []

/-- Beacon reconciliation (R45 to R51). Stage 4 of a position update is the drift and then each pending reader
slot in turn, on what the advance left; an identifier without a valid entry is UNKNOWN; a known beacon is
derived by a forward walk, or behind its own place (R46), related within the window (R47), and agrees,
disagrees, or in LOST is adopted (R48 to R50). Where R46 and R47 leave a choice the model's stands: the current
segment before a trail entry (log 36), how far the search behind reaches (log 13), and where the search ahead
ends (log 14). -/
def Obligations.BeaconOutcomes : Prop :=
  (∀ s t : State, s.opu.updateDue = true → exec .positionUpdate s = .next t →
    let advanced := advanceStage (speedStage (odometryStage
      (s.setOpu { s.opu with updateDue := false })))
    let handled := handleReader (handleReader (driftStage advanced) 0) 1
    t.bru = handled.bru ∧ t.opu.position = handled.opu.position ∧
      t.opu.trail = handled.opu.trail ∧ t.opu.route = handled.opu.route) ∧
  (∀ s : State, (s.opu.position = none → driftStage s = s) ∧
    ∀ p, s.opu.position = some p →
      let since := s.bru.distance + s.opu.lastDistance.natAbs
      let limit := s.tables.param.drift * 1000000
      driftStage s = (s.setBru { s.bru with distance := min since (limit + 1) }).setOpu { s.opu with
        position := some { p with confirmed := p.confirmed && decide (since ≤ limit) } }) ∧
  (∀ (s : State) (n : Fin 2), (s.bru.reader[n] = none → handleReader s n = s) ∧
    ∀ b, s.bru.reader[n] = some b →
      ((∀ (i : Fin 64) e, s.tables.beacon[i] = some e → e.ident ≠ b.ident) →
        handleReader s n = (s.setFlag .beaconUnknown).setBru { s.bru with
          reader := s.bru.reader.set n.val none
          report := { outcome := .unknown, ident := some b.ident, error := none } }) ∧
      ∀ (i : Fin 64) e, s.tables.beacon[i] = some e → e.ident = b.ident →
        (∀ (j : Fin 64) o, s.tables.beacon[j] = some o → o.ident = b.ident → o = e) →
        let derived := derivedPosition s n e b.latched
        let u := derived.1
        ∃ v : State, handleReader s n =
            v.setBru { v.bru with reader := v.bru.reader.set n.val none } ∧
          (s.opu.position = none →
            (derived.2 = none → v = (u.setFlag .beaconDisagree).setBru { s.bru with
              report := { outcome := .disagreed, ident := some b.ident, error := none } }) ∧
            ∀ d, derived.2 = some d → v = (u.setOpu { s.opu with
                position := some { segment := d.segment, offset := d.offset, overrun := 0,
                                   confirmed := false }
                trail := [] }).setBru { s.bru with
              agreement := 0
              disagreement := 0
              distance := 0
              report := { outcome := .adopted, ident := some b.ident, error := none } }) ∧
          ∀ p, s.opu.position = some p →
            (derived.2 = none → v = disagree u none none b.ident) ∧
            ∀ d, derived.2 = some d → ∀ w r, relate u p d = (w, r) →
              ((∃ e, r.error = some e ∧ e.natAbs ≤ s.tables.param.window * 1000) →
                v = agree w p d r b.ident) ∧
              ((∀ e, r.error = some e → s.tables.param.window * 1000 < e.natAbs) →
                v = disagree w (some d) (r.error.map fun e => roundDiv e 1000) b.ident)) ∧
  (∀ (s : State) (n : Fin 2) (e : BeaconEntry) (latched : Int),
    let axle := s.tables.axle[s.tables.param.readerAxle[n]]
    (axle = none → (derivedPosition s n e latched).2 = none) ∧
    ∀ a, axle = some a →
      (s.sit.pulse[a.slot].latest = none → (derivedPosition s n e latched).2 = none) ∧
      ∀ r, s.sit.pulse[a.slot].latest = some r →
        let total : Int := s.tables.param.readerOffset[n] * 1000 +
          ((r.value - latched + 32768) % 65536 - 32768) * a.umPerPulse
        (total < 0 → 0 ≤ (e.offset : Int) + total / 1000 →
          (derivedPosition s n e latched).2 = some { segment := e.segment
                                                     offset := (e.offset * 1000 + total).toNat }) ∧
        (total < 0 → (e.offset : Int) + total / 1000 < 0 →
          (derivedPosition s n e latched).2 = none) ∧
        (0 ≤ total → RouteSound s →
          let starts (place : Place) : Prop :=
            ∃ stop, Walks s place e.segment e.offset (total / 1000).toNat stop ∧
              (derivedPosition s n e latched).2 = stop.map fun p =>
                { segment := p.segment, offset := p.offset * 1000 + (total % 1000).toNat }
          (s.opu.position = none → starts (.beyond 0)) ∧
          ∀ p, s.opu.position = some p →
            (p.segment = e.segment → starts .current) ∧
            (p.segment ≠ e.segment →
              (∀ k x, s.opu.trail[k]? = some x → x.segment = e.segment →
                (∀ j y, j < k → s.opu.trail[j]? = some y → y.segment ≠ e.segment) →
                starts (.trail k)) ∧
              ((∀ x ∈ s.opu.trail, x.segment ≠ e.segment) → starts (.beyond 0))))) ∧
  (∀ (s : State) (p : Located) (d : Derived), RouteSound s →
    let w := s.tables.param.window
    let o := p.offset / 1000
    let newer (k : Nat) : Nat := ((s.opu.trail.take k).map TrailEntry.length).sum
    let first (k : Nat) : Prop := ∃ x, s.opu.trail[k]? = some x ∧ x.segment = d.segment ∧
      (∀ j y, j < k → s.opu.trail[j]? = some y → y.segment ≠ d.segment) ∧ o + newer k < w
    (d.segment = p.segment → relate s p d = (s, .same ((d.offset : Int) - p.offset))) ∧
    (d.segment ≠ p.segment →
      (∀ k, first k → relate s p d =
        (s, .behind (d.offset - ((p.offset : Int) + newer (k + 1) * 1000)))) ∧
      ((∀ k, ¬ first k) → ∃ met,
        Meets s d.segment .current p.segment o w (-(p.offset : Int)) met ∧
        (met = none → (relate s p d).2 = .notFound) ∧
        ∀ start passed, met = some (start, passed) →
          (relate s p d).2 = .ahead (start + d.offset) passed))) ∧
  (∀ (s : State) (p : Located) (d : Derived) (r : Relation) (ident : Nat),
    s.opu.position = some p → r ≠ .notFound →
    let t := agree s p d r ident
    let confirmed := p.confirmed || decide (1 ≤ s.bru.agreement)
    t.bru = { s.bru with
      agreement := min (s.bru.agreement + 1) 2
      disagreement := 0
      distance := 0
      report := { outcome := .agreed, ident := some ident
                  error := r.error.map fun e => roundDiv e 1000 } } ∧
    (∀ e, r = .same e → t.opu = { s.opu with
      position := some { p with offset := d.offset, confirmed := confirmed } }) ∧
    (∀ e, r = .behind e → t.opu = { s.opu with
      position := some { p with offset := 0, confirmed := confirmed } }) ∧
    (∀ e passed, r = .ahead e passed →
      let m := passed.foldl (fun m sh => Motion.leave m sh.1 sh.2)
        { segment := p.segment, offset := p.offset, overrun := p.overrun, trail := s.opu.trail,
          route := s.opu.route, mismatch := false }
      t.opu = { s.opu with
        position := some { segment := d.segment, offset := d.offset, overrun := 0,
                           confirmed := confirmed }
        trail := m.trail
        route := m.route } ∧
      (m.mismatch = true → t.flag .routeMismatch = true))) ∧
  (∀ (s : State) (ident : Nat) (error : Option Int) (derived : Option Derived),
    let t := disagree s derived error ident
    t.flag .beaconDisagree = true ∧ t.bru.agreement = 0 ∧ t.bru.reader = s.bru.reader ∧
    t.bru.report.ident = some ident ∧ t.bru.report.error = error ∧
    (s.bru.disagreement = 0 → t.opu = s.opu ∧ t.bru.distance = s.bru.distance ∧
      t.bru.disagreement = 1 ∧ t.bru.report.outcome = .disagreed) ∧
    (1 ≤ s.bru.disagreement → derived = none → t.opu = s.opu ∧
      t.bru.distance = s.bru.distance ∧ t.bru.disagreement = 2 ∧
      t.bru.report.outcome = .disagreed) ∧
    (∀ d, 1 ≤ s.bru.disagreement → derived = some d →
      t.opu = { s.opu with
        position := some
          { segment := d.segment, offset := d.offset, overrun := 0, confirmed := false }
        trail := [] } ∧
      t.bru.disagreement = 0 ∧ t.bru.distance = 0 ∧ t.bru.report.outcome = .adopted))

/-- A bogie that is disabled, or determined outside ACTIVE, becomes OFF with targets 0 and empty records
(R84, R87, R99); an enabled one is handed on without targets in STANDBY and FALLBACK, and joins those
awaiting offer (R145). After bogies 0 to 2 the next bogie follows; bogie 3 ends the work, and what its hand-off
or its end closes is LastBogieClosesCycle. Without work nothing happens (log 4). -/
def Obligations.BogieOff : Prop :=
  ∀ (s : State) (b : BogieId), (s.slu.next = none → exec .bogieDetermination s = .next s) ∧
    (s.slu.next = some b → ∀ h : b.val + 1 < 4,
      s.tables.bogie[b].enabled = false ∨ s.sdu.part ≠ .active →
      ∃ t, exec .bogieDetermination s = .next t ∧
        t.slu = { s.slu with
          bogieState := s.slu.bogieState.set b.val .off
          lastTarget := (s.slu.lastTarget.set (leadOf b).val 0).set (trailOf b).val 0
          record := (s.slu.record.set (leadOf b).val ChannelRecord.emptied).set (trailOf b).val
            ChannelRecord.emptied
          next := some ⟨b.val + 1, h⟩ } ∧
        (s.tables.bogie[b].enabled = true → s.sdu.part ≠ .config →
          t.osu.results = s.osu.results ++ [{ bogie := b, state := .off, targets := none }] ∧
          t.csu = { s.csu with awaiting := s.csu.awaiting.set b.val true }) ∧
        (s.tables.bogie[b].enabled = false ∨ s.sdu.part = .config →
          t.osu = s.osu ∧ t.csu = s.csu) ∧
        t.tables = s.tables ∧ t.rpu = s.rpu ∧ t.sit = s.sit ∧ t.opu = s.opu ∧ t.bru = s.bru ∧
        t.sgc = s.sgc ∧ t.als = s.als ∧ t.mrh = s.mrh ∧ t.sdu = s.sdu) ∧
    (s.slu.next = some 3 →
      s.tables.bogie[(3 : Fin 4)].enabled = false ∨ s.sdu.part ≠ .active →
      ∃ t, exec .bogieDetermination s = .next t ∧ t.slu.next = none ∧
        t.slu.bogieState[(3 : Fin 4)] = .off ∧
        (∀ c : ChannelId, c = 6 ∨ c = 7 →
          t.slu.lastTarget[c] = 0 ∧ t.slu.record[c] = ChannelRecord.emptied) ∧
        (s.tables.bogie[(3 : Fin 4)].enabled = true → s.sdu.part ≠ .config →
          t.osu.results = s.osu.results ++ [{ bogie := 3, state := .off, targets := none }] ∧
          t.slu.lastTarget = (s.slu.lastTarget.set 6 0).set 7 0) ∧
        (s.tables.bogie[(3 : Fin 4)].enabled = false ∨ s.sdu.part = .config →
          t.osu.results = s.osu.results))

/-- The state of an enabled bogie determined in ACTIVE, in the order of R87: EXCLUDED, FROZEN, PASSIVE, then
TRACKING or DEGRADED (R95), with its targets and records (R89 to R99). An EXCLUDED bogie keeps its last targets
and is handed on without targets (R84); a FROZEN one keeps them limited (R98); a PASSIVE one has 0. A computed
channel takes its gain at the axle point (R83, R90), its curvature at the look-ahead point (R91, R92), else at
the axle point, else it keeps its last target; from a curvature come the feedforward, scaled while the position
is ESTIMATED (R96), less the lateral correction (R97), limited to ±θ_max with THETA_CLAMP (R98). A channel that
fell back makes the bogie DEGRADED, with DATA_MISSING (R95, R101). A reading at point 31 whose walk stays in the
reading's own segment takes point 31 alone, which R94 leaves open (the model's choice, log 12). Stated on what the
cache holds, for lengths that R34 and R59 let in, with nothing between the reads; what comes between two of them
the later ones see (R102; how it comes there is the model's choice, log 38): a fill after the look-ahead walk has
missed makes the second reading at the axle point succeed (R92). -/
def Obligations.BogieStateInActive : Prop :=
  ∀ (s : State) (b : BogieId), s.slu.next = some b → s.tables.bogie[b].enabled = true →
    s.sdu.part = .active →
    ∃ t, exec .bogieDetermination s = .next t ∧
      (let taken (c : ChannelId) (theta : Int) (record : ChannelRecord) : Prop :=
        let most : Int := s.tables.channel[c].thetaMax
        let acted : Bool := decide (theta < -most ∨ most < theta)
        t.slu.lastTarget[c] = max (-most) (min most theta) ∧
        t.slu.record[c] = { record with limited := acted } ∧
        (acted = true → t.flag .thetaClamp = true)
      let steered (c : ChannelId) (sign : Int) (pt : RoutePoint) (fell : Bool) : Prop :=
        let v := s.opu.report.speed
        let p := s.tables.param
        let band := if v < p.threshold1 then 0 else if v < p.threshold2 then 1
          else if v < p.threshold3 then 2 else 3
        let gainClass := match heldHeader s pt.segment with
          | none => 0
          | some h =>
            if h.length ≤ pt.offset then 0
            else ((heldBlock s pt.segment
              (Fin.ofNat 8 (pt.offset * 8192 / h.length / 1024))).map SubBlock.gainClass).getD 0
        let g := s.tables.gain[Fin.ofNat 16 (4 * band + gainClass)]
        let reach := min (v * g.lookAheadTime / 1000) 5000
        let record (source : CurvatureSource) (curvature correction : Option Int) : ChannelRecord :=
          { source := source, curvature := curvature, band := some band, gainClass := some gainClass,
            lookAhead := some reach, correction := correction, limited := false }
        let angle (source : CurvatureSource) (curvature : Int) : Prop :=
          let radial := sign * roundDiv ((s.tables.bogie[b].semi : Int) * curvature) 100
          let forward :=
            if (s.opu.report.position.map Located.confirmed).getD false = true then radial
            else roundDiv (radial * 3) 4
          let correction : Option Int :=
            if s.sit.gap[c].state = .fresh ∧ g.gain ≠ 0 then
              s.sit.gap[c].view.map fun y => roundDiv ((g.gain : Int) * y.value) 16
            else none
          taken c (forward - correction.getD 0) (record source (some curvature) correction)
        ∃ stop ahead back, Walks s pt.place pt.segment pt.offset reach stop ∧
          (stop = none → ahead = none) ∧ (∀ x, stop = some x → Reading s x ahead) ∧
          Reading s pt back ∧ fell = ahead.isNone ∧
          (∀ k, ahead = some k → angle .lookAhead k) ∧
          (∀ k, ahead = none → back = some k → angle .axle k) ∧
          (ahead = none → back = none → taken c s.slu.lastTarget[c] (record .held none none))
      (bogieExcluded s b = true → t.slu.bogieState[b] = .excluded ∧
        t.slu.lastTarget = s.slu.lastTarget ∧
        t.slu.record[leadOf b] = ChannelRecord.emptied ∧
        t.slu.record[trailOf b] = ChannelRecord.emptied ∧
        t.osu.results = s.osu.results ++ [{ bogie := b, state := .excluded, targets := none }]) ∧
      (bogieExcluded s b = false →
        t.osu.results = s.osu.results ++ [{
          bogie := b, state := t.slu.bogieState[b]
          targets := some (t.slu.lastTarget[leadOf b], t.slu.lastTarget[trailOf b]) }] ∧
        (s.opu.report.standstill = true → t.slu.bogieState[b] = .frozen ∧
          taken (leadOf b) s.slu.lastTarget[leadOf b] ChannelRecord.emptied ∧
          taken (trailOf b) s.slu.lastTarget[trailOf b] ChannelRecord.emptied) ∧
        (s.opu.report.standstill = false →
          (s.opu.report.position = none ∨ s.opu.report.axle[leadOf b] = none ∨
              s.opu.report.axle[trailOf b] = none →
            t.slu.bogieState[b] = .passive ∧ t.slu.lastTarget[leadOf b] = 0 ∧
            t.slu.lastTarget[trailOf b] = 0 ∧
            t.slu.record[leadOf b] = ChannelRecord.emptied ∧
            t.slu.record[trailOf b] = ChannelRecord.emptied) ∧
          (s.opu.report.position ≠ none → RouteSound s →
            ∀ lead trail, s.opu.report.axle[leadOf b] = some lead →
              s.opu.report.axle[trailOf b] = some trail →
              (t.slu.bogieState[b] = .tracking ∨ t.slu.bogieState[b] = .degraded) ∧
              (∀ d k, s.within = [[], [], [.segment d]] → lead.place = .current →
                heldHeader s lead.segment = none →
                Reading (takeArrival s (.segment d)) lead (some k) →
                t.slu.bogieState[b] = .degraded ∧ t.flag .dataMissing = true ∧
                t.slu.record[leadOf b].source = .axle ∧
                t.slu.record[leadOf b].curvature = some k ∧ t.within = []) ∧
              (s.within = [] → ∃ leadFell trailFell : Bool,
                steered (leadOf b) 1 lead leadFell ∧ steered (trailOf b) (-1) trail trailFell ∧
                (leadFell = false → trailFell = false → t.slu.bogieState[b] = .tracking) ∧
                (leadFell = true ∨ trailFell = true →
                  t.slu.bogieState[b] = .degraded ∧ t.flag .dataMissing = true)))) ∧
        t.slu.lastTarget[leadOf b].natAbs ≤ s.tables.channel[leadOf b].thetaMax ∧
        t.slu.lastTarget[trailOf b].natAbs ≤ s.tables.channel[trailOf b].thetaMax)) ∧
      (∀ c : ChannelId, c ≠ leadOf b → c ≠ trailOf b →
        t.slu.lastTarget[c] = s.slu.lastTarget[c] ∧ t.slu.record[c] = s.slu.record[c]) ∧
      (∀ c : BogieId, c ≠ b → t.slu.bogieState[c] = s.slu.bogieState[c]) ∧
      t.csu.awaiting[b] = true ∧ t.tables = s.tables ∧ t.als = s.als ∧
      t.opu = { s.opu with route := t.opu.route } ∧ t.mrh = { s.mrh with prepare := t.mrh.prepare } ∧
      (s.within = [] → t.opu = s.opu ∧ t.mrh = s.mrh ∧ t.within = []) ∧
      t.bru = s.bru ∧ t.sit = s.sit ∧ t.sdu.part = .active

/-- The end of bogie 3's determination, and the close of a cycle (R84, R146). When bogie 3 is handed on, the end
report is in and the computation goes on. With no bogie awaiting offer the cycle closes: at bogie 3's
determination when it is handed on to nobody (disabled, or in CONFIG), and otherwise at the offer of the last
bogie that awaits one, in SHAPING, once the end report is in (R145). A close makes the computation IDLE,
applies a posted request in the part state that stands and empties the slot (R184), and takes a deferred entry
into ACTIVE after it when the check passes, or cancels it with its reason (R170). Stated for a close at which no
parameter write is posted and supervision has not reached its end. A route request that comes between two reads
(R102; the model's choice, log 38) can cancel a prepare (R189) and keep the part alive (R148). -/
def Obligations.LastBogieClosesCycle : Prop :=
  let closes (before t : State) : Prop :=
    t.csu.running = false ∧ t.csu.endReport = false ∧ t.mrh.posted = none ∧ t.sdu.deferred = false ∧
    (before.mrh.posted = none → t.tables = before.tables) ∧
    (∀ p, before.mrh.posted = some p → t.tables = (applyRequest before p.request).tables) ∧
    (before.sdu.deferred = false →
      t.sdu.part = before.sdu.part ∧ t.sdu.reason = before.sdu.reason) ∧
    (before.sdu.deferred = true → inconsistency t = none → t.sdu.part = .active) ∧
    (∀ n, before.sdu.deferred = true → inconsistency t = some n →
      t.sdu.part = before.sdu.part ∧ t.sdu.reason = some n)
  let plain (s : State) : Prop :=
    supervisionReached s = false ∧ ∀ p, s.mrh.posted = some p → ∀ e, p.request ≠ .param e
  (∀ s : State, s.slu.next = some 3 →
    (s.tables.bogie[(3 : Fin 4)].enabled = true → s.sdu.part ≠ .config →
      ∃ t, exec .bogieDetermination s = .next t ∧ t.slu.next = none ∧
        t.csu = { s.csu with
          awaiting := s.csu.awaiting.set 3 true, endReport := true, supervision := t.csu.supervision } ∧
        t.mrh = { s.mrh with prepare := t.mrh.prepare } ∧
        (s.within = [] → t.csu.supervision = s.csu.supervision ∧ t.mrh = s.mrh) ∧
        (∃ r, t.osu.results = s.osu.results ++ [r] ∧ r.bogie = 3) ∧ t.tables = s.tables ∧
        t.als = s.als ∧ t.sdu.part = s.sdu.part ∧ t.sgc.held = []) ∧
    (s.tables.bogie[(3 : Fin 4)].enabled = false ∨ s.sdu.part = .config → s.csu.running = true →
      (∀ b : BogieId, s.csu.awaiting[b] = false) → plain s →
      ∃ t, exec .bogieDetermination s = .next t ∧ t.slu.next = none ∧ t.sgc.held = [] ∧ closes s t)) ∧
  (∀ (s : State) (r : SteeringResult) (rest : List SteeringResult), s.osu.results = r :: rest →
    s.csu.running = true → s.csu.endReport = true →
    (∀ b : BogieId, b ≠ r.bogie → s.csu.awaiting[b] = false) → plain s →
    ∃ t, exec .shaping s = .next t ∧ t.osu.results = rest ∧ t.csu.awaiting[r.bogie] = false ∧
      closes s t)

/-- Shaping (R109, R110, R124, R145): the oldest result is taken, and its bogie no longer awaits offer, which
closes a cycle whose end report is in when it was the last. In CONFIG and for an excluded bogie no target code,
link, queue or issued code changes. In STANDBY and FALLBACK, and in ACTIVE for a result without targets, the
target codes are the fallback codes, the range-limited indicators cleared; in ACTIVE they are 32768 +
round(round(θ / 4) × (G + 1) / 65536) + trim, limited to the code range, the indicator set when a limit acted.
The pair is then held as pending while a command is outstanding under echo comparison, and is built at once
otherwise. A bogie that was disabled meanwhile builds nothing (the model's choice, log 17). Without a result
nothing happens (log 4). -/
def Obligations.ShapingTargets : Prop :=
  ∀ s : State, (s.osu.results = [] → exec .shaping s = .next s) ∧
    ∀ r rest, s.osu.results = r :: rest →
      let b := r.bogie
      let taken := s.setOsu { s.osu with results := rest }
      let counted (u : State) : State :=
        u.setCsu { u.csu with awaiting := u.csu.awaiting.set b.val false }
      ∃ w t, exec .shaping s = .next t ∧ t.csu.awaiting[b] = false ∧
        (s.csu.running = true → s.csu.endReport = true →
          (∀ c : BogieId, c ≠ b → s.csu.awaiting[c] = false) → t = closeCycle (counted w)) ∧
        (s.csu.running = false ∨ s.csu.endReport = false ∨
            (∃ c : BogieId, c ≠ b ∧ s.csu.awaiting[c] = true) → t = counted w) ∧
        (s.sdu.part = .config ∨ bogieExcluded s b = true → w = taken) ∧
        (s.sdu.part ≠ .config → bogieExcluded s b = false →
          let offered (lead trail : Nat × Bool) : Prop :=
            let pair : CodePair := { lead := lead.1, trail := trail.1 }
            let shape (c : ChannelId) (x : Nat × Bool) : OsuChannel :=
              { s.osu.channel[c] with target := some x.1, rangeLimited := x.2 }
            let shaped := taken.setOsu { taken.osu with
              channel := (s.osu.channel.set (leadOf b).val (shape (leadOf b) lead)).set
                (trailOf b).val (shape (trailOf b) trail) }
            let compared := s.tables.bogie[b].echoCompare = true ∧ s.als[b].outstanding ≠ none
            (s.tables.bogie[b].enabled = false → w = shaped) ∧
            (s.tables.bogie[b].enabled = true → compared →
              w = shaped.setAls (s.als.set b.val { s.als[b] with pending := some pair })) ∧
            (s.tables.bogie[b].enabled = true → ¬ compared → w = build shaped b pair)
          let straight (c : ChannelId) : Nat × Bool := (s.tables.channel[c].fallback, false)
          let steered (c : ChannelId) (theta : Int) : Nat × Bool :=
            let e := s.tables.channel[c]
            let code := 32768 + roundDiv (roundDiv theta 4 * (e.gain + 1)) 65536 + e.trim
            (if code < e.codeMin then e.codeMin
              else if (e.codeMax : Int) < code then e.codeMax else code.toNat,
             decide (code < e.codeMin ∨ (e.codeMax : Int) < code))
          (s.sdu.part = .standby ∨ s.sdu.part = .fallback ∨ r.targets = none →
            offered (straight (leadOf b)) (straight (trailOf b))) ∧
          (s.sdu.part = .active → ∀ lead trail, r.targets = some (lead, trail) →
            offered (steered (leadOf b) lead) (steered (trailOf b) trail)))

/-- The codes of a COMMAND frame (R111, R112, R115): with no issued code the target itself; with a step of
0 the target; else the target when it lies within the step of the issued code, and the issued code moved by
the step towards it when it lies farther. The target is
the code handed in, limited to the range, in ACTIVE, and the fallback code in every other state. -/
def Obligations.CodesStepTowardsTarget : Prop :=
  ∀ (s : State) (c : ChannelId) (code : Nat),
    let e := s.tables.channel[c]
    let target := if s.sdu.part = .active then limitNat e.codeMin e.codeMax code else e.fallback
    let step := if s.sdu.part = .active then e.slew else s.tables.param.fallbackStep
    (s.osu.channel[c].issued = none → buildCode s c code = target) ∧
    ∀ i, s.osu.channel[c].issued = some i →
      (step = 0 → buildCode s c code = target) ∧
      (0 < step → ((buildCode s c code : Int) - i.code).natAbs ≤ step ∧
        min i.code target ≤ buildCode s c code ∧ buildCode s c code ≤ max i.code target ∧
        (((target : Int) - i.code).natAbs ≤ step → buildCode s c code = target) ∧
        (i.code + step < target → buildCode s c code = i.code + step) ∧
        (target + step < i.code → buildCode s c code = i.code - step))

/-- A build whose copy checks pass and whose frame the queue takes (R125, R160, R161): the frame carries
the actuator address, the cycle counter mod 1024 as tag, the fallback-mode indicator and the two codes;
it replaces its bogie's waiting frame in place, or joins the back; the link is AWAIT with its tag and
codes under echo comparison, and else IDLE; nothing is pending. When the queue refuses the frame the link
is IDLE, and the pair is pending, with TXQ_FULL. -/
def Obligations.CommandBuilt : Prop :=
  ∀ (s : State) (b : BogieId) (pair : CodePair),
    copyOk s.osu.channel[leadOf b] = true → copyOk s.osu.channel[trailOf b] = true →
    let f : CommandFrame :=
      { bogie := b, destination := BitVec.ofNat 6 s.tables.bogie[b].actuator
        tag := BitVec.ofNat 10 s.csu.cycle, fallback := decide (s.sdu.part = .fallback)
        lead := buildCode s (leadOf b) pair.lead, trail := buildCode s (trailOf b) pair.trail }
    (commandWaits s b = true →
      (build s b pair).rpu = { s.rpu with
        commands := s.rpu.commands.map fun w => if w.bogie = b then f else w }) ∧
    (commandWaits s b = false → queueLength s.rpu < 12 →
      (build s b pair).rpu = { s.rpu with commands := s.rpu.commands ++ [f] }) ∧
    (commandWaits s b = true ∨ queueLength s.rpu < 12 →
      (build s b pair).als[b] = { s.als[b] with
        pending := none
        outstanding :=
          if s.tables.bogie[b].echoCompare then
            some { tag := f.tag, codes := { lead := f.lead, trail := f.trail }, targets := pair,
                   age := 0 }
          else none }) ∧
    (commandWaits s b = false → 12 ≤ queueLength s.rpu →
      (build s b pair).rpu = s.rpu ∧ (build s b pair).flag .txqFull = true ∧
      (build s b pair).als[b] = { s.als[b] with pending := some pair, outstanding := none }) ∧
    (∀ c : BogieId, c ≠ b → (build s b pair).als[c] = s.als[c]) ∧
    (build s b pair).osu = s.osu ∧ (build s b pair).tables = s.tables

/-- A build ended by a failed copy check (R132, R116): no frame is built; the link is IDLE with nothing
outstanding or pending and mismatch count 0; the bogie is excluded with COPY_ERR, its channels' issued
codes are the fallback codes, its waiting frame is withdrawn; a later ANSWER is not compared. -/
def Obligations.CopyFailureEndsBuild : Prop :=
  ∀ (s : State) (b : BogieId) (pair : CodePair),
    copyOk s.osu.channel[leadOf b] = false ∨ copyOk s.osu.channel[trailOf b] = false →
    let t := build s b pair
    t.rpu = { s.rpu with commands := s.rpu.commands.filter fun w => w.bogie ≠ b } ∧
    t.als[b] = { s.als[b] with outstanding := none, pending := none, mismatch := 0 } ∧
    (∀ c : BogieId, c ≠ b → t.als[c] = s.als[c]) ∧
    t.osu.excluded[b] = true ∧ t.flag .copyErr = true ∧
    (∀ c : ChannelId, c = leadOf b ∨ c = trailOf b →
      t.osu.channel[c].issued = some
        { code := s.tables.channel[c].fallback, inverse := 65535 - s.tables.channel[c].fallback }) ∧
    (∀ tag e, compareAnswer t b tag e = t)

/-! ## Actuator links -/

/-- An ANSWER (R127, R128, R133, R134): its bogie is the enabled one whose actuator address is the source, and
from any other source it is discarded. It ends the ignoring of notices and stores positions and status, with the
tracking counts and TRACK_ERR. With the link IDLE or another tag it is not compared. With the outstanding
command's tag and both codes equal it ends the exchange with mismatch count 0, and a pending pair is built at
once, after the tracking comparison (the model's choice, log 39). Of two enabled bogies with one address, which
R121 keeps out, the first is meant. -/
def Obligations.AnswerHandled : Prop :=
  ∀ (source : Addr) (tag : Tag) (e : Echo) (s : State),
    let serves (b : BogieId) : Prop :=
      s.tables.bogie[b].enabled = true ∧ s.tables.bogie[b].actuator = source.toNat
    ((∀ b : BogieId, ¬ serves b) → bogieOf s source = none ∧
      (forwardOnly s = false → exec (.answer source tag e) s = .next s)) ∧
    ∀ b : BogieId, serves b → (∀ c : BogieId, c < b → ¬ serves c) → bogieOf s source = some b ∧
      (forwardOnly s = false →
      let stored (t : State) : Prop :=
        EchoStored s b e t ∧ t.als[b].notices = 0 ∧ t.als[b].ignoring = false ∧
        t.als[b].excluded = s.als[b].excluded ∧ t.als[b].pending = s.als[b].pending ∧
        (∀ c : BogieId, c ≠ b → t.als[c] = s.als[c]) ∧ t.rpu = s.rpu ∧ t.osu = s.osu ∧
        t.tables = s.tables ∧ t.csu = s.csu ∧ t.slu = s.slu ∧ t.sgc = s.sgc ∧ t.mrh = s.mrh ∧
        t.sdu.part = s.sdu.part
      ((∀ o, s.als[b].outstanding = some o → tag ≠ o.tag) →
        ∃ t, exec (.answer source tag e) s = .next t ∧ stored t ∧
          t.als[b].outstanding = s.als[b].outstanding ∧
          t.als[b].mismatch = s.als[b].mismatch) ∧
      (∀ o, s.als[b].outstanding = some o → tag = o.tag →
        e.receivedLead.toNat = o.codes.lead → e.receivedTrail.toNat = o.codes.trail →
        ∃ u, stored u ∧ u.als[b].outstanding = none ∧ u.als[b].mismatch = 0 ∧
          (s.als[b].pending = none → exec (.answer source tag e) s = .next u) ∧
          (∀ pair, s.als[b].pending = some pair →
            exec (.answer source tag e) s = .next (build u b pair))))

/-- The third compared ANSWER in a row that differs (R129): the bogie is excluded for actuator fault with
ECHO_MISMATCH and ACT_FAULT, its exchange ended, its pending pair discarded, its waiting frame withdrawn.
The first and second are ECHO_MISMATCH and a resend: the pending pair, or the command's own targets, are
built, with the cycle counter and the part state as they stand. Each stores positions, status and tracking
counts first (R133, R134; that the tracking comparison precedes the build is the model's choice, log 39). -/
def Obligations.AnswerDiffers : Prop :=
  ∀ (source : Addr) (e : Echo) (s : State) (b : BogieId) (o : Outstanding),
    forwardOnly s = false → bogieOf s source = some b → s.als[b].outstanding = some o →
    ¬ (e.receivedLead.toNat = o.codes.lead ∧ e.receivedTrail.toNat = o.codes.trail) →
    ∃ t, exec (.answer source o.tag e) s = .next t ∧ t.flag .echoMismatch = true ∧
      (2 ≤ s.als[b].mismatch → EchoStored s b e t ∧
        t.flag .actFault = true ∧ t.als[b].excluded = true ∧ t.als[b].outstanding = none ∧
        t.als[b].pending = none ∧ t.als[b].mismatch = 3 ∧ t.osu = s.osu ∧
        t.rpu = { s.rpu with commands := s.rpu.commands.filter fun w => w.bogie ≠ b }) ∧
      (s.als[b].mismatch < 2 → ∃ u, EchoStored s b e u ∧ u.osu = s.osu ∧ u.rpu = s.rpu ∧
        u.tables = s.tables ∧ u.csu = s.csu ∧ u.sdu.part = s.sdu.part ∧ u.slu = s.slu ∧
        u.opu = s.opu ∧ u.sgc = s.sgc ∧ u.mrh = s.mrh ∧ u.sit = s.sit ∧ u.bru = s.bru ∧
        (∀ c : BogieId, c ≠ b → u.als[c] = s.als[c]) ∧ u.als[b].excluded = s.als[b].excluded ∧
        u.als[b].notices = 0 ∧ u.als[b].ignoring = false ∧
        u.als[b].outstanding = s.als[b].outstanding ∧ u.als[b].pending = s.als[b].pending ∧
        u.als[b].mismatch = s.als[b].mismatch + 1 ∧
        t = build u b (s.als[b].pending.getD o.targets))

/-- A NOTICE (R127, R135): from a source that is no enabled bogie's actuator it is discarded; one that is
not ignored is counted, up to the fifth in a row stored with its positions and status, the tracking counts and
TRACK_ERR (R133, R134), and at the sixth NOTICE_SAT is set and the ignoring begins; while notices are ignored
one has no effect. -/
def Obligations.NoticeHandled : Prop :=
  ∀ (source : Addr) (tag : Tag) (e : Echo) (s : State), forwardOnly s = false →
    (bogieOf s source = none → exec (.notice source tag e) s = .next s) ∧
    ∀ b : BogieId, bogieOf s source = some b →
      (s.als[b].ignoring = true → exec (.notice source tag e) s = .next s) ∧
      (s.als[b].ignoring = false → s.als[b].notices = 5 →
        exec (.notice source tag e) s = .next ((s.setAls (s.als.set b.val
          { s.als[b] with notices := 6, ignoring := true })).setFlag .noticeSat)) ∧
      (s.als[b].ignoring = false → s.als[b].notices < 5 →
        ∃ t, exec (.notice source tag e) s = .next t ∧ EchoStored s b e t ∧
          t.als[b].notices = s.als[b].notices + 1 ∧ t.als[b].ignoring = false ∧
          t.als[b].outstanding = s.als[b].outstanding ∧ t.als[b].pending = s.als[b].pending ∧
          t.als[b].mismatch = s.als[b].mismatch ∧ t.als[b].excluded = s.als[b].excluded ∧
          (∀ c : BogieId, c ≠ b → t.als[c] = s.als[c]) ∧ t.rpu = s.rpu ∧ t.osu = s.osu ∧
          t.tables = s.tables ∧ t.csu = s.csu ∧ t.sdu.part = s.sdu.part)

/-! ## Segment Cache -/

/-- A SEGMENT frame that fails a structure check (R58) or a content check (R59) is discarded whole with
RX_REJECT and nothing else; one that passes them has 6 to 22 words, and every frame that fails none is
accepted for placement. -/
def Obligations.SegmentDiscarded : Prop :=
  ∀ (d : Delivery) (s : State), forwardOnly s = false →
    let unfit : Prop :=
      d.payload.length < 6 ∨
      ∃ n length s0 s1 mask gains points,
        d.payload = n :: length :: s0 :: s1 :: mask :: gains :: points ∧
        let carried := ((List.range 8).filter fun k => mask.getLsbD k).length
        (256 ≤ mask.toNat ∨ 4 < carried ∨ d.payload.length ≠ 6 + 4 * carried ∨
         n.toNat = 0 ∨ n.toNat = 65535 ∨ length.toNat < 1000 ∨ 60000 < length.toNat ∨
         s0.toNat = 65535 ∨ s1.toNat = 65535 ∨ (s1.toNat ≠ 0 ∧ s0.toNat = 0))
    (unfit → exec (.segment d) s = .next (s.setFlag .rxReject)) ∧
    (¬ unfit → 6 ≤ d.payload.length ∧ d.payload.length ≤ 22 ∧ segmentFill d.payload ≠ none)

/-- An accepted SEGMENT frame (R57, R60 to R64): the header, and for each sub-block that the mask carries, its
gain class and its four points within ±8000, with VALUE_CLAMP when one was clamped. A present segment is filled
in its way: with an equal header, or none held, the sub-blocks not carried are kept (R61); with a header that
differs they are dropped, with HEADER_CHANGED (R62). An absent one takes a way that is not allocated, way 0
first, else the way that the LRU indicator names, else the other, if not in use; with both ways in use the frame
is discarded with SET_CONFLICT (R63). The other way stands, and the LRU indicator names it. The outstanding
entry wants the header and what was carried no longer, and is freed when it wants nothing (R64). -/
def Obligations.SegmentFilled : Prop :=
  ∀ (d : Delivery) (f : SegmentFill) (s : State), forwardOnly s = false →
    segmentFill d.payload = some f →
    (∀ n length s0 s1 mask gains points,
      d.payload = n :: length :: s0 :: s1 :: mask :: gains :: points →
      f.segment = n.toNat ∧
      f.header = { length := length.toNat, succ0 := s0.toNat, succ1 := s1.toNat } ∧
      (∀ k : Fin 8, f.mask.getLsbD k.val = mask.getLsbD k.val) ∧
      (∀ kb ∈ f.carried, mask.getLsbD kb.1.val = true) ∧
      (f.clamped = true ↔ ∃ w ∈ points, w.toInt < -8000 ∨ 8000 < w.toInt) ∧
      ∀ k : Fin 8, mask.getLsbD k.val = true →
        let before := ((List.range k.val).filter fun j => mask.getLsbD j).length
        ∃ blk : SubBlock, (k, blk) ∈ f.carried ∧
          blk.gainClass = gains.toNat / 4 ^ k.val % 4 ∧
          ∀ j : Fin 4, ∃ w, points[4 * before + j.val]? = some w ∧
            blk.points[j] = max (-8000) (min 8000 w.toInt)) ∧
    ∃ t, exec (.segment d) s = .next t ∧
      (f.clamped = true → t.flag .valueClamp = true) ∧
      t.tables = s.tables ∧ t.rpu = s.rpu ∧ t.opu = s.opu ∧ t.bru = s.bru ∧ t.slu = s.slu ∧
      t.osu = s.osu ∧ t.als = s.als ∧ t.csu = s.csu ∧ t.sgc.inUse = s.sgc.inUse ∧
      t.sgc.held = s.sgc.held ∧
      (let i : Fin 64 := Fin.ofNat 64 f.segment
      let other (w : Fin 2) : Fin 2 := 1 - w
      let holds (w : Fin 2) : Prop :=
        ∃ l, s.sgc.sets[i].ways[w] = some l ∧ l.tag = f.segment / 64
      let used (w : Fin 2) : Prop :=
        ∃ l, s.sgc.sets[i].ways[w] = some l ∧ l.tag * 64 + i.val ∈ s.sgc.inUse
      let placed (w : Fin 2) (kept : Vector (Option SubBlock) 8) : Prop :=
        (∃ c, t.sgc.sets[i].ways[w] = some { tag := f.segment / 64, content := some c } ∧
          contentOf t f.segment = some c ∧ c.header = f.header ∧
          (∀ kb ∈ f.carried, c.blocks[kb.1] = some kb.2) ∧
          ∀ k : Fin 8, (∀ kb ∈ f.carried, kb.1 ≠ k) → c.blocks[k] = kept[k]) ∧
        t.sgc.sets[i].ways[other w] = s.sgc.sets[i].ways[other w] ∧
        t.sgc.sets[i].lru = other w ∧
        (∀ e, e ∈ t.sgc.outstanding ↔
          (e ∈ s.sgc.outstanding ∧ e.segment ≠ f.segment) ∨
          ∃ old ∈ s.sgc.outstanding, old.segment = f.segment ∧ old.blocks &&& ~~~f.mask ≠ 0 ∧
            e = { old with header := false, blocks := old.blocks &&& ~~~f.mask })
      let empty : Vector (Option SubBlock) 8 := Vector.replicate 8 none
      (∀ k : Fin 64, k ≠ i → t.sgc.sets[k] = s.sgc.sets[k]) ∧
      (∀ w l, s.sgc.sets[i].ways[w] = some l → l.tag = f.segment / 64 →
        (∀ v : Fin 2, v < w → ¬ holds v) →
        (l.content = none → placed w empty ∧ t.flag .headerChanged = s.flag .headerChanged) ∧
        (∀ c, l.content = some c → c.header = f.header →
          placed w c.blocks ∧ t.flag .headerChanged = s.flag .headerChanged) ∧
        (∀ c, l.content = some c → c.header ≠ f.header →
          placed w empty ∧ t.flag .headerChanged = true)) ∧
      ((∀ w : Fin 2, ¬ holds w) →
        let now := s.sgc.sets[i]
        t.flag .headerChanged = s.flag .headerChanged ∧
        (now.ways[(0 : Fin 2)] = none → placed 0 empty) ∧
        (now.ways[(0 : Fin 2)] ≠ none → now.ways[(1 : Fin 2)] = none → placed 1 empty) ∧
        (now.ways[(0 : Fin 2)] ≠ none → now.ways[(1 : Fin 2)] ≠ none →
          (¬ used now.lru → placed now.lru empty) ∧
          (used now.lru → ¬ used (other now.lru) → placed (other now.lru) empty) ∧
          (used now.lru → used (other now.lru) →
            t.sgc = s.sgc ∧ t.flag .setConflict = true))))

/-- Lookups and needs. A lookup (R70) makes the way of a present segment most recently used and answers with
the data that stands, or is missing and makes its need: the sub-block's, or, without a header, that of the whole
segment; the Segment Cache's own walk makes none. A lookup of the steering computation first takes what comes
before it, in order, each event as its own command takes it (R65, R102; how those events reach the computation is
the model's choice, log 38). A need (R72, R73) joins its segment's outstanding entry, or makes one while the table
holds fewer than 4, and a FETCH for what is newly wanted joins the queue; when the queue is full the entry is freed
with TXQ_FULL, whether it was just made or had items merged into it; what is already wanted makes no FETCH; a
need that finds 4 other entries is not made. -/
def Obligations.NeedMade : Prop :=
  (∀ (s : State) (n : Nat) (needs : Bool) (k : Fin 8),
    let i : Fin 64 := Fin.ofNat 64 n
    let holds (w : Fin 2) : Prop := ∃ l, s.sgc.sets[i].ways[w] = some l ∧ l.tag = n / 64
    let renewed (w : Fin 2) : State := s.setSgc { s.sgc with
      sets := s.sgc.sets.set i.val { s.sgc.sets[i] with lru := 1 - w } }
    let whole : Need := { segment := n, header := true, blocks := 255 }
    let missed (u : State) : Prop :=
      lookupHeader needs s n = (if needs then makeNeed u whole else u, none) ∧
      lookupBlock s n k = (makeNeed u whole, none)
    ((∀ w, ¬ holds w) → missed s) ∧
    ∀ w l, s.sgc.sets[i].ways[w] = some l → l.tag = n / 64 → (∀ v : Fin 2, v < w → ¬ holds v) →
      (l.content = none → missed (renewed w)) ∧
      ∀ c, l.content = some c → lookupHeader needs s n = (renewed w, some c.header) ∧
        (∀ b, c.blocks[k] = some b → lookupBlock s n k = (renewed w, some b)) ∧
        (c.blocks[k] = none → lookupBlock s n k = (makeNeed (renewed w)
          { segment := n, header := false, blocks := 1 <<< k.val }, none))) ∧
  (∀ (s : State) (n : Nat) (k : Fin 8),
    let u := takeWithin s
    steeringHeader s n = lookupHeader true u n ∧ steeringBlock s n k = lookupBlock u n k ∧
    (s.within = [] → u = s) ∧
    ∀ now later, s.within = now :: later → u = now.foldl takeArrival (s.setWithin later)) ∧
  (∀ (s : State) (d : Delivery) (o : Origin) (count : Byte) (data : List Word),
    exec (.segment d) s = .next (takeArrival s (.segment d)) ∧
    exec (.routeAppend o count data) s = .next (takeArrival s (.routeAppend o count data)) ∧
    exec (.routeClear o data) s = .next (takeArrival s (.routeClear o data))) ∧
  ∀ (s : State) (n : Need),
    (outstandingFor s n.segment = none → s.sgc.outstanding.length < 4 → queueLength s.rpu < 12 →
      makeNeed s n = (s.setSgc { s.sgc with outstanding := s.sgc.outstanding ++
          [{ segment := n.segment, header := n.header, blocks := n.blocks, age := 0 }] }).setRpu
        { s.rpu with others := s.rpu.others ++ [.fetch n] }) ∧
    (outstandingFor s n.segment = none → 4 ≤ s.sgc.outstanding.length → makeNeed s n = s) ∧
    (outstandingFor s n.segment = none → s.sgc.outstanding.length < 4 →
      12 ≤ queueLength s.rpu → makeNeed s n = s.setFlag .txqFull) ∧
    ∀ e, outstandingFor s n.segment = some e →
      let fresh : Need :=
        { segment := n.segment, header := n.header && !e.header, blocks := n.blocks &&& ~~~e.blocks }
      ((n.header = true → e.header = true) → fresh.blocks = 0 → makeNeed s n = s) ∧
      (fresh.header = true ∨ fresh.blocks ≠ 0 → queueLength s.rpu < 12 →
        makeNeed s n = (s.setSgc { s.sgc with
          outstanding := s.sgc.outstanding.map fun x =>
            if x.segment = n.segment then
              { x with header := x.header || n.header, blocks := x.blocks ||| n.blocks }
            else x }).setRpu { s.rpu with others := s.rpu.others ++ [.fetch fresh] }) ∧
      (fresh.header = true ∨ fresh.blocks ≠ 0 → 12 ≤ queueLength s.rpu →
        makeNeed s n = (s.setSgc { s.sgc with
          outstanding := s.sgc.outstanding.filter fun x => x.segment ≠ n.segment }).setFlag .txqFull)

/-! ## Part states -/

/-- What each entry does (R171, R86, R114, R137, R149, R151). -/
def Obligations.EntriesAct : Prop :=
  ∀ s : State,
    ((enterConfig s).sdu.part = .config ∧ (enterConfig s).sdu.deferred = false ∧
      (enterConfig s).csu.supervision = { counting := false, elapsed := 0 } ∧
      (enterConfig s).csu.rearm = false ∧ (enterConfig s).rpu.commands = [] ∧
      (enterConfig s).osu = s.osu ∧
      (∀ b : BogieId, (enterConfig s).als[b] =
        { s.als[b] with outstanding := none, pending := none, mismatch := 0 }) ∧
      (s.sdu.part = .active → (∀ b : BogieId, (enterConfig s).slu.bogieState[b] = .off) ∧
        ∀ c : ChannelId, (enterConfig s).slu.lastTarget[c] = 0) ∧
      (s.sdu.part ≠ .active → (enterConfig s).slu = s.slu)) ∧
    ((enterStandby s).sdu.part = .standby ∧ (enterStandby s).sdu.deferred = false ∧
      (enterStandby s).csu.supervision = { counting := true, elapsed := 0 } ∧
      (enterStandby s).csu.rearm = false ∧ (enterStandby s).csu.standbyStart = true ∧
      (enterStandby s).rpu.commands = [] ∧
      (∀ c : ChannelId, (enterStandby s).osu.channel[c] =
        { s.osu.channel[c] with issued := none }) ∧
      (∀ b : BogieId, (enterStandby s).als[b] =
        { s.als[b] with outstanding := none, pending := none, mismatch := 0 }) ∧
      (s.sdu.part = .active → (∀ b : BogieId, (enterStandby s).slu.bogieState[b] = .off) ∧
        ∀ c : ChannelId, (enterStandby s).slu.lastTarget[c] = 0)) ∧
    enterActive s = s.setSdu { s.sdu with part := .active, deferred := false }

/-- SUPERVISION_EXPIRY (R150): with the timer counting in STANDBY or ACTIVE the part enters FALLBACK, with
SUP_EXPIRED set, the timer stopped at the value reached, the re-arm indicator and a deferred entry
cleared, every waiting COMMAND withdrawn with its exchange ended, the other links and the issued codes
kept; in CONFIG and FALLBACK no expiry happens (R171). The command stands for the moment of the expiry: it acts
on any timer that counts, and the value reached is the effective timeout when less had been counted (the
model's choice, log 7). -/
def Obligations.SupervisionExpires : Prop :=
  ∀ s : State, (supervised s = false → exec .supervisionExpiry s = .next s) ∧
    (supervised s = true →
      ∃ t, exec .supervisionExpiry s = .next t ∧ t.sdu.part = .fallback ∧
        t.flag .supExpired = true ∧ t.sdu.deferred = false ∧ t.csu.rearm = false ∧
        t.csu.supervision.counting = false ∧
        t.csu.supervision.elapsed = max s.csu.supervision.elapsed
          (2 * max s.tables.param.timeout (2 * s.tables.param.period)) ∧
        t.rpu.commands = [] ∧ t.osu = s.osu ∧
        (∀ b : BogieId, t.als[b] = if commandWaits s b then
          { s.als[b] with outstanding := none } else s.als[b]) ∧
        (s.sdu.part = .active → (∀ b : BogieId, t.slu.bogieState[b] = .off) ∧
          ∀ c : ChannelId, t.slu.lastTarget[c] = 0) ∧
        t.csu.cycle = s.csu.cycle ∧ t.csu.running = s.csu.running ∧
        t.csu.awaiting = s.csu.awaiting ∧ t.csu.endReport = s.csu.endReport ∧
        t.csu.echoLimit = s.csu.echoLimit ∧ t.tables = s.tables ∧ t.sit = s.sit ∧ t.opu = s.opu ∧
        t.bru = s.bru ∧ t.mrh = s.mrh)

/-- STATE_SET by the table of R168, addressed or broadcast: the state answered, the deferred entry of
R170, the consistency check of R169, the re-arm test before it in FALLBACK, and the reason recorded and
answered with REFUSED_STATE. A refused STATE_SET(ACTIVE) cancels a held deferred entry (R182), one refused with
REFUSED_RANGE for data that it does not take among them (the model's reading beside R170, log 40). -/
def Obligations.StateSetTable : Prop :=
  ∀ (o : Origin) (s : State), accepts s o 4 = true →
    let u := cancelPrepare s
    let refused (v : State) (reason : Nat) : State :=
      finish (v.setSdu { v.sdu with reason := some reason }) o 4
        { result := .refusedState, reason := reason, data := [], confirms := none }
    (s.sdu.part = .config → exec (.stateSetConfig o []) s = .next (finish u o 4 (.plain .done))) ∧
    (s.sdu.part ≠ .config →
      exec (.stateSetConfig o []) s = .next (finish (enterConfig u) o 4 (.plain .done))) ∧
    (s.sdu.part = .config ∨ (s.sdu.part = .fallback ∧ s.csu.rearm = true) →
      (inconsistency s = none →
        exec (.stateSetStandby o []) s = .next (finish (enterStandby u) o 4 (.plain .done))) ∧
      (∀ n, inconsistency s = some n →
        exec (.stateSetStandby o []) s = .next (refused u n))) ∧
    (s.sdu.part = .standby → exec (.stateSetStandby o []) s =
      .next (finish (u.setSdu { u.sdu with deferred := false }) o 4 (.plain .done))) ∧
    (s.sdu.part = .active →
      exec (.stateSetStandby o []) s = .next (finish (enterStandby u) o 4 (.plain .done))) ∧
    (s.sdu.part = .fallback → s.csu.rearm = false →
      exec (.stateSetStandby o []) s = .next (refused u 5)) ∧
    (s.sdu.part = .config ∨ s.sdu.part = .fallback →
      exec (.stateSetActive o []) s = .next (refused (u.setSdu { u.sdu with deferred := false }) 0)) ∧
    (∀ data : List Word, data ≠ [] → exec (.stateSetActive o data) s =
      .next (finish (u.setSdu { u.sdu with deferred := false }) o 4 (.plain .refusedRange))) ∧
    (s.sdu.part = .standby →
      (inconsistency s = none → exec (.stateSetActive o []) s =
        .next (finish (u.setSdu { u.sdu with deferred := true }) o 4 (.plain .posted))) ∧
      (∀ n, inconsistency s = some n → exec (.stateSetActive o []) s =
        .next (refused (u.setSdu { u.sdu with deferred := false }) n))) ∧
    (s.sdu.part = .active →
      exec (.stateSetActive o []) s = .next (finish u o 4 (.plain .done)))

/-- The consistency check (R169): the reason is that of the first condition that fails. -/
def Obligations.ConsistencyReasons : Prop :=
  ∀ s : State,
    let someEnabled := ∃ b : BogieId, s.tables.bogie[b].enabled = true
    let addressesOk := ∀ b : BogieId, s.tables.bogie[b].enabled = true →
      1 ≤ s.tables.bogie[b].actuator ∧ s.tables.bogie[b].actuator ≤ 62 ∧
      s.tables.bogie[b].actuator ≠ s.rpu.own.toNat
    let someOdometry := ∃ (i : Fin 8) (a : AxleEntry), s.tables.axle[i] = some a ∧
      a.odometry = true
    (¬ someEnabled → inconsistency s = some 1) ∧
    (someEnabled → ¬ addressesOk → inconsistency s = some 2) ∧
    (someEnabled → addressesOk → ¬ someOdometry → inconsistency s = some 4) ∧
    (someEnabled → addressesOk → someOdometry → inconsistency s = none)

/-! ## Requests -/

/-- A request that is not accepted changes nothing (R180): one taken while a confirmed reset is set, or a
broadcast of another function than STATE_SET. A repeater is given no frame and no request: the commands
that deliver one change nothing there (R165, R80). -/
def Obligations.UnacceptedRequestIgnored : Prop :=
  (∀ (c : Instr) (o : Origin) (function : Nat) (s : State), requestOf c = some (o, function) →
    c.wf = true →
    s.mrh.confirmed = true ∨ (o.broadcast = true ∧ function ≠ 4) → exec c s = .next s) ∧
  (∀ (c : Instr) (s : State), delivered c = true → forwardOnly s = true → exec c s = .next s)

/-- What follows the handling of a request (R181, R148, R178): a REPLY with the echo word, the summary word
as it then stands and the data, to the sender with its tag, or TXQ_FULL when the queue is full, and none
for a broadcast; then, with keep-alive by management, a keep-alive. -/
def Obligations.RequestFinished : Prop :=
  ∀ (u : State) (o : Origin) (function : Nat) (r : Reply), r.confirms = none →
    let echo := bitsAt 12 4 function ||| bitsAt 8 3 r.reason ||| bitsAt 0 4 r.result.code
    let summary := bitsAt 14 2 u.sdu.part.code ||| bitsAt 12 2 (positionCode u.opu.position) |||
      bitAt 11 (decide (u.sdu.flags ≠ 0)) |||
      bitsAt 0 4 (bogieMask fun b => decide (u.slu.bogieState[b] ≠ .tracking))
    let replied : State :=
      if o.broadcast then u
      else if queueLength u.rpu < 12 then u.setRpu { u.rpu with
        others := u.rpu.others ++ [.reply
          { destination := o.source, tag := o.tag, payload := echo :: summary :: r.data,
            confirms := false }] }
      else u.setFlag .txqFull
    (u.tables.param.keepAlive = false → finish u o function r = replied) ∧
    (u.tables.param.keepAlive = true →
      (u.sdu.part = .config → finish u o function r = replied) ∧
      (u.sdu.part = .standby ∨ u.sdu.part = .active →
        finish u o function r = replied.setCsu
          { u.csu with supervision := { counting := true, elapsed := 0 } }) ∧
      (u.sdu.part = .fallback → u.flag .supExpired = true → finish u o function r = replied) ∧
      (u.sdu.part = .fallback → u.flag .supExpired = false →
        finish u o function r = replied.setCsu { u.csu with rearm := true }))

/-- The read requests (R188, R78): each is answered with its page, entry, part or way as it stands, word by
word as Tables 12.4 to 12.7 lay it out, or REFUSED_RANGE when that is out of range; a read changes nothing but
the prepare it cancels. A way that is not allocated reads as zeros (the model's choice, log 34). -/
def Obligations.ReadsAnswered : Prop :=
  ∀ (o : Origin) (s : State), Addressed s o →
    let u := cancelPrepare s
    let done (data : List Word) : Reply := { result := .done, reason := 0, data := data, confirms := none }
    let refused : Reply := .plain .refusedRange
    (∀ page, exec (.statusRead o page []) s = .next (finish u o 1
      (if page.toNat = 0 then done (statusLayout0 u)
       else if page.toNat = 1 then done (statusLayout1 u) else refused))) ∧
    (∀ table index, exec (.tableRead o table index []) s = .next (finish u o 3
      (match tableLayout s.tables table.toNat index.toNat with
       | some entry => done entry
       | none => refused))) ∧
    (∀ part bogie,
      (∀ b : BogieId, bogie.toNat = b.val →
        exec (.channelRead o part bogie []) s = .next (finish u o 11
          (if part.toNat = 0 then done (bogieLayout s b)
           else if part.toNat = 1 then done (channelLayout s (leadOf b) s.als[b].trackLead)
           else if part.toNat = 2 then done (channelLayout s (trailOf b) s.als[b].trackTrail)
           else refused))) ∧
      (4 ≤ bogie.toNat → exec (.channelRead o part bogie []) s = .next (finish u o 11 refused))) ∧
    (∀ set way part,
      (∀ (i : Fin 64) (w p : Fin 2), set.toNat = i.val → way.toNat = w.val → part.toNat = p.val →
        exec (.cacheRead o [set, way, part]) s = .next (finish u o 10
          (done (cacheLayout s i w p)))) ∧
      (64 ≤ set.toNat ∨ 2 ≤ way.toNat ∨ 2 ≤ part.toNat →
        exec (.cacheRead o [set, way, part]) s = .next (finish u o 10 refused)))

/-- The entries as TABLE_READ gives them, written back by TABLE_WRITE, are the entries read (Table 12.4),
for every entry whose fields are in range. -/
def Obligations.EntriesReadAsWritten : Prop :=
  (∀ e : SourceEntry, e.node < 64 → e.item < 16 → e.maxAge < 16 →
    ∃ w0 w1, sourceWords (some e) = [w0, w1] ∧
      (SourceFields.ofWords w0 w1).valid = true ∧ (SourceFields.ofWords w0 w1).node = e.node ∧
      (SourceFields.ofWords w0 w1).item = e.item ∧
      (SourceFields.ofWords w0 w1).target = some e.target ∧
      (SourceFields.ofWords w0 w1).maxAge = e.maxAge) ∧
  (∀ e : AxleEntry, e.umPerPulse < 65536 →
    ∃ w0 w1, axleWords (some e) = [w0, w1] ∧ w0.toNat = e.umPerPulse ∧
      field w1 0 4 = e.slot.val ∧ w1.getLsbD 15 = e.odometry) ∧
  (∀ e : BogieEntry, e.actuator < 64 → e.pivot < 65536 → e.semi < 65536 →
    ∃ w0 w1 w2, bogieWords e = [w0, w1, w2] ∧ BogieEntry.ofWords w0 w1 w2 = e) ∧
  (∀ e : ChannelEntry, e.InRange → ChannelEntry.ofWords (channelWords e) = some e) ∧
  (∀ e : GainEntry, e.lookAheadTime < 65536 → e.gain < 65536 →
    ∃ w0 w1, gainWords e = [w0, w1] ∧ w0.toNat = e.lookAheadTime ∧ w1.toNat = e.gain) ∧
  (∀ e : BeaconEntry, e.ident < 4096 → e.segment < 65536 → e.offset < 65536 →
    ∃ w0 w1 w2, beaconWords (some e) = [w0, w1, w2] ∧
      BeaconFields.ofWords w0 w1 w2 = { valid := true, entry := e }) ∧
  (∀ p : ParamEntry, p.InRange → (ParamFields.ofWords (paramWords p)).map paramEntry = some p)

/-- A table write that its owner's checks accept is applied at once in CONFIG, and otherwise posted when
the slot is empty, or NOT_READY; a refused one has no effect (R182, R183, R186). A limited write sets
VALUE_CLAMP when it is applied or posted, and not when it is answered NOT_READY (the model's reading, log 23).
Applied, at once or from the posted slot, a write replaces its entry, with the checks against other entries made
again (R185, R121): an entry that fails is stored not valid, unused or disabled, with VALUE_CLAMP. A Source
Table write empties the slots it affects (R4); a bogie write that changes a link field restarts the link and
withdraws its frame (R122); a channel write outside CONFIG keeps the entry's code range (R107). -/
def Obligations.TableWritesAnswered : Prop :=
  (∀ (o : Origin) (index : Byte) (s : State), Addressed s o →
    let u := cancelPrepare s
    let i := index.toNat
    let answered (v : Verdict) : State :=
      match v with
      | .refusedState => finish u o 2 (.plain .refusedState)
      | .refusedRange => finish u o 2 (.plain .refusedRange)
      | .accepted r limited =>
        let w := if limited then u.setFlag .valueClamp else u
        if s.sdu.part = .config then
          finish (applyRequest w r) o 2
            { result := if limited then .clamped else .done, reason := 0, data := [0],
              confirms := none }
        else if s.mrh.posted = none then
          finish (w.setMrh { w.mrh with posted := some { request := r, sender := o.source } }) o 2
            { result := if limited then .clamped else .posted, reason := 0, data := [1],
              confirms := none }
        else finish u o 2 (.plain .notReady)
    (∀ w0 w1, exec (.tableWriteSource o index [w0, w1]) s =
      .next (answered (checkSource s i (SourceFields.ofWords w0 w1)))) ∧
    (∀ w0 w1, exec (.tableWriteAxle o index [w0, w1]) s =
      .next (answered (checkAxle s i w0.toNat (field w1 0 4) (w1.getLsbD 15)))) ∧
    (∀ w0 w1 w2, exec (.tableWriteBogie o index [w0, w1, w2]) s =
      .next (answered (checkBogie s i (BogieEntry.ofWords w0 w1 w2)))) ∧
    (∀ entry e, ChannelEntry.ofWords entry = some e →
      exec (.tableWriteChannel o index entry) s = .next (answered (checkChannel s i e))) ∧
    (∀ w0 w1, exec (.tableWriteGainSchedule o index [w0, w1]) s =
      .next (answered (checkGain i { lookAheadTime := w0.toNat, gain := w1.toNat }))) ∧
    (∀ w0 w1 w2, exec (.tableWriteBeacon o index [w0, w1, w2]) s =
      .next (answered (checkBeacon s i (BeaconFields.ofWords w0 w1 w2)))) ∧
    (∀ entry f, ParamFields.ofWords entry = some f →
      exec (.tableWriteParameter o index entry) s = .next (answered (checkParam i f)))) ∧
  ∀ s : State,
    (∀ (i : Fin 24) (new : Option SourceEntry),
      let t := applyRequest s (.source i new)
      let old := s.tables.source[i]
      let clashes : Prop := ∃ e, new = some e ∧ ∃ (j : Fin 24) (x : SourceEntry), j ≠ i ∧
        s.tables.source[j] = some x ∧ ((x.node = e.node ∧ x.item = e.item) ∨ x.target = e.target)
      let keeps (after : Option SourceEntry) : Prop := ∃ a c, old = some a ∧ after = some c ∧
        a.node = c.node ∧ a.item = c.item ∧ a.target = c.target
      let affects (after : Option SourceEntry) (n : SlotTarget) : Prop := ¬ keeps after ∧
        ((∃ a, old = some a ∧ a.target = n) ∨ ∃ c, after = some c ∧ c.target = n)
      ∃ after, (clashes → after = none ∧ t.flag .valueClamp = true) ∧ (¬ clashes → after = new) ∧
        t.tables = { s.tables with source := s.tables.source.set i.val after } ∧
        (∀ n : Fin 8,
          (affects after (.pulse n) →
            t.sit.pulse[n] = Slot.emptied ∧ t.sit.previous[n] = none) ∧
          (¬ affects after (.pulse n) →
            t.sit.pulse[n] = s.sit.pulse[n] ∧ t.sit.previous[n] = s.sit.previous[n]) ∧
          (affects after (.gap n) → t.sit.gap[n] = Slot.emptied) ∧
          (¬ affects after (.gap n) → t.sit.gap[n] = s.sit.gap[n])) ∧
        t.bru = s.bru ∧ t.opu = s.opu ∧ t.rpu = s.rpu ∧ t.als = s.als ∧ t.mrh = s.mrh) ∧
    (∀ (i : Fin 8) (new : Option AxleEntry),
      let clashes : Prop := ∃ e, new = some e ∧ ∃ (j : Fin 8) (x : AxleEntry), j ≠ i ∧
        s.tables.axle[j] = some x ∧ x.slot = e.slot
      (¬ clashes → applyRequest s (.axle i new) =
        s.setTables { s.tables with axle := s.tables.axle.set i.val new }) ∧
      (clashes → applyRequest s (.axle i new) =
        (s.setTables { s.tables with axle := s.tables.axle.set i.val none }).setFlag .valueClamp)) ∧
    (∀ (i : Fin 64) (new : Option BeaconEntry),
      let clashes : Prop := ∃ e, new = some e ∧ ∃ (j : Fin 64) (x : BeaconEntry), j ≠ i ∧
        s.tables.beacon[j] = some x ∧ x.ident = e.ident
      (¬ clashes → applyRequest s (.beacon i new) =
        s.setTables { s.tables with beacon := s.tables.beacon.set i.val new }) ∧
      (clashes → applyRequest s (.beacon i new) =
        (s.setTables { s.tables with beacon := s.tables.beacon.set i.val none }).setFlag
          .valueClamp)) ∧
    (∀ (i : Fin 4) (new : BogieEntry),
      let t := applyRequest s (.bogie i new)
      let old := s.tables.bogie[i]
      let clashes : Prop := new.enabled = true ∧ ∃ j : Fin 4, j ≠ i ∧
        s.tables.bogie[j].enabled = true ∧ s.tables.bogie[j].actuator = new.actuator
      ∃ after : BogieEntry,
        (clashes → after = { new with enabled := false } ∧ t.flag .valueClamp = true) ∧
        (¬ clashes → after = new) ∧
        t.tables = { s.tables with bogie := s.tables.bogie.set i.val after } ∧
        (old.enabled ≠ after.enabled ∨ old.actuator ≠ after.actuator ∨
            old.echoCompare ≠ after.echoCompare →
          t.als[i] = { Link.initial with excluded := s.als[i].excluded } ∧
          t.rpu = { s.rpu with commands := s.rpu.commands.filter fun w => w.bogie ≠ i }) ∧
        (old.enabled = after.enabled → old.actuator = after.actuator →
            old.echoCompare = after.echoCompare → t.als = s.als ∧ t.rpu = s.rpu) ∧
        (∀ b : BogieId, b ≠ i → t.als[b] = s.als[b]) ∧ t.osu = s.osu ∧ t.slu = s.slu ∧
        t.opu = s.opu ∧ t.mrh = s.mrh) ∧
    (∀ (i : Fin 8) (new : ChannelEntry),
      let t := applyRequest s (.channel i new)
      let old := s.tables.channel[i]
      let into : Nat := if new.fallback < old.codeMin then old.codeMin
        else if old.codeMax < new.fallback then old.codeMax else new.fallback
      (s.sdu.part = .config ∨ (old.codeMin = new.codeMin ∧ old.codeMax = new.codeMax) →
        t = s.setTables { s.tables with channel := s.tables.channel.set i.val new }) ∧
      (s.sdu.part ≠ .config → ¬ (old.codeMin = new.codeMin ∧ old.codeMax = new.codeMax) →
        let kept : ChannelEntry :=
          { new with codeMin := old.codeMin, codeMax := old.codeMax, fallback := into }
        let stored := s.setTables { s.tables with channel := s.tables.channel.set i.val kept }
        (into = new.fallback → t = stored) ∧
        (into ≠ new.fallback → t = stored.setFlag .valueClamp))) ∧
    (∀ (i : Fin 16) (e : GainEntry), applyRequest s (.gain i e) =
      s.setTables { s.tables with gain := s.tables.gain.set i.val e }) ∧
    (∀ e : ParamEntry, applyRequest s (.param e) = s.setTables { s.tables with param := e })

/-- The checks of the tables' owners, with what each refuses, limits and accepts: the lock in ACTIVE first for
the Source, axle and bogie tables (R3, R16, R121 with the geometry of R17); the code range of a channel locked
outside CONFIG, and its other fields limited to the ranges of Table 6.1 (R105, R106); a gain entry limited to
500 ms and 4095 (R82); a beacon's identifier, segment and offset (R42); of the parameter table the reader
fields and the thresholds refused, and every other field limited (R187, R18, R43, R69, R83, R108, R123, R140).
The written fields are as wide as Table 12.4 makes them. -/
def Obligations.TableChecks : Prop :=
  ∀ s : State,
    (s.sdu.part = .active → ∀ i f um slot odometry e,
      checkSource s i f = .refusedState ∧ checkAxle s i um slot odometry = .refusedState ∧
      checkBogie s i e = .refusedState) ∧
    (s.sdu.part ≠ .active → ∀ f : SourceFields, f.slot < 8 → f.maxAge < 16 →
      (∀ i, 24 ≤ i → checkSource s i f = .refusedRange) ∧
      ∀ i : Fin 24,
        let sends (n : SlotTarget) : Prop :=
          (f.kind = 1 ∧ n = .pulse (Fin.ofNat 8 f.slot)) ∨
          (f.kind = 2 ∧ n = .gap (Fin.ofNat 8 f.slot)) ∨
          (f.kind = 3 ∧ f.slot ≤ 1 ∧ n = .beacon (Fin.ofNat 2 f.slot))
        let fits (n : SlotTarget) : Prop := sends n ∧ 1 ≤ f.node ∧ f.node ≤ 62 ∧
          f.node ≠ s.rpu.own.toNat ∧ (1 ≤ f.maxAge ∨ f.kind = 3) ∧
          ∀ (j : Fin 24) x, j ≠ i → s.tables.source[j] = some x →
            (x.node ≠ f.node ∨ x.item ≠ f.item) ∧ x.target ≠ n
        (f.valid = false → checkSource s i.val f = .accepted (.source i none) false) ∧
        (∀ n, f.valid = true → fits n → checkSource s i.val f = .accepted (.source i (some
          { node := f.node, item := f.item, target := n, maxAge := f.maxAge })) false) ∧
        (f.valid = true → (∀ n, ¬ fits n) → checkSource s i.val f = .refusedRange)) ∧
    (s.sdu.part ≠ .active → ∀ (um slot : Nat) (odometry : Bool),
      (∀ i, 8 ≤ i → checkAxle s i um slot odometry = .refusedRange) ∧
      ∀ i : Fin 8,
        let fits (n : Fin 8) : Prop := 5000 ≤ um ∧ um ≤ 40000 ∧ slot = n.val ∧
          ∀ (j : Fin 8) x, j ≠ i → s.tables.axle[j] = some x → x.slot ≠ n
        (um = 0 → checkAxle s i.val um slot odometry = .accepted (.axle i none) false) ∧
        (∀ n, fits n → checkAxle s i.val um slot odometry =
          .accepted (.axle i (some { umPerPulse := um, slot := n, odometry := odometry })) false) ∧
        (um ≠ 0 → (∀ n, ¬ fits n) → checkAxle s i.val um slot odometry = .refusedRange)) ∧
    (s.sdu.part ≠ .active → ∀ e : BogieEntry,
      (∀ i, 4 ≤ i → checkBogie s i e = .refusedRange) ∧
      ∀ i : Fin 4,
        let fits : Prop := 1 ≤ e.actuator ∧ e.actuator ≤ 62 ∧ e.actuator ≠ s.rpu.own.toNat ∧
          (∀ j : Fin 4, j ≠ i → s.tables.bogie[j].enabled = true →
            s.tables.bogie[j].actuator ≠ e.actuator) ∧
          400 ≤ e.semi ∧ e.semi ≤ 1500 ∧ e.pivot ≤ 40000 ∧ e.semi ≤ e.pivot ∧
          e.pivot + e.semi ≤ 40000
        (e.enabled = false ∨ fits → checkBogie s i.val e = .accepted (.bogie i e) false) ∧
        (e.enabled = true → ¬ fits → checkBogie s i.val e = .refusedRange)) ∧
    (∀ e : ChannelEntry, (∀ i, 8 ≤ i → checkChannel s i e = .refusedRange) ∧
      ∀ i : Fin 8,
        let moves : Prop := s.sdu.part ≠ .config ∧
          (e.codeMin ≠ s.tables.channel[i].codeMin ∨ e.codeMax ≠ s.tables.channel[i].codeMax)
        (e.trim < -2048 ∨ 2047 < e.trim ∨ e.codeMax ≤ e.codeMin →
          checkChannel s i.val e = .refusedRange) ∧
        (-2048 ≤ e.trim → e.trim ≤ 2047 → e.codeMin < e.codeMax →
          (moves → checkChannel s i.val e = .refusedState) ∧
          (¬ moves → checkChannel s i.val e = .accepted
            (.channel i { e with
              thetaMax := min e.thetaMax 100000
              slew := min e.slew 4095
              trackCount := max 1 (min e.trackCount 15)
              fallback := max e.codeMin (min e.fallback e.codeMax) })
            (decide (100000 < e.thetaMax ∨ 4095 < e.slew ∨ e.trackCount < 1 ∨ 15 < e.trackCount ∨
              e.fallback < e.codeMin ∨ e.codeMax < e.fallback))))) ∧
    (∀ e : GainEntry, (∀ i, 16 ≤ i → checkGain i e = .refusedRange) ∧
      ∀ i : Fin 16, checkGain i.val e = .accepted
        (.gain i { lookAheadTime := min e.lookAheadTime 500, gain := min e.gain 4095 })
        (decide (500 < e.lookAheadTime ∨ 4095 < e.gain))) ∧
    (∀ f : BeaconFields, (∀ i, 64 ≤ i → checkBeacon s i f = .refusedRange) ∧
      ∀ i : Fin 64,
        let fits : Prop := 1 ≤ f.entry.ident ∧ f.entry.ident ≤ 4095 ∧ f.entry.segment ≠ 0 ∧
          f.entry.segment ≠ 65535 ∧ f.entry.offset ≤ 59999 ∧
          ∀ (j : Fin 64) x, j ≠ i → s.tables.beacon[j] = some x → x.ident ≠ f.entry.ident
        (f.valid = false → checkBeacon s i.val f = .accepted (.beacon i none) false) ∧
        (f.valid = true → fits →
          checkBeacon s i.val f = .accepted (.beacon i (some f.entry)) false) ∧
        (f.valid = true → ¬ fits → checkBeacon s i.val f = .refusedRange)) ∧
    ∀ f : ParamFields,
      let within (lo hi x : Nat) : Nat := max lo (min x hi)
      let fits : Prop := f.offset0 ≤ 40000 ∧ f.offset1 ≤ 40000 ∧ 1 ≤ f.threshold1 ∧
        f.threshold1 < f.threshold2 ∧ f.threshold2 < f.threshold3 ∧ f.threshold3 ≤ 30000
      (∀ i : Nat, i ≠ 0 → checkParam i f = .refusedRange) ∧
      (8 ≤ f.axle0 ∨ 8 ≤ f.axle1 ∨ ¬ fits → checkParam 0 f = .refusedRange) ∧
      ∀ a0 a1 : Fin 8, f.axle0 = a0.val → f.axle1 = a1.val → fits →
        checkParam 0 f = .accepted
          (.param {
            period := within 2 10 f.period, timeout := within 10 250 f.timeout
            keepAlive := f.keepAlive, standstill := within 0 1000 f.standstill
            readerOffset := #v[f.offset0, f.offset1], readerAxle := #v[a0, a1]
            window := within 100 5000 f.window, drift := within 50 2000 f.drift
            threshold1 := f.threshold1, threshold2 := f.threshold2, threshold3 := f.threshold3
            horizon := within 0 60000 f.horizon, fallbackStep := within 0 4095 f.fallbackStep
            echoTimeout := within 1 4 f.echoTimeout })
          (decide (f.period < 2 ∨ 10 < f.period ∨ f.timeout < 10 ∨ 250 < f.timeout ∨
            1000 < f.standstill ∨ f.window < 100 ∨ 5000 < f.window ∨ f.drift < 50 ∨
            2000 < f.drift ∨ 60000 < f.horizon ∨ 4095 < f.fallbackStep ∨ f.echoTimeout < 1 ∨
            4 < f.echoTimeout))

/-- POSITION_SET (R34, R35, R183): a request within its ranges is applied at once in CONFIG, the position
becoming ESTIMATED at the offset in µm with the trail given and the reconciliation counts 0 (R52); it is
posted, or NOT_READY, in the other states, and leaves the same when it is applied from the posted slot; one
out of range is REFUSED_RANGE. ROUTE_APPEND (R32) and
ROUTE_CLEAR (R33), at once in every part state: 1 to 8 entries of a segment number and a branch 0 or 1
join the queue behind those held, when all fit in 16; otherwise the queue is left as it stands with
REFUSED_RANGE; ROUTE_CLEAR empties it. -/
def Obligations.PositionAndRouteRequests : Prop :=
  (∀ (o : Origin) (count : Byte) (segment offset : Word) (rest : List Word) (s : State),
    Addressed s o →
    let u := cancelPrepare s
    let trail := (wordPairs rest).map fun e => ({ segment := e.1, length := e.2 } : TrailEntry)
    let fits := rest.length = 2 * count.toNat ∧ count.toNat ≤ 4 ∧ segment.toNat ≠ 0 ∧
      segment.toNat ≠ 65535 ∧ ∀ e ∈ trail, e.segment ≠ 0 ∧ e.segment ≠ 65535 ∧
        1000 ≤ e.length ∧ e.length ≤ 60000
    (¬ fits → exec (.positionSet o count (segment :: offset :: rest)) s =
      .next (finish u o 5 (.plain .refusedRange))) ∧
    (fits → s.sdu.part = .config →
      exec (.positionSet o count (segment :: offset :: rest)) s = .next (finish
        ((u.setOpu { s.opu with
          position := some { segment := segment.toNat, offset := offset.toNat * 1000, overrun := 0,
                             confirmed := false }
          trail := trail }).setBru { s.bru with agreement := 0, disagreement := 0, distance := 0 })
        o 5 (.plain .done))) ∧
    (fits → s.sdu.part ≠ .config → s.mrh.posted = none →
      exec (.positionSet o count (segment :: offset :: rest)) s = .next (finish
        (u.setMrh { u.mrh with posted := some ⟨.positionSet segment.toNat offset.toNat trail, o.source⟩ })
        o 5 (.plain .posted))) ∧
    (fits → s.sdu.part ≠ .config → s.mrh.posted ≠ none →
      exec (.positionSet o count (segment :: offset :: rest)) s =
        .next (finish u o 5 (.plain .notReady)))) ∧
  (∀ (o : Origin) (count : Byte) (data : List Word) (s : State), Addressed s o →
    let u := cancelPrepare s
    let fits := data.length = 2 * count.toNat ∧ 1 ≤ count.toNat ∧ count.toNat ≤ 8 ∧
      s.opu.route.length + count.toNat ≤ 16 ∧
      ∀ e ∈ wordPairs data, e.1 ≠ 0 ∧ e.1 ≠ 65535 ∧ e.2 ≤ 1
    (fits → exec (.routeAppend o count data) s = .next (finish (u.setOpu { s.opu with
      route := s.opu.route ++
        (wordPairs data).map fun e => { segment := e.1, branch := decide (e.2 = 1) } })
      o 6 (.plain .done))) ∧
    (¬ fits → exec (.routeAppend o count data) s = .next (finish u o 6 (.plain .refusedRange))) ∧
    exec (.routeClear o []) s = .next (finish (u.setOpu { s.opu with route := [] }) o 7
      (.plain .done))) ∧
  (∀ (s : State) (segment offset : Nat) (trail : List TrailEntry),
    applyRequest s (.positionSet segment offset trail) =
      (s.setOpu { s.opu with
        position := some { segment := segment, offset := offset * 1000, overrun := 0,
                           confirmed := false }
        trail := trail }).setBru { s.bru with agreement := 0, disagreement := 0, distance := 0 })

/-- DIAG_ACK (R176, R177): every flag whose bit is set in the mask is cleared, or takes its condition's
value when it is persistent, the others are not touched; naming COPY_ERR lifts the copy-error exclusions,
naming ACT_FAULT the actuator-fault exclusions with their mismatch counts; the REPLY and the keep-alive
follow. -/
def Obligations.AcknowledgementHandled : Prop :=
  ∀ (o : Origin) (hi lo : Word) (s : State), Addressed s o →
    let mask : BitVec 32 := hi ++ lo
    let condition (f : Flag) : Bool :=
      match f with
      | .sampleStale => sampleStaleCondition s
      | .odoHold => odoHoldCondition s
      | .positionLost => positionLostCondition s
      | .dataMissing => dataMissingCondition s
      | .actStatus => actStatusCondition s
      | _ => false
    ∃ u, exec (.diagAck o [hi, lo]) s = .next (finish u o 8 (.plain .done)) ∧
      (∀ f : Flag, u.flag f = if mask.getLsbD f.bit then condition f else s.flag f) ∧
      u.osu = (if mask.getLsbD 19 then { s.osu with excluded := Vector.replicate 4 false }
        else s.osu) ∧
      (∀ b : BogieId, u.als[b] =
        if mask.getLsbD 23 ∧ s.als[b].excluded = true then
          { s.als[b] with excluded := false, mismatch := 0 }
        else s.als[b]) ∧
      u.mrh = { s.mrh with prepare := none } ∧ u.tables = s.tables ∧ u.rpu = s.rpu ∧
      u.sit = s.sit ∧ u.opu = s.opu ∧ u.bru = s.bru ∧ u.sgc = s.sgc ∧ u.slu = s.slu ∧
      u.csu = s.csu ∧ u.sdu.part = s.sdu.part ∧ u.sdu.deferred = s.sdu.deferred ∧
      u.sdu.reason = s.sdu.reason ∧ u.sdu.cause = s.sdu.cause

/-- CACHE_INVALIDATE and its "all" form (R76, R77, R183): applied at once in CONFIG, posted or NOT_READY in
the other states; segments 0 and 65535 are refused. What an invalidation leaves: a segment named loses its
content and keeps its way when it is in use, and else loses the way; the other way and every other set stand;
its outstanding entry alone is freed, without FETCH_TIMEOUT. Under "all" every entry is freed, and a way stays
allocated, without content, exactly when it was allocated and is in use. The LRU indicators stand. -/
def Obligations.InvalidationHandled : Prop :=
  (∀ (o : Origin) (segment : Word) (s : State), Addressed s o →
    let u := cancelPrepare s
    (segment.toNat = 0 ∨ segment.toNat = 65535 → exec (.cacheInvalidate o [segment]) s =
      .next (finish u o 9 (.plain .refusedRange))) ∧
    (segment.toNat ≠ 0 → segment.toNat ≠ 65535 →
      (s.sdu.part = .config → exec (.cacheInvalidate o [segment]) s =
        .next (finish (invalidateSegment u segment.toNat) o 9 (.plain .done))) ∧
      (s.sdu.part ≠ .config → s.mrh.posted = none → exec (.cacheInvalidate o [segment]) s =
        .next (finish (u.setMrh { u.mrh with posted := some ⟨.invalidate segment.toNat, o.source⟩ }) o 9
          (.plain .posted))) ∧
      (s.sdu.part ≠ .config → s.mrh.posted ≠ none → exec (.cacheInvalidate o [segment]) s =
        .next (finish u o 9 (.plain .notReady)))) ∧
    (s.sdu.part = .config → exec (.cacheInvalidateAll o [segment]) s =
      .next (finish (invalidateAll u) o 9 (.plain .done))) ∧
    (s.sdu.part ≠ .config → s.mrh.posted = none → exec (.cacheInvalidateAll o [segment]) s =
      .next (finish (u.setMrh { u.mrh with posted := some ⟨.invalidateAll, o.source⟩ }) o 9 (.plain .posted))) ∧
    (s.sdu.part ≠ .config → s.mrh.posted ≠ none → exec (.cacheInvalidateAll o [segment]) s =
      .next (finish u o 9 (.plain .notReady)))) ∧
  (∀ s : State, applyRequest s .invalidateAll = invalidateAll s ∧
    ∀ segment, applyRequest s (.invalidate segment) = invalidateSegment s segment) ∧
  (∀ (s : State) (segment : Nat),
    let t := invalidateSegment s segment
    let i : Fin 64 := Fin.ofNat 64 segment
    t.sgc.outstanding = s.sgc.outstanding.filter (fun e => e.segment ≠ segment) ∧
    t.sgc.inUse = s.sgc.inUse ∧ t.sgc.held = s.sgc.held ∧ t.rpu = s.rpu ∧ t.sdu = s.sdu ∧
    (∀ k : Fin 64, k ≠ i → t.sgc.sets[k] = s.sgc.sets[k]) ∧
    t.sgc.sets[i].lru = s.sgc.sets[i].lru ∧
    ((∀ (w : Fin 2) l, s.sgc.sets[i].ways[w] = some l → l.tag ≠ segment / 64) →
      t.sgc.sets[i] = s.sgc.sets[i]) ∧
    ∀ (w v : Fin 2) l, s.sgc.sets[i].ways[w] = some l → l.tag = segment / 64 → v ≠ w →
      (∀ m, s.sgc.sets[i].ways[v] = some m → m.tag ≠ segment / 64) →
      t.sgc.sets[i].ways[v] = s.sgc.sets[i].ways[v] ∧
      t.sgc.sets[i].ways[w] =
        if segment ∈ s.sgc.inUse then some { l with content := none } else none) ∧
  (∀ s : State, (invalidateAll s).sgc.outstanding = [] ∧ (invalidateAll s).sdu = s.sdu ∧
    (invalidateAll s).rpu = s.rpu ∧
    ∀ i : Fin 64, (invalidateAll s).sgc.sets[i].lru = s.sgc.sets[i].lru ∧
      ∀ w : Fin 2,
        (s.sgc.sets[i].ways[w] = none → (invalidateAll s).sgc.sets[i].ways[w] = none) ∧
        (∀ l, s.sgc.sets[i].ways[w] = some l →
          (invalidateAll s).sgc.sets[i].ways[w] =
            if l.tag * 64 + i.val ∈ s.sgc.inUse then some { l with content := none } else none))

/-- RESET_PREPARE and RESET_CONFIRM (R189): a prepare records its value and sender, in place of any held;
a confirmation without a prepare or from another sender is REFUSED_STATE, with a wrong complement
REFUSED_RANGE, and with the right one DONE, setting the confirmed reset, and its REPLY carries the echo of
function 13 with DONE and the summary word as it stands before the reset (R181, R190); it cancels the prepare in
every case. Every other accepted request cancels it too. -/
def Obligations.ResetExchange : Prop :=
  ∀ (o : Origin) (v c : Word) (straps : Addr) (s : State), Addressed s o →
    let u := cancelPrepare s
    exec (.resetPrepare o [v]) s = .next (finish (u.setMrh { u.mrh with
      prepare := some { value := v, sender := o.source } }) o 12 (.plain .done)) ∧
    (s.mrh.prepare = none →
      exec (.resetConfirm o ⟨[c], straps⟩) s = .next (finish u o 13 (.plain .refusedState))) ∧
    (∀ p, s.mrh.prepare = some p →
      (p.sender ≠ o.source →
        exec (.resetConfirm o ⟨[c], straps⟩) s = .next (finish u o 13 (.plain .refusedState))) ∧
      (p.sender = o.source → c.toNat ≠ 65535 - p.value.toNat →
        exec (.resetConfirm o ⟨[c], straps⟩) s = .next (finish u o 13 (.plain .refusedRange))) ∧
      (p.sender = o.source → c.toNat = 65535 - p.value.toNat → queueLength s.rpu < 12 →
        ∃ t, exec (.resetConfirm o ⟨[c], straps⟩) s = .next t ∧ t.mrh.confirmed = true ∧
          t.mrh.prepare = none ∧ t.mrh.posted = s.mrh.posted ∧ t.sdu = s.sdu ∧
          t.tables = s.tables ∧
          ∃ r, t.rpu.others = s.rpu.others ++ [.reply r] ∧ r.confirms = true ∧
            r.destination = o.source ∧ r.tag = o.tag ∧
            r.payload = [0xD000, bitsAt 14 2 s.sdu.part.code ||| bitsAt 12 2 (positionCode s.opu.position) |||
              bitAt 11 (decide (s.sdu.flags ≠ 0)) |||
              bitsAt 0 4 (bogieMask fun b => decide (s.slu.bogieState[b] ≠ .tracking))])) ∧
    (∀ (d : Instr) (function : Nat) (t : State), requestOf d = some (o, function) → d.wf = true →
      function ≠ 12 → accepts s o function = true → exec d s = .next t → t.mrh.prepare = none)

/-- A function number that names no request is answered REFUSED_FUNCTION, and request data shorter or
longer than the request needs REFUSED_RANGE, with no other effect than the prepare it cancels (R182,
R189) and, for a STATE_SET(ACTIVE), the held deferred entry (R182). That a RESET_PREPARE of a wrong length
cancels the held prepare, that CACHE_INVALIDATE with the indicator all carries exactly one data word, and that
R182's word on STATE_SET(ACTIVE) takes in one of a wrong length, are the model's readings (logs 24, 35, 40). -/
def Obligations.UnfitRequestRefused : Prop :=
  ∀ (o : Origin) (index : Byte) (table part : BitVec 4) (data : List Word) (straps : Addr)
    (s : State),
    Addressed s o →
    let range (function : Nat) : Host.Outcome State Fault Refusal :=
      .next (finish (cancelPrepare s) o function (.plain .refusedRange))
    (∀ function : BitVec 4, function.toNat = 0 ∨ function.toNat = 14 ∨ function.toNat = 15 →
      exec (.refusedFunction o function data) s =
        .next (finish (cancelPrepare s) o function.toNat (.plain .refusedFunction))) ∧
    (data.length ≠ 0 →
      exec (.statusRead o index data) s = range 1 ∧
      exec (.tableRead o table index data) s = range 3 ∧
      exec (.stateSetConfig o data) s = range 4 ∧ exec (.stateSetStandby o data) s = range 4 ∧
      exec (.stateSetActive o data) s = .next (finish ((cancelPrepare s).setSdu
        { s.sdu with deferred := false }) o 4 (.plain .refusedRange)) ∧
      exec (.routeClear o data) s = range 7 ∧
      exec (.channelRead o part index data) s = range 11) ∧
    (data.length ≠ 1 →
      exec (.cacheInvalidate o data) s = range 9 ∧ exec (.cacheInvalidateAll o data) s = range 9 ∧
      exec (.resetPrepare o data) s = range 12 ∧ exec (.resetConfirm o ⟨data, straps⟩) s = range 13) ∧
    (data.length ≠ 2 →
      exec (.tableWriteSource o index data) s = range 2 ∧
      exec (.tableWriteAxle o index data) s = range 2 ∧
      exec (.tableWriteGainSchedule o index data) s = range 2 ∧
      exec (.diagAck o data) s = range 8) ∧
    (data.length ≠ 3 →
      exec (.tableWriteBogie o index data) s = range 2 ∧
      exec (.tableWriteBeacon o index data) s = range 2 ∧ exec (.cacheRead o data) s = range 10) ∧
    (data.length ≠ 10 → exec (.tableWriteChannel o index data) s = range 2) ∧
    (data.length ≠ 15 → exec (.tableWriteParameter o index data) s = range 2) ∧
    (data.length ≠ 2 + 2 * index.toNat → exec (.positionSet o index data) s = range 5) ∧
    (data.length ≠ 2 * index.toNat → exec (.routeAppend o index data) s = range 6)

/-! ## Invariants and rules of the whole part -/

/-- Each persistent flag is set whenever its condition holds, in every state that a step reaches from a
state of which this is true (R175); and a flag, persistent or not, stays set through every command but a
reset and one that can carry an acknowledgement or lead to a reset (R174). -/
def Obligations.PersistentFlagsFollow : Prop :=
  ∀ s t : State, step s = .next t →
    (FlagsFollow s → FlagsFollow t) ∧
    ∀ (c : Instr) (u : State), mayClearFlags c = false → exec c s = .next u →
      ∀ f : Flag, s.flag f = true → u.flag f = true

/-- Nothing is outstanding, pending or waiting for a bogie that is excluded, disabled, or in CONFIG (R125),
and a waiting COMMAND frame carries the tag and codes of its bogie's outstanding command (R161): each in
every state that a step reaches from one where it is true. -/
def Obligations.LinksStayQuiet : Prop :=
  (∀ s t : State, LinksQuiet s → step s = .next t → LinksQuiet t) ∧
  (∀ s t : State, FramesMatch s → step s = .next t → FramesMatch t)

/-- No step brings a double into the Source, axle, beacon or bogie table (R3, R16, R42, R121, R185), and
every channel entry, gain entry and the parameter table stay within their ranges (R82, R105, R187); every header
held, its successors and its points, and every trail length, stay as R34, R59 and R60 let them in, with no
segment in two ways (R55). -/
def Obligations.TablesStaySound : Prop :=
  (∀ s t : State, TablesUnique s.tables → step s = .next t → TablesUnique t.tables) ∧
  (∀ s t : State, TablesInRange s → step s = .next t → TablesInRange t) ∧
  (∀ s t : State, RouteSound s → step s = .next t → RouteSound t)

/-- The forward buffer, the transmit queue and the outstanding fetch table keep within their sizes, with one
COMMAND at most for a bogie and one entry for a segment (R71, R154, R159, R160, R163), and the counters
and lists of the other blocks within their ranges (R22, R24, R31, R32, chapters 3, 7 and 8). -/
def Obligations.SizesStayBounded : Prop :=
  (∀ s t : State, QueuesBounded s → step s = .next t → QueuesBounded t) ∧
  (∀ s t : State, CountsBounded s → step s = .next t → CountsBounded t)

/-- Supervision counts in STANDBY and ACTIVE alone, only FALLBACK is re-armed, a deferred entry waits in
STANDBY alone (R149, R151, R170), in every state that a step reaches from one where this is true. -/
def Obligations.StatesKeepAgreeing : Prop :=
  ∀ s t : State, StatesAgree s → step s = .next t → StatesAgree t

/-- The computation in flight always has an event to come, and its bogies awaiting offer are those of the
results handed on, in every state that a step reaches from one where this is true (R142, R145, R146). -/
def Obligations.ComputationCoherent : Prop :=
  ∀ s t : State, InFlight s → step s = .next t → InFlight t

/-- The state right after reset meets every invariant. -/
def Obligations.ResetMeetsInvariants : Prop :=
  FlagsFollow State.reset ∧ LinksQuiet State.reset ∧ FramesMatch State.reset ∧
  TablesUnique State.reset.tables ∧ TablesInRange State.reset ∧ RouteSound State.reset ∧
  QueuesBounded State.reset ∧ CountsBounded State.reset ∧ StatesAgree State.reset ∧
  InFlight State.reset

/-- FALLBACK is entered only from STANDBY or ACTIVE with supervision counting, and then with SUP_EXPIRED set
and the part not re-armed (R150, R171). ACTIVE is entered only at a cycle close, by a deferred entry that
the consistency check of the tables as they then stand lets pass (R146, R170). -/
def Obligations.PartStateEntered : Prop :=
  (∀ s t : State, step s = .next t → t.sdu.part = .fallback → s.sdu.part ≠ .fallback →
    (s.sdu.part = .standby ∨ s.sdu.part = .active) ∧ s.csu.supervision.counting = true ∧
    t.flag .supExpired = true ∧ t.csu.rearm = false ∧ t.sdu.deferred = false) ∧
  (∀ s t : State, step s = .next t → t.sdu.part = .active → s.sdu.part ≠ .active →
    s.sdu.deferred = true ∧ s.csu.running = true ∧ t.csu.running = false ∧
    inconsistency t = none ∧ t.mrh.posted = none)
end

