-- ==== Sys2Proof/Laws/State.lean ====
section
/-! SUPPORT. One lemma per field per update of one field of the state, so that no proof unfolds a record
update. -/

namespace Sys2Proof.Machine

/-! ## setTables -/

@[simp] theorem State.setTables_straps (s : State) (x : Tables) : (s.setTables x).straps = s.straps := rfl
@[simp] theorem State.setTables_tables (s : State) (x : Tables) : (s.setTables x).tables = x := rfl
@[simp] theorem State.setTables_rpu (s : State) (x : Tables) : (s.setTables x).rpu = s.rpu := rfl
@[simp] theorem State.setTables_sit (s : State) (x : Tables) : (s.setTables x).sit = s.sit := rfl
@[simp] theorem State.setTables_opu (s : State) (x : Tables) : (s.setTables x).opu = s.opu := rfl
@[simp] theorem State.setTables_bru (s : State) (x : Tables) : (s.setTables x).bru = s.bru := rfl
@[simp] theorem State.setTables_sgc (s : State) (x : Tables) : (s.setTables x).sgc = s.sgc := rfl
@[simp] theorem State.setTables_slu (s : State) (x : Tables) : (s.setTables x).slu = s.slu := rfl
@[simp] theorem State.setTables_osu (s : State) (x : Tables) : (s.setTables x).osu = s.osu := rfl
@[simp] theorem State.setTables_als (s : State) (x : Tables) : (s.setTables x).als = s.als := rfl
@[simp] theorem State.setTables_csu (s : State) (x : Tables) : (s.setTables x).csu = s.csu := rfl
@[simp] theorem State.setTables_mrh (s : State) (x : Tables) : (s.setTables x).mrh = s.mrh := rfl
@[simp] theorem State.setTables_sdu (s : State) (x : Tables) : (s.setTables x).sdu = s.sdu := rfl
@[simp] theorem State.setTables_pending (s : State) (x : Tables) : (s.setTables x).pending = s.pending := rfl
@[simp] theorem State.setTables_within (s : State) (x : Tables) : (s.setTables x).within = s.within := rfl

/-! ## setRpu -/

@[simp] theorem State.setRpu_straps (s : State) (x : Rpu) : (s.setRpu x).straps = s.straps := rfl
@[simp] theorem State.setRpu_tables (s : State) (x : Rpu) : (s.setRpu x).tables = s.tables := rfl
@[simp] theorem State.setRpu_rpu (s : State) (x : Rpu) : (s.setRpu x).rpu = x := rfl
@[simp] theorem State.setRpu_sit (s : State) (x : Rpu) : (s.setRpu x).sit = s.sit := rfl
@[simp] theorem State.setRpu_opu (s : State) (x : Rpu) : (s.setRpu x).opu = s.opu := rfl
@[simp] theorem State.setRpu_bru (s : State) (x : Rpu) : (s.setRpu x).bru = s.bru := rfl
@[simp] theorem State.setRpu_sgc (s : State) (x : Rpu) : (s.setRpu x).sgc = s.sgc := rfl
@[simp] theorem State.setRpu_slu (s : State) (x : Rpu) : (s.setRpu x).slu = s.slu := rfl
@[simp] theorem State.setRpu_osu (s : State) (x : Rpu) : (s.setRpu x).osu = s.osu := rfl
@[simp] theorem State.setRpu_als (s : State) (x : Rpu) : (s.setRpu x).als = s.als := rfl
@[simp] theorem State.setRpu_csu (s : State) (x : Rpu) : (s.setRpu x).csu = s.csu := rfl
@[simp] theorem State.setRpu_mrh (s : State) (x : Rpu) : (s.setRpu x).mrh = s.mrh := rfl
@[simp] theorem State.setRpu_sdu (s : State) (x : Rpu) : (s.setRpu x).sdu = s.sdu := rfl
@[simp] theorem State.setRpu_pending (s : State) (x : Rpu) : (s.setRpu x).pending = s.pending := rfl
@[simp] theorem State.setRpu_within (s : State) (x : Rpu) : (s.setRpu x).within = s.within := rfl

/-! ## setSit -/

@[simp] theorem State.setSit_straps (s : State) (x : Sit) : (s.setSit x).straps = s.straps := rfl
@[simp] theorem State.setSit_tables (s : State) (x : Sit) : (s.setSit x).tables = s.tables := rfl
@[simp] theorem State.setSit_rpu (s : State) (x : Sit) : (s.setSit x).rpu = s.rpu := rfl
@[simp] theorem State.setSit_sit (s : State) (x : Sit) : (s.setSit x).sit = x := rfl
@[simp] theorem State.setSit_opu (s : State) (x : Sit) : (s.setSit x).opu = s.opu := rfl
@[simp] theorem State.setSit_bru (s : State) (x : Sit) : (s.setSit x).bru = s.bru := rfl
@[simp] theorem State.setSit_sgc (s : State) (x : Sit) : (s.setSit x).sgc = s.sgc := rfl
@[simp] theorem State.setSit_slu (s : State) (x : Sit) : (s.setSit x).slu = s.slu := rfl
@[simp] theorem State.setSit_osu (s : State) (x : Sit) : (s.setSit x).osu = s.osu := rfl
@[simp] theorem State.setSit_als (s : State) (x : Sit) : (s.setSit x).als = s.als := rfl
@[simp] theorem State.setSit_csu (s : State) (x : Sit) : (s.setSit x).csu = s.csu := rfl
@[simp] theorem State.setSit_mrh (s : State) (x : Sit) : (s.setSit x).mrh = s.mrh := rfl
@[simp] theorem State.setSit_sdu (s : State) (x : Sit) : (s.setSit x).sdu = s.sdu := rfl
@[simp] theorem State.setSit_pending (s : State) (x : Sit) : (s.setSit x).pending = s.pending := rfl
@[simp] theorem State.setSit_within (s : State) (x : Sit) : (s.setSit x).within = s.within := rfl

/-! ## setOpu -/

@[simp] theorem State.setOpu_straps (s : State) (x : Opu) : (s.setOpu x).straps = s.straps := rfl
@[simp] theorem State.setOpu_tables (s : State) (x : Opu) : (s.setOpu x).tables = s.tables := rfl
@[simp] theorem State.setOpu_rpu (s : State) (x : Opu) : (s.setOpu x).rpu = s.rpu := rfl
@[simp] theorem State.setOpu_sit (s : State) (x : Opu) : (s.setOpu x).sit = s.sit := rfl
@[simp] theorem State.setOpu_opu (s : State) (x : Opu) : (s.setOpu x).opu = x := rfl
@[simp] theorem State.setOpu_bru (s : State) (x : Opu) : (s.setOpu x).bru = s.bru := rfl
@[simp] theorem State.setOpu_sgc (s : State) (x : Opu) : (s.setOpu x).sgc = s.sgc := rfl
@[simp] theorem State.setOpu_slu (s : State) (x : Opu) : (s.setOpu x).slu = s.slu := rfl
@[simp] theorem State.setOpu_osu (s : State) (x : Opu) : (s.setOpu x).osu = s.osu := rfl
@[simp] theorem State.setOpu_als (s : State) (x : Opu) : (s.setOpu x).als = s.als := rfl
@[simp] theorem State.setOpu_csu (s : State) (x : Opu) : (s.setOpu x).csu = s.csu := rfl
@[simp] theorem State.setOpu_mrh (s : State) (x : Opu) : (s.setOpu x).mrh = s.mrh := rfl
@[simp] theorem State.setOpu_sdu (s : State) (x : Opu) : (s.setOpu x).sdu = s.sdu := rfl
@[simp] theorem State.setOpu_pending (s : State) (x : Opu) : (s.setOpu x).pending = s.pending := rfl
@[simp] theorem State.setOpu_within (s : State) (x : Opu) : (s.setOpu x).within = s.within := rfl

/-! ## setBru -/

@[simp] theorem State.setBru_straps (s : State) (x : Bru) : (s.setBru x).straps = s.straps := rfl
@[simp] theorem State.setBru_tables (s : State) (x : Bru) : (s.setBru x).tables = s.tables := rfl
@[simp] theorem State.setBru_rpu (s : State) (x : Bru) : (s.setBru x).rpu = s.rpu := rfl
@[simp] theorem State.setBru_sit (s : State) (x : Bru) : (s.setBru x).sit = s.sit := rfl
@[simp] theorem State.setBru_opu (s : State) (x : Bru) : (s.setBru x).opu = s.opu := rfl
@[simp] theorem State.setBru_bru (s : State) (x : Bru) : (s.setBru x).bru = x := rfl
@[simp] theorem State.setBru_sgc (s : State) (x : Bru) : (s.setBru x).sgc = s.sgc := rfl
@[simp] theorem State.setBru_slu (s : State) (x : Bru) : (s.setBru x).slu = s.slu := rfl
@[simp] theorem State.setBru_osu (s : State) (x : Bru) : (s.setBru x).osu = s.osu := rfl
@[simp] theorem State.setBru_als (s : State) (x : Bru) : (s.setBru x).als = s.als := rfl
@[simp] theorem State.setBru_csu (s : State) (x : Bru) : (s.setBru x).csu = s.csu := rfl
@[simp] theorem State.setBru_mrh (s : State) (x : Bru) : (s.setBru x).mrh = s.mrh := rfl
@[simp] theorem State.setBru_sdu (s : State) (x : Bru) : (s.setBru x).sdu = s.sdu := rfl
@[simp] theorem State.setBru_pending (s : State) (x : Bru) : (s.setBru x).pending = s.pending := rfl
@[simp] theorem State.setBru_within (s : State) (x : Bru) : (s.setBru x).within = s.within := rfl

/-! ## setSgc -/

@[simp] theorem State.setSgc_straps (s : State) (x : Sgc) : (s.setSgc x).straps = s.straps := rfl
@[simp] theorem State.setSgc_tables (s : State) (x : Sgc) : (s.setSgc x).tables = s.tables := rfl
@[simp] theorem State.setSgc_rpu (s : State) (x : Sgc) : (s.setSgc x).rpu = s.rpu := rfl
@[simp] theorem State.setSgc_sit (s : State) (x : Sgc) : (s.setSgc x).sit = s.sit := rfl
@[simp] theorem State.setSgc_opu (s : State) (x : Sgc) : (s.setSgc x).opu = s.opu := rfl
@[simp] theorem State.setSgc_bru (s : State) (x : Sgc) : (s.setSgc x).bru = s.bru := rfl
@[simp] theorem State.setSgc_sgc (s : State) (x : Sgc) : (s.setSgc x).sgc = x := rfl
@[simp] theorem State.setSgc_slu (s : State) (x : Sgc) : (s.setSgc x).slu = s.slu := rfl
@[simp] theorem State.setSgc_osu (s : State) (x : Sgc) : (s.setSgc x).osu = s.osu := rfl
@[simp] theorem State.setSgc_als (s : State) (x : Sgc) : (s.setSgc x).als = s.als := rfl
@[simp] theorem State.setSgc_csu (s : State) (x : Sgc) : (s.setSgc x).csu = s.csu := rfl
@[simp] theorem State.setSgc_mrh (s : State) (x : Sgc) : (s.setSgc x).mrh = s.mrh := rfl
@[simp] theorem State.setSgc_sdu (s : State) (x : Sgc) : (s.setSgc x).sdu = s.sdu := rfl
@[simp] theorem State.setSgc_pending (s : State) (x : Sgc) : (s.setSgc x).pending = s.pending := rfl
@[simp] theorem State.setSgc_within (s : State) (x : Sgc) : (s.setSgc x).within = s.within := rfl

/-! ## setSlu -/

@[simp] theorem State.setSlu_straps (s : State) (x : Slu) : (s.setSlu x).straps = s.straps := rfl
@[simp] theorem State.setSlu_tables (s : State) (x : Slu) : (s.setSlu x).tables = s.tables := rfl
@[simp] theorem State.setSlu_rpu (s : State) (x : Slu) : (s.setSlu x).rpu = s.rpu := rfl
@[simp] theorem State.setSlu_sit (s : State) (x : Slu) : (s.setSlu x).sit = s.sit := rfl
@[simp] theorem State.setSlu_opu (s : State) (x : Slu) : (s.setSlu x).opu = s.opu := rfl
@[simp] theorem State.setSlu_bru (s : State) (x : Slu) : (s.setSlu x).bru = s.bru := rfl
@[simp] theorem State.setSlu_sgc (s : State) (x : Slu) : (s.setSlu x).sgc = s.sgc := rfl
@[simp] theorem State.setSlu_slu (s : State) (x : Slu) : (s.setSlu x).slu = x := rfl
@[simp] theorem State.setSlu_osu (s : State) (x : Slu) : (s.setSlu x).osu = s.osu := rfl
@[simp] theorem State.setSlu_als (s : State) (x : Slu) : (s.setSlu x).als = s.als := rfl
@[simp] theorem State.setSlu_csu (s : State) (x : Slu) : (s.setSlu x).csu = s.csu := rfl
@[simp] theorem State.setSlu_mrh (s : State) (x : Slu) : (s.setSlu x).mrh = s.mrh := rfl
@[simp] theorem State.setSlu_sdu (s : State) (x : Slu) : (s.setSlu x).sdu = s.sdu := rfl
@[simp] theorem State.setSlu_pending (s : State) (x : Slu) : (s.setSlu x).pending = s.pending := rfl
@[simp] theorem State.setSlu_within (s : State) (x : Slu) : (s.setSlu x).within = s.within := rfl

/-! ## setOsu -/

@[simp] theorem State.setOsu_straps (s : State) (x : Osu) : (s.setOsu x).straps = s.straps := rfl
@[simp] theorem State.setOsu_tables (s : State) (x : Osu) : (s.setOsu x).tables = s.tables := rfl
@[simp] theorem State.setOsu_rpu (s : State) (x : Osu) : (s.setOsu x).rpu = s.rpu := rfl
@[simp] theorem State.setOsu_sit (s : State) (x : Osu) : (s.setOsu x).sit = s.sit := rfl
@[simp] theorem State.setOsu_opu (s : State) (x : Osu) : (s.setOsu x).opu = s.opu := rfl
@[simp] theorem State.setOsu_bru (s : State) (x : Osu) : (s.setOsu x).bru = s.bru := rfl
@[simp] theorem State.setOsu_sgc (s : State) (x : Osu) : (s.setOsu x).sgc = s.sgc := rfl
@[simp] theorem State.setOsu_slu (s : State) (x : Osu) : (s.setOsu x).slu = s.slu := rfl
@[simp] theorem State.setOsu_osu (s : State) (x : Osu) : (s.setOsu x).osu = x := rfl
@[simp] theorem State.setOsu_als (s : State) (x : Osu) : (s.setOsu x).als = s.als := rfl
@[simp] theorem State.setOsu_csu (s : State) (x : Osu) : (s.setOsu x).csu = s.csu := rfl
@[simp] theorem State.setOsu_mrh (s : State) (x : Osu) : (s.setOsu x).mrh = s.mrh := rfl
@[simp] theorem State.setOsu_sdu (s : State) (x : Osu) : (s.setOsu x).sdu = s.sdu := rfl
@[simp] theorem State.setOsu_pending (s : State) (x : Osu) : (s.setOsu x).pending = s.pending := rfl
@[simp] theorem State.setOsu_within (s : State) (x : Osu) : (s.setOsu x).within = s.within := rfl

/-! ## setAls -/

@[simp] theorem State.setAls_straps (s : State) (x : Vector Link 4) : (s.setAls x).straps = s.straps := rfl
@[simp] theorem State.setAls_tables (s : State) (x : Vector Link 4) : (s.setAls x).tables = s.tables := rfl
@[simp] theorem State.setAls_rpu (s : State) (x : Vector Link 4) : (s.setAls x).rpu = s.rpu := rfl
@[simp] theorem State.setAls_sit (s : State) (x : Vector Link 4) : (s.setAls x).sit = s.sit := rfl
@[simp] theorem State.setAls_opu (s : State) (x : Vector Link 4) : (s.setAls x).opu = s.opu := rfl
@[simp] theorem State.setAls_bru (s : State) (x : Vector Link 4) : (s.setAls x).bru = s.bru := rfl
@[simp] theorem State.setAls_sgc (s : State) (x : Vector Link 4) : (s.setAls x).sgc = s.sgc := rfl
@[simp] theorem State.setAls_slu (s : State) (x : Vector Link 4) : (s.setAls x).slu = s.slu := rfl
@[simp] theorem State.setAls_osu (s : State) (x : Vector Link 4) : (s.setAls x).osu = s.osu := rfl
@[simp] theorem State.setAls_als (s : State) (x : Vector Link 4) : (s.setAls x).als = x := rfl
@[simp] theorem State.setAls_csu (s : State) (x : Vector Link 4) : (s.setAls x).csu = s.csu := rfl
@[simp] theorem State.setAls_mrh (s : State) (x : Vector Link 4) : (s.setAls x).mrh = s.mrh := rfl
@[simp] theorem State.setAls_sdu (s : State) (x : Vector Link 4) : (s.setAls x).sdu = s.sdu := rfl
@[simp] theorem State.setAls_pending (s : State) (x : Vector Link 4) : (s.setAls x).pending = s.pending := rfl
@[simp] theorem State.setAls_within (s : State) (x : Vector Link 4) : (s.setAls x).within = s.within := rfl

/-! ## setCsu -/

@[simp] theorem State.setCsu_straps (s : State) (x : Csu) : (s.setCsu x).straps = s.straps := rfl
@[simp] theorem State.setCsu_tables (s : State) (x : Csu) : (s.setCsu x).tables = s.tables := rfl
@[simp] theorem State.setCsu_rpu (s : State) (x : Csu) : (s.setCsu x).rpu = s.rpu := rfl
@[simp] theorem State.setCsu_sit (s : State) (x : Csu) : (s.setCsu x).sit = s.sit := rfl
@[simp] theorem State.setCsu_opu (s : State) (x : Csu) : (s.setCsu x).opu = s.opu := rfl
@[simp] theorem State.setCsu_bru (s : State) (x : Csu) : (s.setCsu x).bru = s.bru := rfl
@[simp] theorem State.setCsu_sgc (s : State) (x : Csu) : (s.setCsu x).sgc = s.sgc := rfl
@[simp] theorem State.setCsu_slu (s : State) (x : Csu) : (s.setCsu x).slu = s.slu := rfl
@[simp] theorem State.setCsu_osu (s : State) (x : Csu) : (s.setCsu x).osu = s.osu := rfl
@[simp] theorem State.setCsu_als (s : State) (x : Csu) : (s.setCsu x).als = s.als := rfl
@[simp] theorem State.setCsu_csu (s : State) (x : Csu) : (s.setCsu x).csu = x := rfl
@[simp] theorem State.setCsu_mrh (s : State) (x : Csu) : (s.setCsu x).mrh = s.mrh := rfl
@[simp] theorem State.setCsu_sdu (s : State) (x : Csu) : (s.setCsu x).sdu = s.sdu := rfl
@[simp] theorem State.setCsu_pending (s : State) (x : Csu) : (s.setCsu x).pending = s.pending := rfl
@[simp] theorem State.setCsu_within (s : State) (x : Csu) : (s.setCsu x).within = s.within := rfl

/-! ## setMrh -/

@[simp] theorem State.setMrh_straps (s : State) (x : Mrh) : (s.setMrh x).straps = s.straps := rfl
@[simp] theorem State.setMrh_tables (s : State) (x : Mrh) : (s.setMrh x).tables = s.tables := rfl
@[simp] theorem State.setMrh_rpu (s : State) (x : Mrh) : (s.setMrh x).rpu = s.rpu := rfl
@[simp] theorem State.setMrh_sit (s : State) (x : Mrh) : (s.setMrh x).sit = s.sit := rfl
@[simp] theorem State.setMrh_opu (s : State) (x : Mrh) : (s.setMrh x).opu = s.opu := rfl
@[simp] theorem State.setMrh_bru (s : State) (x : Mrh) : (s.setMrh x).bru = s.bru := rfl
@[simp] theorem State.setMrh_sgc (s : State) (x : Mrh) : (s.setMrh x).sgc = s.sgc := rfl
@[simp] theorem State.setMrh_slu (s : State) (x : Mrh) : (s.setMrh x).slu = s.slu := rfl
@[simp] theorem State.setMrh_osu (s : State) (x : Mrh) : (s.setMrh x).osu = s.osu := rfl
@[simp] theorem State.setMrh_als (s : State) (x : Mrh) : (s.setMrh x).als = s.als := rfl
@[simp] theorem State.setMrh_csu (s : State) (x : Mrh) : (s.setMrh x).csu = s.csu := rfl
@[simp] theorem State.setMrh_mrh (s : State) (x : Mrh) : (s.setMrh x).mrh = x := rfl
@[simp] theorem State.setMrh_sdu (s : State) (x : Mrh) : (s.setMrh x).sdu = s.sdu := rfl
@[simp] theorem State.setMrh_pending (s : State) (x : Mrh) : (s.setMrh x).pending = s.pending := rfl
@[simp] theorem State.setMrh_within (s : State) (x : Mrh) : (s.setMrh x).within = s.within := rfl

/-! ## setSdu -/

@[simp] theorem State.setSdu_straps (s : State) (x : Sdu) : (s.setSdu x).straps = s.straps := rfl
@[simp] theorem State.setSdu_tables (s : State) (x : Sdu) : (s.setSdu x).tables = s.tables := rfl
@[simp] theorem State.setSdu_rpu (s : State) (x : Sdu) : (s.setSdu x).rpu = s.rpu := rfl
@[simp] theorem State.setSdu_sit (s : State) (x : Sdu) : (s.setSdu x).sit = s.sit := rfl
@[simp] theorem State.setSdu_opu (s : State) (x : Sdu) : (s.setSdu x).opu = s.opu := rfl
@[simp] theorem State.setSdu_bru (s : State) (x : Sdu) : (s.setSdu x).bru = s.bru := rfl
@[simp] theorem State.setSdu_sgc (s : State) (x : Sdu) : (s.setSdu x).sgc = s.sgc := rfl
@[simp] theorem State.setSdu_slu (s : State) (x : Sdu) : (s.setSdu x).slu = s.slu := rfl
@[simp] theorem State.setSdu_osu (s : State) (x : Sdu) : (s.setSdu x).osu = s.osu := rfl
@[simp] theorem State.setSdu_als (s : State) (x : Sdu) : (s.setSdu x).als = s.als := rfl
@[simp] theorem State.setSdu_csu (s : State) (x : Sdu) : (s.setSdu x).csu = s.csu := rfl
@[simp] theorem State.setSdu_mrh (s : State) (x : Sdu) : (s.setSdu x).mrh = s.mrh := rfl
@[simp] theorem State.setSdu_sdu (s : State) (x : Sdu) : (s.setSdu x).sdu = x := rfl
@[simp] theorem State.setSdu_pending (s : State) (x : Sdu) : (s.setSdu x).pending = s.pending := rfl
@[simp] theorem State.setSdu_within (s : State) (x : Sdu) : (s.setSdu x).within = s.within := rfl

/-! ## setPending -/

@[simp] theorem State.setPending_straps (s : State) (x : List Instr) : (s.setPending x).straps = s.straps := rfl
@[simp] theorem State.setPending_tables (s : State) (x : List Instr) : (s.setPending x).tables = s.tables := rfl
@[simp] theorem State.setPending_rpu (s : State) (x : List Instr) : (s.setPending x).rpu = s.rpu := rfl
@[simp] theorem State.setPending_sit (s : State) (x : List Instr) : (s.setPending x).sit = s.sit := rfl
@[simp] theorem State.setPending_opu (s : State) (x : List Instr) : (s.setPending x).opu = s.opu := rfl
@[simp] theorem State.setPending_bru (s : State) (x : List Instr) : (s.setPending x).bru = s.bru := rfl
@[simp] theorem State.setPending_sgc (s : State) (x : List Instr) : (s.setPending x).sgc = s.sgc := rfl
@[simp] theorem State.setPending_slu (s : State) (x : List Instr) : (s.setPending x).slu = s.slu := rfl
@[simp] theorem State.setPending_osu (s : State) (x : List Instr) : (s.setPending x).osu = s.osu := rfl
@[simp] theorem State.setPending_als (s : State) (x : List Instr) : (s.setPending x).als = s.als := rfl
@[simp] theorem State.setPending_csu (s : State) (x : List Instr) : (s.setPending x).csu = s.csu := rfl
@[simp] theorem State.setPending_mrh (s : State) (x : List Instr) : (s.setPending x).mrh = s.mrh := rfl
@[simp] theorem State.setPending_sdu (s : State) (x : List Instr) : (s.setPending x).sdu = s.sdu := rfl
@[simp] theorem State.setPending_pending (s : State) (x : List Instr) : (s.setPending x).pending = x := rfl
@[simp] theorem State.setPending_within (s : State) (x : List Instr) : (s.setPending x).within = s.within := rfl

/-! ## setWithin -/

@[simp] theorem State.setWithin_straps (s : State) (x : List (List Arrival)) : (s.setWithin x).straps = s.straps := rfl
@[simp] theorem State.setWithin_tables (s : State) (x : List (List Arrival)) : (s.setWithin x).tables = s.tables := rfl
@[simp] theorem State.setWithin_rpu (s : State) (x : List (List Arrival)) : (s.setWithin x).rpu = s.rpu := rfl
@[simp] theorem State.setWithin_sit (s : State) (x : List (List Arrival)) : (s.setWithin x).sit = s.sit := rfl
@[simp] theorem State.setWithin_opu (s : State) (x : List (List Arrival)) : (s.setWithin x).opu = s.opu := rfl
@[simp] theorem State.setWithin_bru (s : State) (x : List (List Arrival)) : (s.setWithin x).bru = s.bru := rfl
@[simp] theorem State.setWithin_sgc (s : State) (x : List (List Arrival)) : (s.setWithin x).sgc = s.sgc := rfl
@[simp] theorem State.setWithin_slu (s : State) (x : List (List Arrival)) : (s.setWithin x).slu = s.slu := rfl
@[simp] theorem State.setWithin_osu (s : State) (x : List (List Arrival)) : (s.setWithin x).osu = s.osu := rfl
@[simp] theorem State.setWithin_als (s : State) (x : List (List Arrival)) : (s.setWithin x).als = s.als := rfl
@[simp] theorem State.setWithin_csu (s : State) (x : List (List Arrival)) : (s.setWithin x).csu = s.csu := rfl
@[simp] theorem State.setWithin_mrh (s : State) (x : List (List Arrival)) : (s.setWithin x).mrh = s.mrh := rfl
@[simp] theorem State.setWithin_sdu (s : State) (x : List (List Arrival)) : (s.setWithin x).sdu = s.sdu := rfl
@[simp] theorem State.setWithin_pending (s : State) (x : List (List Arrival)) : (s.setWithin x).pending = s.pending := rfl
@[simp] theorem State.setWithin_within (s : State) (x : List (List Arrival)) : (s.setWithin x).within = x := rfl

/-! ## Two updates of one field -/

@[simp] theorem State.setTables_setTables (s : State) (x y : Tables) :
    (s.setTables x).setTables y = s.setTables y := rfl
@[simp] theorem State.setTables_self (s : State) : s.setTables s.tables = s := rfl
@[simp] theorem State.setRpu_setRpu (s : State) (x y : Rpu) :
    (s.setRpu x).setRpu y = s.setRpu y := rfl
@[simp] theorem State.setRpu_self (s : State) : s.setRpu s.rpu = s := rfl
@[simp] theorem State.setSit_setSit (s : State) (x y : Sit) :
    (s.setSit x).setSit y = s.setSit y := rfl
@[simp] theorem State.setSit_self (s : State) : s.setSit s.sit = s := rfl
@[simp] theorem State.setOpu_setOpu (s : State) (x y : Opu) :
    (s.setOpu x).setOpu y = s.setOpu y := rfl
@[simp] theorem State.setOpu_self (s : State) : s.setOpu s.opu = s := rfl
@[simp] theorem State.setBru_setBru (s : State) (x y : Bru) :
    (s.setBru x).setBru y = s.setBru y := rfl
@[simp] theorem State.setBru_self (s : State) : s.setBru s.bru = s := rfl
@[simp] theorem State.setSgc_setSgc (s : State) (x y : Sgc) :
    (s.setSgc x).setSgc y = s.setSgc y := rfl
@[simp] theorem State.setSgc_self (s : State) : s.setSgc s.sgc = s := rfl
@[simp] theorem State.setSlu_setSlu (s : State) (x y : Slu) :
    (s.setSlu x).setSlu y = s.setSlu y := rfl
@[simp] theorem State.setSlu_self (s : State) : s.setSlu s.slu = s := rfl
@[simp] theorem State.setOsu_setOsu (s : State) (x y : Osu) :
    (s.setOsu x).setOsu y = s.setOsu y := rfl
@[simp] theorem State.setOsu_self (s : State) : s.setOsu s.osu = s := rfl
@[simp] theorem State.setAls_setAls (s : State) (x y : Vector Link 4) :
    (s.setAls x).setAls y = s.setAls y := rfl
@[simp] theorem State.setAls_self (s : State) : s.setAls s.als = s := rfl
@[simp] theorem State.setCsu_setCsu (s : State) (x y : Csu) :
    (s.setCsu x).setCsu y = s.setCsu y := rfl
@[simp] theorem State.setCsu_self (s : State) : s.setCsu s.csu = s := rfl
@[simp] theorem State.setMrh_setMrh (s : State) (x y : Mrh) :
    (s.setMrh x).setMrh y = s.setMrh y := rfl
@[simp] theorem State.setMrh_self (s : State) : s.setMrh s.mrh = s := rfl
@[simp] theorem State.setSdu_setSdu (s : State) (x y : Sdu) :
    (s.setSdu x).setSdu y = s.setSdu y := rfl
@[simp] theorem State.setSdu_self (s : State) : s.setSdu s.sdu = s := rfl
@[simp] theorem State.setPending_setPending (s : State) (x y : List Instr) :
    (s.setPending x).setPending y = s.setPending y := rfl
@[simp] theorem State.setPending_self (s : State) : s.setPending s.pending = s := rfl
@[simp] theorem State.setWithin_setWithin (s : State) (x y : List (List Arrival)) :
    (s.setWithin x).setWithin y = s.setWithin y := rfl
@[simp] theorem State.setWithin_self (s : State) : s.setWithin s.within = s := rfl

end Sys2Proof.Machine
end

