-- ==== Sys2Proof/Laws/Flags.lean ====
section
/-! SUPPORT. Setting a flag changes the flag word alone, sets that flag, and clears none (R174). -/

namespace Sys2Proof.Machine

@[simp] theorem State.setFlag_keeps (s : State) (f : Flag) :
    (s.setFlag f).straps = s.straps ∧ (s.setFlag f).tables = s.tables ∧ (s.setFlag f).rpu = s.rpu ∧
    (s.setFlag f).sit = s.sit ∧ (s.setFlag f).opu = s.opu ∧ (s.setFlag f).bru = s.bru ∧
    (s.setFlag f).sgc = s.sgc ∧ (s.setFlag f).slu = s.slu ∧ (s.setFlag f).osu = s.osu ∧
    (s.setFlag f).als = s.als ∧ (s.setFlag f).csu = s.csu ∧ (s.setFlag f).mrh = s.mrh ∧
    (s.setFlag f).pending = s.pending ∧ (s.setFlag f).within = s.within := by
  simp [State.setFlag]

@[simp] theorem State.setFlag_sdu (s : State) (f : Flag) :
    (s.setFlag f).sdu.part = s.sdu.part ∧ (s.setFlag f).sdu.deferred = s.sdu.deferred ∧
    (s.setFlag f).sdu.reason = s.sdu.reason ∧ (s.setFlag f).sdu.cause = s.sdu.cause ∧
    (s.setFlag f).sdu.flags = s.sdu.flags ||| f.mask := by
  simp [State.setFlag]

@[simp] theorem State.setFlagIf_true (s : State) (f : Flag) : s.setFlagIf true f = s.setFlag f := rfl
@[simp] theorem State.setFlagIf_false (s : State) (f : Flag) : s.setFlagIf false f = s := rfl

@[simp] theorem State.setFlagIf_keeps (s : State) (c : Bool) (f : Flag) :
    (s.setFlagIf c f).straps = s.straps ∧ (s.setFlagIf c f).tables = s.tables ∧
    (s.setFlagIf c f).rpu = s.rpu ∧ (s.setFlagIf c f).sit = s.sit ∧
    (s.setFlagIf c f).opu = s.opu ∧ (s.setFlagIf c f).bru = s.bru ∧
    (s.setFlagIf c f).sgc = s.sgc ∧ (s.setFlagIf c f).slu = s.slu ∧
    (s.setFlagIf c f).osu = s.osu ∧ (s.setFlagIf c f).als = s.als ∧
    (s.setFlagIf c f).csu = s.csu ∧ (s.setFlagIf c f).mrh = s.mrh ∧
    (s.setFlagIf c f).pending = s.pending ∧
    (s.setFlagIf c f).within = s.within := by
  cases c <;> simp

@[simp] theorem State.setFlagIf_sdu (s : State) (c : Bool) (f : Flag) :
    (s.setFlagIf c f).sdu.part = s.sdu.part ∧ (s.setFlagIf c f).sdu.deferred = s.sdu.deferred ∧
    (s.setFlagIf c f).sdu.reason = s.sdu.reason ∧ (s.setFlagIf c f).sdu.cause = s.sdu.cause ∧
    (s.setFlagIf c f).sdu.flags = if c then s.sdu.flags ||| f.mask else s.sdu.flags := by
  cases c <;> simp

/-- Flag positions are distinct. -/
theorem Flag.bit_injective (f g : Flag) (h : f.bit = g.bit) : f = g := by
  revert h; cases f <;> cases g <;> simp [Flag.bit]

theorem Flag.bit_lt (f : Flag) : f.bit < 32 := by cases f <;> decide

/-- The mask of a flag has that flag's bit alone. -/
theorem Flag.mask_getLsbD (f g : Flag) : f.mask.getLsbD g.bit = decide (f = g) := by
  cases f <;> cases g <;> decide

/-- A flag after another is set (R174). -/
@[simp] theorem State.flag_setFlag (s : State) (f g : Flag) :
    (s.setFlag f).flag g = (s.flag g || decide (f = g)) := by
  simp [State.flag, Flag.mask_getLsbD]

@[simp] theorem State.flag_setFlagIf (s : State) (c : Bool) (f g : Flag) :
    (s.setFlagIf c f).flag g = (s.flag g || (c && decide (f = g))) := by
  cases c <;> simp

end Sys2Proof.Machine
end

