-- ==== Sys2Proof/Laws/FramesCache.lean ====
section
/-! SUPPORT. What the shared operations and the Segment Cache's operations leave as it stands. -/

namespace Sys2Proof.Machine

/-! ## Shared operations -/

@[simp] theorem State.setLink_keeps (s : State) (b : BogieId) (l : Link) :
    (s.setLink b l).straps = s.straps ∧
    (s.setLink b l).tables = s.tables ∧
    (s.setLink b l).rpu = s.rpu ∧
    (s.setLink b l).sit = s.sit ∧
    (s.setLink b l).opu = s.opu ∧
    (s.setLink b l).bru = s.bru ∧
    (s.setLink b l).sgc = s.sgc ∧
    (s.setLink b l).slu = s.slu ∧
    (s.setLink b l).osu = s.osu ∧
    (s.setLink b l).csu = s.csu ∧
    (s.setLink b l).mrh = s.mrh ∧
    (s.setLink b l).pending = s.pending ∧
    (s.setLink b l).within = s.within ∧
    (s.setLink b l).sdu = s.sdu := by
  simp [State.setLink]

@[simp] theorem State.setShaped_keeps (s : State) (c : ChannelId) (x : OsuChannel) :
    (s.setShaped c x).straps = s.straps ∧
    (s.setShaped c x).tables = s.tables ∧
    (s.setShaped c x).rpu = s.rpu ∧
    (s.setShaped c x).sit = s.sit ∧
    (s.setShaped c x).opu = s.opu ∧
    (s.setShaped c x).bru = s.bru ∧
    (s.setShaped c x).sgc = s.sgc ∧
    (s.setShaped c x).slu = s.slu ∧
    (s.setShaped c x).als = s.als ∧
    (s.setShaped c x).csu = s.csu ∧
    (s.setShaped c x).mrh = s.mrh ∧
    (s.setShaped c x).pending = s.pending ∧
    (s.setShaped c x).within = s.within ∧
    (s.setShaped c x).sdu = s.sdu := by
  simp [State.setShaped]

@[simp] theorem offerOther_keeps (s : State) (f : OtherFrame) :
    (offerOther s f).straps = s.straps ∧
    (offerOther s f).tables = s.tables ∧
    (offerOther s f).sit = s.sit ∧
    (offerOther s f).opu = s.opu ∧
    (offerOther s f).bru = s.bru ∧
    (offerOther s f).sgc = s.sgc ∧
    (offerOther s f).slu = s.slu ∧
    (offerOther s f).osu = s.osu ∧
    (offerOther s f).als = s.als ∧
    (offerOther s f).csu = s.csu ∧
    (offerOther s f).mrh = s.mrh ∧
    (offerOther s f).pending = s.pending ∧
    (offerOther s f).within = s.within ∧
    (offerOther s f).sdu.part = s.sdu.part ∧
    (offerOther s f).sdu.deferred = s.sdu.deferred ∧
    (offerOther s f).sdu.reason = s.sdu.reason ∧
    (offerOther s f).sdu.cause = s.sdu.cause := by
  simp only [offerOther]
  (repeat' split) <;> simp

@[simp] theorem offerCommand_keeps (s : State) (c : CommandFrame) :
    (offerCommand s c).straps = s.straps ∧
    (offerCommand s c).tables = s.tables ∧
    (offerCommand s c).sit = s.sit ∧
    (offerCommand s c).opu = s.opu ∧
    (offerCommand s c).bru = s.bru ∧
    (offerCommand s c).sgc = s.sgc ∧
    (offerCommand s c).slu = s.slu ∧
    (offerCommand s c).osu = s.osu ∧
    (offerCommand s c).als = s.als ∧
    (offerCommand s c).csu = s.csu ∧
    (offerCommand s c).mrh = s.mrh ∧
    (offerCommand s c).pending = s.pending ∧
    (offerCommand s c).within = s.within ∧
    (offerCommand s c).sdu.part = s.sdu.part ∧
    (offerCommand s c).sdu.deferred = s.sdu.deferred ∧
    (offerCommand s c).sdu.reason = s.sdu.reason ∧
    (offerCommand s c).sdu.cause = s.sdu.cause := by
  simp only [offerCommand]
  (repeat' split) <;> simp

@[simp] theorem withdrawAll_keeps (s : State) :
    (withdrawAll s).straps = s.straps ∧
    (withdrawAll s).tables = s.tables ∧
    (withdrawAll s).sit = s.sit ∧
    (withdrawAll s).opu = s.opu ∧
    (withdrawAll s).bru = s.bru ∧
    (withdrawAll s).sgc = s.sgc ∧
    (withdrawAll s).slu = s.slu ∧
    (withdrawAll s).osu = s.osu ∧
    (withdrawAll s).als = s.als ∧
    (withdrawAll s).csu = s.csu ∧
    (withdrawAll s).mrh = s.mrh ∧
    (withdrawAll s).pending = s.pending ∧
    (withdrawAll s).within = s.within ∧
    (withdrawAll s).sdu = s.sdu := by
  simp [withdrawAll]

@[simp] theorem withdrawBogie_keeps (s : State) (b : BogieId) :
    (withdrawBogie s b).straps = s.straps ∧
    (withdrawBogie s b).tables = s.tables ∧
    (withdrawBogie s b).sit = s.sit ∧
    (withdrawBogie s b).opu = s.opu ∧
    (withdrawBogie s b).bru = s.bru ∧
    (withdrawBogie s b).sgc = s.sgc ∧
    (withdrawBogie s b).slu = s.slu ∧
    (withdrawBogie s b).osu = s.osu ∧
    (withdrawBogie s b).als = s.als ∧
    (withdrawBogie s b).csu = s.csu ∧
    (withdrawBogie s b).mrh = s.mrh ∧
    (withdrawBogie s b).pending = s.pending ∧
    (withdrawBogie s b).within = s.within ∧
    (withdrawBogie s b).sdu = s.sdu := by
  simp [withdrawBogie]

@[simp] theorem freeFetch_keeps (s : State) (n : Nat) :
    (freeFetch s n).straps = s.straps ∧
    (freeFetch s n).tables = s.tables ∧
    (freeFetch s n).rpu = s.rpu ∧
    (freeFetch s n).sit = s.sit ∧
    (freeFetch s n).opu = s.opu ∧
    (freeFetch s n).bru = s.bru ∧
    (freeFetch s n).slu = s.slu ∧
    (freeFetch s n).osu = s.osu ∧
    (freeFetch s n).als = s.als ∧
    (freeFetch s n).csu = s.csu ∧
    (freeFetch s n).mrh = s.mrh ∧
    (freeFetch s n).pending = s.pending ∧
    (freeFetch s n).within = s.within ∧
    (freeFetch s n).sdu = s.sdu := by
  simp [freeFetch]

@[simp] theorem offerFetch_keeps (s : State) (n : Need) :
    (offerFetch s n).straps = s.straps ∧
    (offerFetch s n).tables = s.tables ∧
    (offerFetch s n).sit = s.sit ∧
    (offerFetch s n).opu = s.opu ∧
    (offerFetch s n).bru = s.bru ∧
    (offerFetch s n).slu = s.slu ∧
    (offerFetch s n).osu = s.osu ∧
    (offerFetch s n).als = s.als ∧
    (offerFetch s n).csu = s.csu ∧
    (offerFetch s n).mrh = s.mrh ∧
    (offerFetch s n).pending = s.pending ∧
    (offerFetch s n).within = s.within ∧
    (offerFetch s n).sdu.part = s.sdu.part ∧
    (offerFetch s n).sdu.deferred = s.sdu.deferred ∧
    (offerFetch s n).sdu.reason = s.sdu.reason ∧
    (offerFetch s n).sdu.cause = s.sdu.cause := by
  simp only [offerFetch]
  (repeat' split) <;> simp

@[simp] theorem makeNeed_keeps (s : State) (n : Need) :
    (makeNeed s n).straps = s.straps ∧
    (makeNeed s n).tables = s.tables ∧
    (makeNeed s n).sit = s.sit ∧
    (makeNeed s n).opu = s.opu ∧
    (makeNeed s n).bru = s.bru ∧
    (makeNeed s n).slu = s.slu ∧
    (makeNeed s n).osu = s.osu ∧
    (makeNeed s n).als = s.als ∧
    (makeNeed s n).csu = s.csu ∧
    (makeNeed s n).mrh = s.mrh ∧
    (makeNeed s n).pending = s.pending ∧
    (makeNeed s n).within = s.within ∧
    (makeNeed s n).sdu.part = s.sdu.part ∧
    (makeNeed s n).sdu.deferred = s.sdu.deferred ∧
    (makeNeed s n).sdu.reason = s.sdu.reason ∧
    (makeNeed s n).sdu.cause = s.sdu.cause := by
  simp only [makeNeed]
  (repeat' split) <;> simp

@[simp] theorem makeNeeds_keeps (s : State) (ns : List Need) :
    (makeNeeds s ns).straps = s.straps ∧
    (makeNeeds s ns).tables = s.tables ∧
    (makeNeeds s ns).sit = s.sit ∧
    (makeNeeds s ns).opu = s.opu ∧
    (makeNeeds s ns).bru = s.bru ∧
    (makeNeeds s ns).slu = s.slu ∧
    (makeNeeds s ns).osu = s.osu ∧
    (makeNeeds s ns).als = s.als ∧
    (makeNeeds s ns).csu = s.csu ∧
    (makeNeeds s ns).mrh = s.mrh ∧
    (makeNeeds s ns).pending = s.pending ∧
    (makeNeeds s ns).within = s.within ∧
    (makeNeeds s ns).sdu.part = s.sdu.part ∧
    (makeNeeds s ns).sdu.deferred = s.sdu.deferred ∧
    (makeNeeds s ns).sdu.reason = s.sdu.reason ∧
    (makeNeeds s ns).sdu.cause = s.sdu.cause := by
  unfold makeNeeds
  induction ns generalizing s with
  | nil => simp
  | cons n ns ih => simp [ih]

@[simp] theorem makeHeldNeeds_keeps (s : State) :
    (makeHeldNeeds s).straps = s.straps ∧
    (makeHeldNeeds s).tables = s.tables ∧
    (makeHeldNeeds s).sit = s.sit ∧
    (makeHeldNeeds s).opu = s.opu ∧
    (makeHeldNeeds s).bru = s.bru ∧
    (makeHeldNeeds s).slu = s.slu ∧
    (makeHeldNeeds s).osu = s.osu ∧
    (makeHeldNeeds s).als = s.als ∧
    (makeHeldNeeds s).csu = s.csu ∧
    (makeHeldNeeds s).mrh = s.mrh ∧
    (makeHeldNeeds s).pending = s.pending ∧
    (makeHeldNeeds s).within = s.within ∧
    (makeHeldNeeds s).sdu.part = s.sdu.part ∧
    (makeHeldNeeds s).sdu.deferred = s.sdu.deferred ∧
    (makeHeldNeeds s).sdu.reason = s.sdu.reason ∧
    (makeHeldNeeds s).sdu.cause = s.sdu.cause := by
  simp [makeHeldNeeds]

/-! ## Segment Cache -/

@[simp] theorem State.setCacheSet_keeps (s : State) (i : Fin 64) (c : CacheSet) :
    (s.setCacheSet i c).straps = s.straps ∧
    (s.setCacheSet i c).tables = s.tables ∧
    (s.setCacheSet i c).rpu = s.rpu ∧
    (s.setCacheSet i c).sit = s.sit ∧
    (s.setCacheSet i c).opu = s.opu ∧
    (s.setCacheSet i c).bru = s.bru ∧
    (s.setCacheSet i c).slu = s.slu ∧
    (s.setCacheSet i c).osu = s.osu ∧
    (s.setCacheSet i c).als = s.als ∧
    (s.setCacheSet i c).csu = s.csu ∧
    (s.setCacheSet i c).mrh = s.mrh ∧
    (s.setCacheSet i c).pending = s.pending ∧
    (s.setCacheSet i c).within = s.within ∧
    (s.setCacheSet i c).sdu = s.sdu := by
  simp [State.setCacheSet]

@[simp] theorem touchSegment_keeps (s : State) (n : Nat) :
    (touchSegment s n).straps = s.straps ∧
    (touchSegment s n).tables = s.tables ∧
    (touchSegment s n).rpu = s.rpu ∧
    (touchSegment s n).sit = s.sit ∧
    (touchSegment s n).opu = s.opu ∧
    (touchSegment s n).bru = s.bru ∧
    (touchSegment s n).slu = s.slu ∧
    (touchSegment s n).osu = s.osu ∧
    (touchSegment s n).als = s.als ∧
    (touchSegment s n).csu = s.csu ∧
    (touchSegment s n).mrh = s.mrh ∧
    (touchSegment s n).pending = s.pending ∧
    (touchSegment s n).within = s.within ∧
    (touchSegment s n).sdu = s.sdu := by
  simp only [touchSegment]
  (repeat' split) <;> simp

@[simp] theorem lookupHeader_keeps (s : State) (needs : Bool) (n : Nat) :
    ((lookupHeader needs s n).1).straps = s.straps ∧
    ((lookupHeader needs s n).1).tables = s.tables ∧
    ((lookupHeader needs s n).1).sit = s.sit ∧
    ((lookupHeader needs s n).1).opu = s.opu ∧
    ((lookupHeader needs s n).1).bru = s.bru ∧
    ((lookupHeader needs s n).1).slu = s.slu ∧
    ((lookupHeader needs s n).1).osu = s.osu ∧
    ((lookupHeader needs s n).1).als = s.als ∧
    ((lookupHeader needs s n).1).csu = s.csu ∧
    ((lookupHeader needs s n).1).mrh = s.mrh ∧
    ((lookupHeader needs s n).1).pending = s.pending ∧
    ((lookupHeader needs s n).1).within = s.within ∧
    ((lookupHeader needs s n).1).sdu.part = s.sdu.part ∧
    ((lookupHeader needs s n).1).sdu.deferred = s.sdu.deferred ∧
    ((lookupHeader needs s n).1).sdu.reason = s.sdu.reason ∧
    ((lookupHeader needs s n).1).sdu.cause = s.sdu.cause := by
  simp only [lookupHeader]
  (repeat' split) <;> simp

@[simp] theorem lookupBlock_keeps (s : State) (n : Nat) (k : Fin 8) :
    ((lookupBlock s n k).1).straps = s.straps ∧
    ((lookupBlock s n k).1).tables = s.tables ∧
    ((lookupBlock s n k).1).sit = s.sit ∧
    ((lookupBlock s n k).1).opu = s.opu ∧
    ((lookupBlock s n k).1).bru = s.bru ∧
    ((lookupBlock s n k).1).slu = s.slu ∧
    ((lookupBlock s n k).1).osu = s.osu ∧
    ((lookupBlock s n k).1).als = s.als ∧
    ((lookupBlock s n k).1).csu = s.csu ∧
    ((lookupBlock s n k).1).mrh = s.mrh ∧
    ((lookupBlock s n k).1).pending = s.pending ∧
    ((lookupBlock s n k).1).within = s.within ∧
    ((lookupBlock s n k).1).sdu.part = s.sdu.part ∧
    ((lookupBlock s n k).1).sdu.deferred = s.sdu.deferred ∧
    ((lookupBlock s n k).1).sdu.reason = s.sdu.reason ∧
    ((lookupBlock s n k).1).sdu.cause = s.sdu.cause := by
  simp only [lookupBlock]
  (repeat' split) <;> simp

@[simp] theorem writeLine_keeps (s : State) (i : Fin 64) (w : Fin 2) (l : Line) :
    (writeLine s i w l).straps = s.straps ∧
    (writeLine s i w l).tables = s.tables ∧
    (writeLine s i w l).rpu = s.rpu ∧
    (writeLine s i w l).sit = s.sit ∧
    (writeLine s i w l).opu = s.opu ∧
    (writeLine s i w l).bru = s.bru ∧
    (writeLine s i w l).slu = s.slu ∧
    (writeLine s i w l).osu = s.osu ∧
    (writeLine s i w l).als = s.als ∧
    (writeLine s i w l).csu = s.csu ∧
    (writeLine s i w l).mrh = s.mrh ∧
    (writeLine s i w l).pending = s.pending ∧
    (writeLine s i w l).within = s.within ∧
    (writeLine s i w l).sdu = s.sdu := by
  simp [writeLine]

@[simp] theorem deliverItems_keeps (s : State) (n : Nat) (mask : BitVec 8) :
    (deliverItems s n mask).straps = s.straps ∧
    (deliverItems s n mask).tables = s.tables ∧
    (deliverItems s n mask).rpu = s.rpu ∧
    (deliverItems s n mask).sit = s.sit ∧
    (deliverItems s n mask).opu = s.opu ∧
    (deliverItems s n mask).bru = s.bru ∧
    (deliverItems s n mask).slu = s.slu ∧
    (deliverItems s n mask).osu = s.osu ∧
    (deliverItems s n mask).als = s.als ∧
    (deliverItems s n mask).csu = s.csu ∧
    (deliverItems s n mask).mrh = s.mrh ∧
    (deliverItems s n mask).pending = s.pending ∧
    (deliverItems s n mask).within = s.within ∧
    (deliverItems s n mask).sdu = s.sdu := by
  simp [deliverItems]

@[simp] theorem fillPresent_keeps (s : State) (i : Fin 64) (w : Fin 2) (held : Option Content) (f : SegmentFill) :
    (fillPresent s i w held f).straps = s.straps ∧
    (fillPresent s i w held f).tables = s.tables ∧
    (fillPresent s i w held f).rpu = s.rpu ∧
    (fillPresent s i w held f).sit = s.sit ∧
    (fillPresent s i w held f).opu = s.opu ∧
    (fillPresent s i w held f).bru = s.bru ∧
    (fillPresent s i w held f).slu = s.slu ∧
    (fillPresent s i w held f).osu = s.osu ∧
    (fillPresent s i w held f).als = s.als ∧
    (fillPresent s i w held f).csu = s.csu ∧
    (fillPresent s i w held f).mrh = s.mrh ∧
    (fillPresent s i w held f).pending = s.pending ∧
    (fillPresent s i w held f).within = s.within ∧
    (fillPresent s i w held f).sdu.part = s.sdu.part ∧
    (fillPresent s i w held f).sdu.deferred = s.sdu.deferred ∧
    (fillPresent s i w held f).sdu.reason = s.sdu.reason ∧
    (fillPresent s i w held f).sdu.cause = s.sdu.cause := by
  simp [fillPresent]

@[simp] theorem fillAbsent_keeps (s : State) (i : Fin 64) (f : SegmentFill) :
    (fillAbsent s i f).straps = s.straps ∧
    (fillAbsent s i f).tables = s.tables ∧
    (fillAbsent s i f).rpu = s.rpu ∧
    (fillAbsent s i f).sit = s.sit ∧
    (fillAbsent s i f).opu = s.opu ∧
    (fillAbsent s i f).bru = s.bru ∧
    (fillAbsent s i f).slu = s.slu ∧
    (fillAbsent s i f).osu = s.osu ∧
    (fillAbsent s i f).als = s.als ∧
    (fillAbsent s i f).csu = s.csu ∧
    (fillAbsent s i f).mrh = s.mrh ∧
    (fillAbsent s i f).pending = s.pending ∧
    (fillAbsent s i f).within = s.within ∧
    (fillAbsent s i f).sdu.part = s.sdu.part ∧
    (fillAbsent s i f).sdu.deferred = s.sdu.deferred ∧
    (fillAbsent s i f).sdu.reason = s.sdu.reason ∧
    (fillAbsent s i f).sdu.cause = s.sdu.cause := by
  simp only [fillAbsent]
  (repeat' split) <;> simp

@[simp] theorem placeFill_keeps (s : State) (f : SegmentFill) :
    (placeFill s f).straps = s.straps ∧
    (placeFill s f).tables = s.tables ∧
    (placeFill s f).rpu = s.rpu ∧
    (placeFill s f).sit = s.sit ∧
    (placeFill s f).opu = s.opu ∧
    (placeFill s f).bru = s.bru ∧
    (placeFill s f).slu = s.slu ∧
    (placeFill s f).osu = s.osu ∧
    (placeFill s f).als = s.als ∧
    (placeFill s f).csu = s.csu ∧
    (placeFill s f).mrh = s.mrh ∧
    (placeFill s f).pending = s.pending ∧
    (placeFill s f).within = s.within ∧
    (placeFill s f).sdu.part = s.sdu.part ∧
    (placeFill s f).sdu.deferred = s.sdu.deferred ∧
    (placeFill s f).sdu.reason = s.sdu.reason ∧
    (placeFill s f).sdu.cause = s.sdu.cause := by
  simp only [placeFill]
  (repeat' split) <;> simp

@[simp] theorem handleSegment_keeps (s : State) (payload : List Word) :
    (handleSegment s payload).straps = s.straps ∧
    (handleSegment s payload).tables = s.tables ∧
    (handleSegment s payload).rpu = s.rpu ∧
    (handleSegment s payload).sit = s.sit ∧
    (handleSegment s payload).opu = s.opu ∧
    (handleSegment s payload).bru = s.bru ∧
    (handleSegment s payload).slu = s.slu ∧
    (handleSegment s payload).osu = s.osu ∧
    (handleSegment s payload).als = s.als ∧
    (handleSegment s payload).csu = s.csu ∧
    (handleSegment s payload).mrh = s.mrh ∧
    (handleSegment s payload).pending = s.pending ∧
    (handleSegment s payload).within = s.within ∧
    (handleSegment s payload).sdu.part = s.sdu.part ∧
    (handleSegment s payload).sdu.deferred = s.sdu.deferred ∧
    (handleSegment s payload).sdu.reason = s.sdu.reason ∧
    (handleSegment s payload).sdu.cause = s.sdu.cause := by
  simp only [handleSegment]
  (repeat' split) <;> simp

@[simp] theorem timeoutFetch_keeps (s : State) (n : Nat) :
    (timeoutFetch s n).straps = s.straps ∧
    (timeoutFetch s n).tables = s.tables ∧
    (timeoutFetch s n).rpu = s.rpu ∧
    (timeoutFetch s n).sit = s.sit ∧
    (timeoutFetch s n).opu = s.opu ∧
    (timeoutFetch s n).bru = s.bru ∧
    (timeoutFetch s n).slu = s.slu ∧
    (timeoutFetch s n).osu = s.osu ∧
    (timeoutFetch s n).als = s.als ∧
    (timeoutFetch s n).csu = s.csu ∧
    (timeoutFetch s n).mrh = s.mrh ∧
    (timeoutFetch s n).pending = s.pending ∧
    (timeoutFetch s n).within = s.within ∧
    (timeoutFetch s n).sdu.part = s.sdu.part ∧
    (timeoutFetch s n).sdu.deferred = s.sdu.deferred ∧
    (timeoutFetch s n).sdu.reason = s.sdu.reason ∧
    (timeoutFetch s n).sdu.cause = s.sdu.cause := by
  simp only [timeoutFetch]
  (repeat' split) <;> simp

theorem timeoutFetches_keeps (s : State) (es : List FetchEntry) :
    let t := es.foldl (fun t e => timeoutFetch t e.segment) s
    t.straps = s.straps ∧ t.tables = s.tables ∧ t.rpu = s.rpu ∧ t.sit = s.sit ∧ t.opu = s.opu ∧
    t.bru = s.bru ∧ t.slu = s.slu ∧ t.osu = s.osu ∧ t.als = s.als ∧ t.csu = s.csu ∧
    t.mrh = s.mrh ∧ t.pending = s.pending ∧ t.within = s.within ∧ t.sdu.part = s.sdu.part ∧
    t.sdu.deferred = s.sdu.deferred ∧ t.sdu.reason = s.sdu.reason ∧ t.sdu.cause = s.sdu.cause := by
  induction es generalizing s with
  | nil => simp
  | cons e es ih => simpa using ih (timeoutFetch s e.segment)

@[simp] theorem ageFetches_keeps (s : State) :
    (ageFetches s).straps = s.straps ∧
    (ageFetches s).tables = s.tables ∧
    (ageFetches s).rpu = s.rpu ∧
    (ageFetches s).sit = s.sit ∧
    (ageFetches s).opu = s.opu ∧
    (ageFetches s).bru = s.bru ∧
    (ageFetches s).slu = s.slu ∧
    (ageFetches s).osu = s.osu ∧
    (ageFetches s).als = s.als ∧
    (ageFetches s).csu = s.csu ∧
    (ageFetches s).mrh = s.mrh ∧
    (ageFetches s).pending = s.pending ∧
    (ageFetches s).within = s.within ∧
    (ageFetches s).sdu.part = s.sdu.part ∧
    (ageFetches s).sdu.deferred = s.sdu.deferred ∧
    (ageFetches s).sdu.reason = s.sdu.reason ∧
    (ageFetches s).sdu.cause = s.sdu.cause := by
  have h := timeoutFetches_keeps
    (s.setSgc { s.sgc with outstanding := s.sgc.outstanding.map fun e => { e with age := e.age + 1 } })
    (s.sgc.outstanding.map fun e => { e with age := e.age + 1 })
  simpa [ageFetches] using h

@[simp] theorem handleReturnedFetch_keeps (s : State) (n : Option Nat) :
    (handleReturnedFetch s n).straps = s.straps ∧
    (handleReturnedFetch s n).tables = s.tables ∧
    (handleReturnedFetch s n).rpu = s.rpu ∧
    (handleReturnedFetch s n).sit = s.sit ∧
    (handleReturnedFetch s n).opu = s.opu ∧
    (handleReturnedFetch s n).bru = s.bru ∧
    (handleReturnedFetch s n).slu = s.slu ∧
    (handleReturnedFetch s n).osu = s.osu ∧
    (handleReturnedFetch s n).als = s.als ∧
    (handleReturnedFetch s n).csu = s.csu ∧
    (handleReturnedFetch s n).mrh = s.mrh ∧
    (handleReturnedFetch s n).pending = s.pending ∧
    (handleReturnedFetch s n).within = s.within ∧
    (handleReturnedFetch s n).sdu.part = s.sdu.part ∧
    (handleReturnedFetch s n).sdu.deferred = s.sdu.deferred ∧
    (handleReturnedFetch s n).sdu.reason = s.sdu.reason ∧
    (handleReturnedFetch s n).sdu.cause = s.sdu.cause := by
  simp only [handleReturnedFetch]
  (repeat' split) <;> simp

@[simp] theorem invalidateSegment_keeps (s : State) (n : Nat) :
    (invalidateSegment s n).straps = s.straps ∧
    (invalidateSegment s n).tables = s.tables ∧
    (invalidateSegment s n).rpu = s.rpu ∧
    (invalidateSegment s n).sit = s.sit ∧
    (invalidateSegment s n).opu = s.opu ∧
    (invalidateSegment s n).bru = s.bru ∧
    (invalidateSegment s n).slu = s.slu ∧
    (invalidateSegment s n).osu = s.osu ∧
    (invalidateSegment s n).als = s.als ∧
    (invalidateSegment s n).csu = s.csu ∧
    (invalidateSegment s n).mrh = s.mrh ∧
    (invalidateSegment s n).pending = s.pending ∧
    (invalidateSegment s n).within = s.within ∧
    (invalidateSegment s n).sdu = s.sdu := by
  simp only [invalidateSegment]
  (repeat' split) <;> simp

@[simp] theorem invalidateAll_keeps (s : State) :
    (invalidateAll s).straps = s.straps ∧
    (invalidateAll s).tables = s.tables ∧
    (invalidateAll s).rpu = s.rpu ∧
    (invalidateAll s).sit = s.sit ∧
    (invalidateAll s).opu = s.opu ∧
    (invalidateAll s).bru = s.bru ∧
    (invalidateAll s).slu = s.slu ∧
    (invalidateAll s).osu = s.osu ∧
    (invalidateAll s).als = s.als ∧
    (invalidateAll s).csu = s.csu ∧
    (invalidateAll s).mrh = s.mrh ∧
    (invalidateAll s).pending = s.pending ∧
    (invalidateAll s).within = s.within ∧
    (invalidateAll s).sdu = s.sdu := by
  simp [invalidateAll]

end Sys2Proof.Machine
end

