-- ==== Sys2Proof/Laws/Requests.lean ====
section
/-! SUPPORT. What an offer to the queue and the path of a request can do, said once, so that proofs about
commands cite it and unfold none of them. -/

namespace Sys2Proof.Machine

/-! ## Offers (R160, R161) -/

theorem offerOther_room (s : State) (f : OtherFrame) (h : queueLength s.rpu < 12) :
    offerOther s f = s.setRpu { s.rpu with others := s.rpu.others ++ [f] } := by
  simp [offerOther, queueHasRoom, Config.queueCapacity, h]

theorem offerOther_full (s : State) (f : OtherFrame) (h : 12 ≤ queueLength s.rpu) :
    offerOther s f = s.setFlag .txqFull := by
  simp [offerOther, queueHasRoom, Config.queueCapacity, Nat.not_lt.mpr h]

theorem offerCommand_waits (s : State) (c : CommandFrame) (h : commandWaits s c.bogie = true) :
    offerCommand s c = s.setRpu { s.rpu with
      commands := s.rpu.commands.map fun w => if w.bogie = c.bogie then c else w } := by
  simp [offerCommand, h]

theorem offerCommand_room (s : State) (c : CommandFrame) (h : commandWaits s c.bogie = false)
    (hr : queueLength s.rpu < 12) :
    offerCommand s c = s.setRpu { s.rpu with commands := s.rpu.commands ++ [c] } := by
  simp [offerCommand, h, queueHasRoom, Config.queueCapacity, hr]

theorem offerCommand_full (s : State) (c : CommandFrame) (h : commandWaits s c.bogie = false)
    (hr : 12 ≤ queueLength s.rpu) : offerCommand s c = s.setFlag .txqFull := by
  simp [offerCommand, h, queueHasRoom, Config.queueCapacity, Nat.not_lt.mpr hr]

/-- Whether a COMMAND waits for a bogie, said of the queue. -/
theorem commandWaits_iff (s : State) (b : BogieId) :
    commandWaits s b = true ↔ ∃ c ∈ s.rpu.commands, c.bogie = b := by
  simp [commandWaits]

/-! ## Requests (R180, R181, R189, R148) -/

@[simp] theorem cancelPrepare_keeps (s : State) :
    (cancelPrepare s).straps = s.straps ∧ (cancelPrepare s).tables = s.tables ∧
    (cancelPrepare s).rpu = s.rpu ∧ (cancelPrepare s).sit = s.sit ∧
    (cancelPrepare s).opu = s.opu ∧ (cancelPrepare s).bru = s.bru ∧
    (cancelPrepare s).sgc = s.sgc ∧ (cancelPrepare s).slu = s.slu ∧
    (cancelPrepare s).osu = s.osu ∧ (cancelPrepare s).als = s.als ∧
    (cancelPrepare s).csu = s.csu ∧ (cancelPrepare s).sdu = s.sdu ∧
    (cancelPrepare s).pending = s.pending ∧ (cancelPrepare s).within = s.within ∧
    (cancelPrepare s).mrh = { s.mrh with prepare := none } := by
  simp [cancelPrepare]

/-- A REPLY that answers no confirmed reset changes the transmit queue and the flags alone (R181). -/
theorem sendReply_keeps (s : State) (o : Origin) (n : Nat) (r : Reply) (h : r.confirms = none) :
    (sendReply s o n r).straps = s.straps ∧ (sendReply s o n r).tables = s.tables ∧
    (sendReply s o n r).sit = s.sit ∧ (sendReply s o n r).opu = s.opu ∧
    (sendReply s o n r).bru = s.bru ∧ (sendReply s o n r).sgc = s.sgc ∧
    (sendReply s o n r).slu = s.slu ∧ (sendReply s o n r).osu = s.osu ∧
    (sendReply s o n r).als = s.als ∧ (sendReply s o n r).csu = s.csu ∧
    (sendReply s o n r).mrh = s.mrh ∧ (sendReply s o n r).pending = s.pending ∧
    (sendReply s o n r).within = s.within ∧
    (sendReply s o n r).sdu.part = s.sdu.part ∧
    (sendReply s o n r).sdu.deferred = s.sdu.deferred ∧
    (sendReply s o n r).sdu.reason = s.sdu.reason ∧
    (sendReply s o n r).sdu.cause = s.sdu.cause := by
  simp only [sendReply, h]
  split <;> simp

/-- A keep-alive changes the supervision timer and the re-arm indicator alone (R149, R151). -/
@[simp] theorem keepAlive_keeps (s : State) :
    (keepAlive s).straps = s.straps ∧
    (keepAlive s).tables = s.tables ∧
    (keepAlive s).rpu = s.rpu ∧
    (keepAlive s).sit = s.sit ∧
    (keepAlive s).opu = s.opu ∧
    (keepAlive s).bru = s.bru ∧
    (keepAlive s).sgc = s.sgc ∧
    (keepAlive s).slu = s.slu ∧
    (keepAlive s).osu = s.osu ∧
    (keepAlive s).als = s.als ∧
    (keepAlive s).mrh = s.mrh ∧
    (keepAlive s).pending = s.pending ∧
    (keepAlive s).within = s.within ∧
    (keepAlive s).sdu = s.sdu ∧
    (keepAlive s).csu.cycle = s.csu.cycle ∧
    (keepAlive s).csu.substitutes = s.csu.substitutes ∧
    (keepAlive s).csu.running = s.csu.running ∧
    (keepAlive s).csu.awaiting = s.csu.awaiting ∧
    (keepAlive s).csu.endReport = s.csu.endReport ∧
    (keepAlive s).csu.lastNumber = s.csu.lastNumber ∧
    (keepAlive s).csu.standbyStart = s.csu.standbyStart ∧
    (keepAlive s).csu.substTimer = s.csu.substTimer ∧
    (keepAlive s).csu.echoLimit = s.csu.echoLimit := by
  simp only [keepAlive]
  (repeat' split) <;> simp

/-- A keep-alive by management changes the supervision timer and the re-arm indicator alone (R148). -/
@[simp] theorem managementKeepAlive_keeps (s : State) :
    (managementKeepAlive s).straps = s.straps ∧ (managementKeepAlive s).tables = s.tables ∧
    (managementKeepAlive s).rpu = s.rpu ∧ (managementKeepAlive s).sit = s.sit ∧
    (managementKeepAlive s).opu = s.opu ∧ (managementKeepAlive s).bru = s.bru ∧
    (managementKeepAlive s).sgc = s.sgc ∧ (managementKeepAlive s).slu = s.slu ∧
    (managementKeepAlive s).osu = s.osu ∧ (managementKeepAlive s).als = s.als ∧
    (managementKeepAlive s).mrh = s.mrh ∧ (managementKeepAlive s).pending = s.pending ∧
    (managementKeepAlive s).within = s.within ∧
    (managementKeepAlive s).sdu = s.sdu ∧
    (managementKeepAlive s).csu.cycle = s.csu.cycle ∧
    (managementKeepAlive s).csu.substitutes = s.csu.substitutes ∧
    (managementKeepAlive s).csu.running = s.csu.running ∧
    (managementKeepAlive s).csu.awaiting = s.csu.awaiting ∧
    (managementKeepAlive s).csu.endReport = s.csu.endReport ∧
    (managementKeepAlive s).csu.lastNumber = s.csu.lastNumber ∧
    (managementKeepAlive s).csu.standbyStart = s.csu.standbyStart ∧
    (managementKeepAlive s).csu.substTimer = s.csu.substTimer ∧
    (managementKeepAlive s).csu.echoLimit = s.csu.echoLimit := by
  simp only [managementKeepAlive]
  split <;> simp

/-- An accepted request is its handler's work on the state without the held prepare, then its REPLY, then
its keep-alive. -/
theorem manage_accepted (s : State) (o : Origin) (n : Nat) (g : State → State × Reply)
    (h : accepts s o n = true) :
    manage s o n g = managementKeepAlive
      (sendReply (g (cancelPrepare s)).1 o n (g (cancelPrepare s)).2) := by
  simp [manage, h]

theorem manage_refused (s : State) (o : Origin) (n : Nat) (g : State → State × Reply)
    (h : accepts s o n = false) : manage s o n g = s := by
  simp [manage, h]

end Sys2Proof.Machine
end

