-- ==== Sys2Proof/Laws/FramesWithin.lean ====
section
/-! SUPPORT. What the requests of the route queue, the events between two reads and the forward walk leave as it
stands. -/

namespace Sys2Proof.Machine

/-! ## Requests of the route queue -/

@[simp] theorem appendRoute_keeps (s : State) (count : Nat) (data : List Word) :
    ((appendRoute count data s).1).straps = s.straps ∧
    ((appendRoute count data s).1).tables = s.tables ∧
    ((appendRoute count data s).1).rpu = s.rpu ∧
    ((appendRoute count data s).1).sit = s.sit ∧
    ((appendRoute count data s).1).bru = s.bru ∧
    ((appendRoute count data s).1).sgc = s.sgc ∧
    ((appendRoute count data s).1).slu = s.slu ∧
    ((appendRoute count data s).1).osu = s.osu ∧
    ((appendRoute count data s).1).als = s.als ∧
    ((appendRoute count data s).1).csu = s.csu ∧
    ((appendRoute count data s).1).mrh = s.mrh ∧
    ((appendRoute count data s).1).pending = s.pending ∧
    ((appendRoute count data s).1).within = s.within ∧
    ((appendRoute count data s).1).sdu = s.sdu ∧
    ((appendRoute count data s).1).opu.lastDistance = s.opu.lastDistance ∧
    ((appendRoute count data s).1).opu.hold = s.opu.hold ∧
    ((appendRoute count data s).1).opu.history = s.opu.history ∧
    ((appendRoute count data s).1).opu.position = s.opu.position ∧
    ((appendRoute count data s).1).opu.trail = s.opu.trail ∧
    ((appendRoute count data s).1).opu.report = s.opu.report ∧
    ((appendRoute count data s).1).opu.updateDue = s.opu.updateDue := by
  simp only [appendRoute]
  split <;> simp [refuseRange]

@[simp] theorem clearRoute_keeps (s : State) :
    ((clearRoute s).1).straps = s.straps ∧
    ((clearRoute s).1).tables = s.tables ∧
    ((clearRoute s).1).rpu = s.rpu ∧
    ((clearRoute s).1).sit = s.sit ∧
    ((clearRoute s).1).bru = s.bru ∧
    ((clearRoute s).1).sgc = s.sgc ∧
    ((clearRoute s).1).slu = s.slu ∧
    ((clearRoute s).1).osu = s.osu ∧
    ((clearRoute s).1).als = s.als ∧
    ((clearRoute s).1).csu = s.csu ∧
    ((clearRoute s).1).mrh = s.mrh ∧
    ((clearRoute s).1).pending = s.pending ∧
    ((clearRoute s).1).within = s.within ∧
    ((clearRoute s).1).sdu = s.sdu ∧
    ((clearRoute s).1).opu.lastDistance = s.opu.lastDistance ∧
    ((clearRoute s).1).opu.hold = s.opu.hold ∧
    ((clearRoute s).1).opu.history = s.opu.history ∧
    ((clearRoute s).1).opu.position = s.opu.position ∧
    ((clearRoute s).1).opu.trail = s.opu.trail ∧
    ((clearRoute s).1).opu.report = s.opu.report ∧
    ((clearRoute s).1).opu.updateDue = s.opu.updateDue := by
  simp [clearRoute]

@[simp] theorem withoutData_clearRoute_keeps (s : State) (data : List Word) :
    ((withoutData clearRoute data s).1).straps = s.straps ∧
    ((withoutData clearRoute data s).1).tables = s.tables ∧
    ((withoutData clearRoute data s).1).rpu = s.rpu ∧
    ((withoutData clearRoute data s).1).sit = s.sit ∧
    ((withoutData clearRoute data s).1).bru = s.bru ∧
    ((withoutData clearRoute data s).1).sgc = s.sgc ∧
    ((withoutData clearRoute data s).1).slu = s.slu ∧
    ((withoutData clearRoute data s).1).osu = s.osu ∧
    ((withoutData clearRoute data s).1).als = s.als ∧
    ((withoutData clearRoute data s).1).csu = s.csu ∧
    ((withoutData clearRoute data s).1).mrh = s.mrh ∧
    ((withoutData clearRoute data s).1).pending = s.pending ∧
    ((withoutData clearRoute data s).1).within = s.within ∧
    ((withoutData clearRoute data s).1).sdu = s.sdu ∧
    ((withoutData clearRoute data s).1).opu.lastDistance = s.opu.lastDistance ∧
    ((withoutData clearRoute data s).1).opu.hold = s.opu.hold ∧
    ((withoutData clearRoute data s).1).opu.history = s.opu.history ∧
    ((withoutData clearRoute data s).1).opu.position = s.opu.position ∧
    ((withoutData clearRoute data s).1).opu.trail = s.opu.trail ∧
    ((withoutData clearRoute data s).1).opu.report = s.opu.report ∧
    ((withoutData clearRoute data s).1).opu.updateDue = s.opu.updateDue := by
  simp only [withoutData]
  split <;> simp [refuseRange]

@[simp] theorem appendRoute_reply (s : State) (count : Nat) (data : List Word) :
    (appendRoute count data s).2.confirms = none := by
  simp only [appendRoute]
  split <;> rfl

@[simp] theorem clearRoute_reply (s : State) (data : List Word) :
    (withoutData clearRoute data s).2.confirms = none := by
  simp only [withoutData]
  split <;> rfl

/-! ## What comes between two reads -/

@[simp] theorem takeArrival_keeps (s : State) (a : Arrival) :
    (takeArrival s a).straps = s.straps ∧
    (takeArrival s a).tables = s.tables ∧
    (takeArrival s a).sit = s.sit ∧
    (takeArrival s a).bru = s.bru ∧
    (takeArrival s a).slu = s.slu ∧
    (takeArrival s a).osu = s.osu ∧
    (takeArrival s a).als = s.als ∧
    (takeArrival s a).pending = s.pending ∧
    (takeArrival s a).within = s.within ∧
    (takeArrival s a).sdu.part = s.sdu.part ∧
    (takeArrival s a).sdu.deferred = s.sdu.deferred ∧
    (takeArrival s a).sdu.reason = s.sdu.reason ∧
    (takeArrival s a).sdu.cause = s.sdu.cause ∧
    (takeArrival s a).opu.lastDistance = s.opu.lastDistance ∧
    (takeArrival s a).opu.hold = s.opu.hold ∧
    (takeArrival s a).opu.history = s.opu.history ∧
    (takeArrival s a).opu.position = s.opu.position ∧
    (takeArrival s a).opu.trail = s.opu.trail ∧
    (takeArrival s a).opu.report = s.opu.report ∧
    (takeArrival s a).opu.updateDue = s.opu.updateDue ∧
    (takeArrival s a).mrh.posted = s.mrh.posted ∧
    (takeArrival s a).mrh.confirmed = s.mrh.confirmed ∧
    (takeArrival s a).csu.cycle = s.csu.cycle ∧
    (takeArrival s a).csu.substitutes = s.csu.substitutes ∧
    (takeArrival s a).csu.running = s.csu.running ∧
    (takeArrival s a).csu.awaiting = s.csu.awaiting ∧
    (takeArrival s a).csu.endReport = s.csu.endReport ∧
    (takeArrival s a).csu.lastNumber = s.csu.lastNumber ∧
    (takeArrival s a).csu.standbyStart = s.csu.standbyStart ∧
    (takeArrival s a).csu.substTimer = s.csu.substTimer ∧
    (takeArrival s a).csu.echoLimit = s.csu.echoLimit := by
  cases a with
  | segment f =>
    simp only [takeArrival]
    split <;> simp
  | routeAppend o count data =>
    simp only [takeArrival, manage]
    split
    · have h := sendReply_keeps (appendRoute count.toNat data (cancelPrepare s)).1 o 6
        (appendRoute count.toNat data (cancelPrepare s)).2 (by simp)
      simp [h]
    · simp
  | routeClear o data =>
    simp only [takeArrival, manage]
    split
    · have h := sendReply_keeps (withoutData clearRoute data (cancelPrepare s)).1 o 7
        (withoutData clearRoute data (cancelPrepare s)).2 (by simp)
      simp [h]
    · simp

@[simp] theorem takeArrivals_keeps (s : State) (as : List Arrival) :
    (as.foldl takeArrival s).straps = s.straps ∧
    (as.foldl takeArrival s).tables = s.tables ∧
    (as.foldl takeArrival s).sit = s.sit ∧
    (as.foldl takeArrival s).bru = s.bru ∧
    (as.foldl takeArrival s).slu = s.slu ∧
    (as.foldl takeArrival s).osu = s.osu ∧
    (as.foldl takeArrival s).als = s.als ∧
    (as.foldl takeArrival s).pending = s.pending ∧
    (as.foldl takeArrival s).within = s.within ∧
    (as.foldl takeArrival s).sdu.part = s.sdu.part ∧
    (as.foldl takeArrival s).sdu.deferred = s.sdu.deferred ∧
    (as.foldl takeArrival s).sdu.reason = s.sdu.reason ∧
    (as.foldl takeArrival s).sdu.cause = s.sdu.cause ∧
    (as.foldl takeArrival s).opu.lastDistance = s.opu.lastDistance ∧
    (as.foldl takeArrival s).opu.hold = s.opu.hold ∧
    (as.foldl takeArrival s).opu.history = s.opu.history ∧
    (as.foldl takeArrival s).opu.position = s.opu.position ∧
    (as.foldl takeArrival s).opu.trail = s.opu.trail ∧
    (as.foldl takeArrival s).opu.report = s.opu.report ∧
    (as.foldl takeArrival s).opu.updateDue = s.opu.updateDue ∧
    (as.foldl takeArrival s).mrh.posted = s.mrh.posted ∧
    (as.foldl takeArrival s).mrh.confirmed = s.mrh.confirmed ∧
    (as.foldl takeArrival s).csu.cycle = s.csu.cycle ∧
    (as.foldl takeArrival s).csu.substitutes = s.csu.substitutes ∧
    (as.foldl takeArrival s).csu.running = s.csu.running ∧
    (as.foldl takeArrival s).csu.awaiting = s.csu.awaiting ∧
    (as.foldl takeArrival s).csu.endReport = s.csu.endReport ∧
    (as.foldl takeArrival s).csu.lastNumber = s.csu.lastNumber ∧
    (as.foldl takeArrival s).csu.standbyStart = s.csu.standbyStart ∧
    (as.foldl takeArrival s).csu.substTimer = s.csu.substTimer ∧
    (as.foldl takeArrival s).csu.echoLimit = s.csu.echoLimit := by
  induction as generalizing s with
  | nil => simp
  | cons a as ih => simp [ih]

@[simp] theorem takeWithin_keeps (s : State) :
    (takeWithin s).straps = s.straps ∧
    (takeWithin s).tables = s.tables ∧
    (takeWithin s).sit = s.sit ∧
    (takeWithin s).bru = s.bru ∧
    (takeWithin s).slu = s.slu ∧
    (takeWithin s).osu = s.osu ∧
    (takeWithin s).als = s.als ∧
    (takeWithin s).pending = s.pending ∧
    (takeWithin s).sdu.part = s.sdu.part ∧
    (takeWithin s).sdu.deferred = s.sdu.deferred ∧
    (takeWithin s).sdu.reason = s.sdu.reason ∧
    (takeWithin s).sdu.cause = s.sdu.cause ∧
    (takeWithin s).opu.lastDistance = s.opu.lastDistance ∧
    (takeWithin s).opu.hold = s.opu.hold ∧
    (takeWithin s).opu.history = s.opu.history ∧
    (takeWithin s).opu.position = s.opu.position ∧
    (takeWithin s).opu.trail = s.opu.trail ∧
    (takeWithin s).opu.report = s.opu.report ∧
    (takeWithin s).opu.updateDue = s.opu.updateDue ∧
    (takeWithin s).mrh.posted = s.mrh.posted ∧
    (takeWithin s).mrh.confirmed = s.mrh.confirmed ∧
    (takeWithin s).csu.cycle = s.csu.cycle ∧
    (takeWithin s).csu.substitutes = s.csu.substitutes ∧
    (takeWithin s).csu.running = s.csu.running ∧
    (takeWithin s).csu.awaiting = s.csu.awaiting ∧
    (takeWithin s).csu.endReport = s.csu.endReport ∧
    (takeWithin s).csu.lastNumber = s.csu.lastNumber ∧
    (takeWithin s).csu.standbyStart = s.csu.standbyStart ∧
    (takeWithin s).csu.substTimer = s.csu.substTimer ∧
    (takeWithin s).csu.echoLimit = s.csu.echoLimit := by
  simp only [takeWithin]
  (repeat' split) <;> simp

/-- Nothing comes before the next read. -/
@[simp] theorem takeWithin_nil (s : State) (h : s.within = []) : takeWithin s = s := by
  simp [takeWithin, h]

@[simp] theorem steeringHeader_keeps (s : State) (n : Nat) :
    ((steeringHeader s n).1).straps = s.straps ∧
    ((steeringHeader s n).1).tables = s.tables ∧
    ((steeringHeader s n).1).sit = s.sit ∧
    ((steeringHeader s n).1).bru = s.bru ∧
    ((steeringHeader s n).1).slu = s.slu ∧
    ((steeringHeader s n).1).osu = s.osu ∧
    ((steeringHeader s n).1).als = s.als ∧
    ((steeringHeader s n).1).pending = s.pending ∧
    ((steeringHeader s n).1).sdu.part = s.sdu.part ∧
    ((steeringHeader s n).1).sdu.deferred = s.sdu.deferred ∧
    ((steeringHeader s n).1).sdu.reason = s.sdu.reason ∧
    ((steeringHeader s n).1).sdu.cause = s.sdu.cause ∧
    ((steeringHeader s n).1).opu.lastDistance = s.opu.lastDistance ∧
    ((steeringHeader s n).1).opu.hold = s.opu.hold ∧
    ((steeringHeader s n).1).opu.history = s.opu.history ∧
    ((steeringHeader s n).1).opu.position = s.opu.position ∧
    ((steeringHeader s n).1).opu.trail = s.opu.trail ∧
    ((steeringHeader s n).1).opu.report = s.opu.report ∧
    ((steeringHeader s n).1).opu.updateDue = s.opu.updateDue ∧
    ((steeringHeader s n).1).mrh.posted = s.mrh.posted ∧
    ((steeringHeader s n).1).mrh.confirmed = s.mrh.confirmed ∧
    ((steeringHeader s n).1).csu.cycle = s.csu.cycle ∧
    ((steeringHeader s n).1).csu.substitutes = s.csu.substitutes ∧
    ((steeringHeader s n).1).csu.running = s.csu.running ∧
    ((steeringHeader s n).1).csu.awaiting = s.csu.awaiting ∧
    ((steeringHeader s n).1).csu.endReport = s.csu.endReport ∧
    ((steeringHeader s n).1).csu.lastNumber = s.csu.lastNumber ∧
    ((steeringHeader s n).1).csu.standbyStart = s.csu.standbyStart ∧
    ((steeringHeader s n).1).csu.substTimer = s.csu.substTimer ∧
    ((steeringHeader s n).1).csu.echoLimit = s.csu.echoLimit := by
  simp [steeringHeader]

@[simp] theorem steeringBlock_keeps (s : State) (n : Nat) (k : Fin 8) :
    ((steeringBlock s n k).1).straps = s.straps ∧
    ((steeringBlock s n k).1).tables = s.tables ∧
    ((steeringBlock s n k).1).sit = s.sit ∧
    ((steeringBlock s n k).1).bru = s.bru ∧
    ((steeringBlock s n k).1).slu = s.slu ∧
    ((steeringBlock s n k).1).osu = s.osu ∧
    ((steeringBlock s n k).1).als = s.als ∧
    ((steeringBlock s n k).1).pending = s.pending ∧
    ((steeringBlock s n k).1).sdu.part = s.sdu.part ∧
    ((steeringBlock s n k).1).sdu.deferred = s.sdu.deferred ∧
    ((steeringBlock s n k).1).sdu.reason = s.sdu.reason ∧
    ((steeringBlock s n k).1).sdu.cause = s.sdu.cause ∧
    ((steeringBlock s n k).1).opu.lastDistance = s.opu.lastDistance ∧
    ((steeringBlock s n k).1).opu.hold = s.opu.hold ∧
    ((steeringBlock s n k).1).opu.history = s.opu.history ∧
    ((steeringBlock s n k).1).opu.position = s.opu.position ∧
    ((steeringBlock s n k).1).opu.trail = s.opu.trail ∧
    ((steeringBlock s n k).1).opu.report = s.opu.report ∧
    ((steeringBlock s n k).1).opu.updateDue = s.opu.updateDue ∧
    ((steeringBlock s n k).1).mrh.posted = s.mrh.posted ∧
    ((steeringBlock s n k).1).mrh.confirmed = s.mrh.confirmed ∧
    ((steeringBlock s n k).1).csu.cycle = s.csu.cycle ∧
    ((steeringBlock s n k).1).csu.substitutes = s.csu.substitutes ∧
    ((steeringBlock s n k).1).csu.running = s.csu.running ∧
    ((steeringBlock s n k).1).csu.awaiting = s.csu.awaiting ∧
    ((steeringBlock s n k).1).csu.endReport = s.csu.endReport ∧
    ((steeringBlock s n k).1).csu.lastNumber = s.csu.lastNumber ∧
    ((steeringBlock s n k).1).csu.standbyStart = s.csu.standbyStart ∧
    ((steeringBlock s n k).1).csu.substTimer = s.csu.substTimer ∧
    ((steeringBlock s n k).1).csu.echoLimit = s.csu.echoLimit := by
  simp [steeringBlock]

@[simp] theorem Walker.header_keeps (s : State) (w : Walker) (n : Nat) :
    ((w.header s n).1).straps = s.straps ∧
    ((w.header s n).1).tables = s.tables ∧
    ((w.header s n).1).sit = s.sit ∧
    ((w.header s n).1).bru = s.bru ∧
    ((w.header s n).1).slu = s.slu ∧
    ((w.header s n).1).osu = s.osu ∧
    ((w.header s n).1).als = s.als ∧
    ((w.header s n).1).pending = s.pending ∧
    ((w.header s n).1).sdu.part = s.sdu.part ∧
    ((w.header s n).1).sdu.deferred = s.sdu.deferred ∧
    ((w.header s n).1).sdu.reason = s.sdu.reason ∧
    ((w.header s n).1).sdu.cause = s.sdu.cause ∧
    ((w.header s n).1).opu.lastDistance = s.opu.lastDistance ∧
    ((w.header s n).1).opu.hold = s.opu.hold ∧
    ((w.header s n).1).opu.history = s.opu.history ∧
    ((w.header s n).1).opu.position = s.opu.position ∧
    ((w.header s n).1).opu.trail = s.opu.trail ∧
    ((w.header s n).1).opu.report = s.opu.report ∧
    ((w.header s n).1).opu.updateDue = s.opu.updateDue ∧
    ((w.header s n).1).mrh.posted = s.mrh.posted ∧
    ((w.header s n).1).mrh.confirmed = s.mrh.confirmed ∧
    ((w.header s n).1).csu.cycle = s.csu.cycle ∧
    ((w.header s n).1).csu.substitutes = s.csu.substitutes ∧
    ((w.header s n).1).csu.running = s.csu.running ∧
    ((w.header s n).1).csu.awaiting = s.csu.awaiting ∧
    ((w.header s n).1).csu.endReport = s.csu.endReport ∧
    ((w.header s n).1).csu.lastNumber = s.csu.lastNumber ∧
    ((w.header s n).1).csu.standbyStart = s.csu.standbyStart ∧
    ((w.header s n).1).csu.substTimer = s.csu.substTimer ∧
    ((w.header s n).1).csu.echoLimit = s.csu.echoLimit := by
  cases w <;> simp [Walker.header]

/-! ## Forward walk -/

theorem walkFrom_keeps_any (s : State) (w : Walker) (fuel : Nat) (place : Place)
    (segment off dist : Nat) (gone : Int) :
    ((walkFrom w fuel s place segment off dist gone).state).straps = s.straps ∧
    ((walkFrom w fuel s place segment off dist gone).state).tables = s.tables ∧
    ((walkFrom w fuel s place segment off dist gone).state).sit = s.sit ∧
    ((walkFrom w fuel s place segment off dist gone).state).bru = s.bru ∧
    ((walkFrom w fuel s place segment off dist gone).state).slu = s.slu ∧
    ((walkFrom w fuel s place segment off dist gone).state).osu = s.osu ∧
    ((walkFrom w fuel s place segment off dist gone).state).als = s.als ∧
    ((walkFrom w fuel s place segment off dist gone).state).pending = s.pending ∧
    ((walkFrom w fuel s place segment off dist gone).state).sdu.part = s.sdu.part ∧
    ((walkFrom w fuel s place segment off dist gone).state).sdu.deferred = s.sdu.deferred ∧
    ((walkFrom w fuel s place segment off dist gone).state).sdu.reason = s.sdu.reason ∧
    ((walkFrom w fuel s place segment off dist gone).state).sdu.cause = s.sdu.cause ∧
    ((walkFrom w fuel s place segment off dist gone).state).opu.lastDistance = s.opu.lastDistance ∧
    ((walkFrom w fuel s place segment off dist gone).state).opu.hold = s.opu.hold ∧
    ((walkFrom w fuel s place segment off dist gone).state).opu.history = s.opu.history ∧
    ((walkFrom w fuel s place segment off dist gone).state).opu.position = s.opu.position ∧
    ((walkFrom w fuel s place segment off dist gone).state).opu.trail = s.opu.trail ∧
    ((walkFrom w fuel s place segment off dist gone).state).opu.report = s.opu.report ∧
    ((walkFrom w fuel s place segment off dist gone).state).opu.updateDue = s.opu.updateDue ∧
    ((walkFrom w fuel s place segment off dist gone).state).mrh.posted = s.mrh.posted ∧
    ((walkFrom w fuel s place segment off dist gone).state).mrh.confirmed = s.mrh.confirmed ∧
    ((walkFrom w fuel s place segment off dist gone).state).csu.cycle = s.csu.cycle ∧
    ((walkFrom w fuel s place segment off dist gone).state).csu.substitutes = s.csu.substitutes ∧
    ((walkFrom w fuel s place segment off dist gone).state).csu.running = s.csu.running ∧
    ((walkFrom w fuel s place segment off dist gone).state).csu.awaiting = s.csu.awaiting ∧
    ((walkFrom w fuel s place segment off dist gone).state).csu.endReport = s.csu.endReport ∧
    ((walkFrom w fuel s place segment off dist gone).state).csu.lastNumber = s.csu.lastNumber ∧
    ((walkFrom w fuel s place segment off dist gone).state).csu.standbyStart = s.csu.standbyStart ∧
    ((walkFrom w fuel s place segment off dist gone).state).csu.substTimer = s.csu.substTimer ∧
    ((walkFrom w fuel s place segment off dist gone).state).csu.echoLimit = s.csu.echoLimit := by
  induction fuel generalizing s place segment off dist gone with
  | zero => simp [walkFrom]
  | succ fuel ih =>
    generalize hr : walkFrom w (fuel + 1) s place segment off dist gone = r
    unfold walkFrom at hr
    dsimp only at hr
    (repeat' split at hr) <;> subst hr <;> simp [ih]

@[simp] theorem walkFrom_keeps (s : State) (w : Walker) (hw : w ≠ .steering) (fuel : Nat) (place : Place)
    (segment off dist : Nat) (gone : Int) :
    ((walkFrom w fuel s place segment off dist gone).state).straps = s.straps ∧
    ((walkFrom w fuel s place segment off dist gone).state).tables = s.tables ∧
    ((walkFrom w fuel s place segment off dist gone).state).sit = s.sit ∧
    ((walkFrom w fuel s place segment off dist gone).state).opu = s.opu ∧
    ((walkFrom w fuel s place segment off dist gone).state).bru = s.bru ∧
    ((walkFrom w fuel s place segment off dist gone).state).slu = s.slu ∧
    ((walkFrom w fuel s place segment off dist gone).state).osu = s.osu ∧
    ((walkFrom w fuel s place segment off dist gone).state).als = s.als ∧
    ((walkFrom w fuel s place segment off dist gone).state).csu = s.csu ∧
    ((walkFrom w fuel s place segment off dist gone).state).mrh = s.mrh ∧
    ((walkFrom w fuel s place segment off dist gone).state).pending = s.pending ∧
    ((walkFrom w fuel s place segment off dist gone).state).within = s.within ∧
    ((walkFrom w fuel s place segment off dist gone).state).sdu.part = s.sdu.part ∧
    ((walkFrom w fuel s place segment off dist gone).state).sdu.deferred = s.sdu.deferred ∧
    ((walkFrom w fuel s place segment off dist gone).state).sdu.reason = s.sdu.reason ∧
    ((walkFrom w fuel s place segment off dist gone).state).sdu.cause = s.sdu.cause := by
  have hh : ∃ needs, ∀ u n, w.header u n = lookupHeader needs u n := by
    cases w with
    | segmentCache => exact ⟨false, fun _ _ => rfl⟩
    | beacon => exact ⟨true, fun _ _ => rfl⟩
    | steering => exact absurd rfl hw
  obtain ⟨needs, hh⟩ := hh
  induction fuel generalizing s place segment off dist gone with
  | zero => simp [walkFrom]
  | succ fuel ih =>
    generalize hr : walkFrom w (fuel + 1) s place segment off dist gone = r
    unfold walkFrom at hr
    dsimp only at hr
    (repeat' split at hr) <;> subst hr <;> simp [ih, hh]

theorem walk_keeps_any (s : State) (w : Walker) (start : RoutePoint) (dist : Nat) :
    ((walk w s start dist).state).straps = s.straps ∧
    ((walk w s start dist).state).tables = s.tables ∧
    ((walk w s start dist).state).sit = s.sit ∧
    ((walk w s start dist).state).bru = s.bru ∧
    ((walk w s start dist).state).slu = s.slu ∧
    ((walk w s start dist).state).osu = s.osu ∧
    ((walk w s start dist).state).als = s.als ∧
    ((walk w s start dist).state).pending = s.pending ∧
    ((walk w s start dist).state).sdu.part = s.sdu.part ∧
    ((walk w s start dist).state).sdu.deferred = s.sdu.deferred ∧
    ((walk w s start dist).state).sdu.reason = s.sdu.reason ∧
    ((walk w s start dist).state).sdu.cause = s.sdu.cause ∧
    ((walk w s start dist).state).opu.lastDistance = s.opu.lastDistance ∧
    ((walk w s start dist).state).opu.hold = s.opu.hold ∧
    ((walk w s start dist).state).opu.history = s.opu.history ∧
    ((walk w s start dist).state).opu.position = s.opu.position ∧
    ((walk w s start dist).state).opu.trail = s.opu.trail ∧
    ((walk w s start dist).state).opu.report = s.opu.report ∧
    ((walk w s start dist).state).opu.updateDue = s.opu.updateDue ∧
    ((walk w s start dist).state).mrh.posted = s.mrh.posted ∧
    ((walk w s start dist).state).mrh.confirmed = s.mrh.confirmed ∧
    ((walk w s start dist).state).csu.cycle = s.csu.cycle ∧
    ((walk w s start dist).state).csu.substitutes = s.csu.substitutes ∧
    ((walk w s start dist).state).csu.running = s.csu.running ∧
    ((walk w s start dist).state).csu.awaiting = s.csu.awaiting ∧
    ((walk w s start dist).state).csu.endReport = s.csu.endReport ∧
    ((walk w s start dist).state).csu.lastNumber = s.csu.lastNumber ∧
    ((walk w s start dist).state).csu.standbyStart = s.csu.standbyStart ∧
    ((walk w s start dist).state).csu.substTimer = s.csu.substTimer ∧
    ((walk w s start dist).state).csu.echoLimit = s.csu.echoLimit := by
  simpa only [walk] using walkFrom_keeps_any ..

@[simp] theorem walk_keeps (s : State) (w : Walker) (hw : w ≠ .steering) (start : RoutePoint) (dist : Nat) :
    ((walk w s start dist).state).straps = s.straps ∧
    ((walk w s start dist).state).tables = s.tables ∧
    ((walk w s start dist).state).sit = s.sit ∧
    ((walk w s start dist).state).opu = s.opu ∧
    ((walk w s start dist).state).bru = s.bru ∧
    ((walk w s start dist).state).slu = s.slu ∧
    ((walk w s start dist).state).osu = s.osu ∧
    ((walk w s start dist).state).als = s.als ∧
    ((walk w s start dist).state).csu = s.csu ∧
    ((walk w s start dist).state).mrh = s.mrh ∧
    ((walk w s start dist).state).pending = s.pending ∧
    ((walk w s start dist).state).within = s.within ∧
    ((walk w s start dist).state).sdu.part = s.sdu.part ∧
    ((walk w s start dist).state).sdu.deferred = s.sdu.deferred ∧
    ((walk w s start dist).state).sdu.reason = s.sdu.reason ∧
    ((walk w s start dist).state).sdu.cause = s.sdu.cause := by
  simp [walk, hw]

end Sys2Proof.Machine
end

