-- ==== Sys2Proof/Laws/FramesPosition.lean ====
section
/-! SUPPORT. What the Sample Intake's operations and the stages of a position update leave as it stands. -/

namespace Sys2Proof.Machine

/-! ## Sample Intake -/

@[simp] theorem State.setPulse_keeps (s : State) (n : Fin 8) (x : Slot) :
    (s.setPulse n x).straps = s.straps ∧
    (s.setPulse n x).tables = s.tables ∧
    (s.setPulse n x).rpu = s.rpu ∧
    (s.setPulse n x).opu = s.opu ∧
    (s.setPulse n x).bru = s.bru ∧
    (s.setPulse n x).sgc = s.sgc ∧
    (s.setPulse n x).slu = s.slu ∧
    (s.setPulse n x).osu = s.osu ∧
    (s.setPulse n x).als = s.als ∧
    (s.setPulse n x).csu = s.csu ∧
    (s.setPulse n x).mrh = s.mrh ∧
    (s.setPulse n x).pending = s.pending ∧
    (s.setPulse n x).within = s.within ∧
    (s.setPulse n x).sdu = s.sdu := by
  simp [State.setPulse]

@[simp] theorem State.setGap_keeps (s : State) (n : Fin 8) (x : Slot) :
    (s.setGap n x).straps = s.straps ∧
    (s.setGap n x).tables = s.tables ∧
    (s.setGap n x).rpu = s.rpu ∧
    (s.setGap n x).opu = s.opu ∧
    (s.setGap n x).bru = s.bru ∧
    (s.setGap n x).sgc = s.sgc ∧
    (s.setGap n x).slu = s.slu ∧
    (s.setGap n x).osu = s.osu ∧
    (s.setGap n x).als = s.als ∧
    (s.setGap n x).csu = s.csu ∧
    (s.setGap n x).mrh = s.mrh ∧
    (s.setGap n x).pending = s.pending ∧
    (s.setGap n x).within = s.within ∧
    (s.setGap n x).sdu = s.sdu := by
  simp [State.setGap]

@[simp] theorem handBeacon_keeps (s : State) (n : Fin 2) (ident : Nat) (latched : Int) :
    (handBeacon s n ident latched).straps = s.straps ∧
    (handBeacon s n ident latched).tables = s.tables ∧
    (handBeacon s n ident latched).rpu = s.rpu ∧
    (handBeacon s n ident latched).sit = s.sit ∧
    (handBeacon s n ident latched).opu = s.opu ∧
    (handBeacon s n ident latched).sgc = s.sgc ∧
    (handBeacon s n ident latched).slu = s.slu ∧
    (handBeacon s n ident latched).osu = s.osu ∧
    (handBeacon s n ident latched).als = s.als ∧
    (handBeacon s n ident latched).csu = s.csu ∧
    (handBeacon s n ident latched).mrh = s.mrh ∧
    (handBeacon s n ident latched).pending = s.pending ∧
    (handBeacon s n ident latched).within = s.within ∧
    (handBeacon s n ident latched).sdu.part = s.sdu.part ∧
    (handBeacon s n ident latched).sdu.deferred = s.sdu.deferred ∧
    (handBeacon s n ident latched).sdu.reason = s.sdu.reason ∧
    (handBeacon s n ident latched).sdu.cause = s.sdu.cause := by
  simp only [handBeacon]
  (repeat' split) <;> simp

@[simp] theorem handleItem_keeps (s : State) (node : Nat) (i : SampleItem) :
    (handleItem node s i).straps = s.straps ∧
    (handleItem node s i).tables = s.tables ∧
    (handleItem node s i).rpu = s.rpu ∧
    (handleItem node s i).opu = s.opu ∧
    (handleItem node s i).sgc = s.sgc ∧
    (handleItem node s i).slu = s.slu ∧
    (handleItem node s i).osu = s.osu ∧
    (handleItem node s i).als = s.als ∧
    (handleItem node s i).csu = s.csu ∧
    (handleItem node s i).mrh = s.mrh ∧
    (handleItem node s i).pending = s.pending ∧
    (handleItem node s i).within = s.within ∧
    (handleItem node s i).sdu.part = s.sdu.part ∧
    (handleItem node s i).sdu.deferred = s.sdu.deferred ∧
    (handleItem node s i).sdu.reason = s.sdu.reason ∧
    (handleItem node s i).sdu.cause = s.sdu.cause := by
  simp only [handleItem]
  (repeat' split) <;> simp

theorem handleItems_keeps (s : State) (node : Nat) (is : List SampleItem) :
    let t := is.foldl (handleItem node) s
    t.straps = s.straps ∧ t.tables = s.tables ∧ t.rpu = s.rpu ∧ t.opu = s.opu ∧ t.sgc = s.sgc ∧
    t.slu = s.slu ∧ t.osu = s.osu ∧ t.als = s.als ∧ t.csu = s.csu ∧ t.mrh = s.mrh ∧
    t.pending = s.pending ∧ t.within = s.within ∧ t.sdu.part = s.sdu.part ∧ t.sdu.deferred = s.sdu.deferred ∧
    t.sdu.reason = s.sdu.reason ∧ t.sdu.cause = s.sdu.cause := by
  induction is generalizing s with
  | nil => simp
  | cons i is ih => simpa using ih (handleItem node s i)

@[simp] theorem handleSample_keeps (s : State) (source : Addr) (payload : List Word) :
    (handleSample s source payload).straps = s.straps ∧
    (handleSample s source payload).tables = s.tables ∧
    (handleSample s source payload).rpu = s.rpu ∧
    (handleSample s source payload).opu = s.opu ∧
    (handleSample s source payload).sgc = s.sgc ∧
    (handleSample s source payload).slu = s.slu ∧
    (handleSample s source payload).osu = s.osu ∧
    (handleSample s source payload).als = s.als ∧
    (handleSample s source payload).csu = s.csu ∧
    (handleSample s source payload).mrh = s.mrh ∧
    (handleSample s source payload).pending = s.pending ∧
    (handleSample s source payload).within = s.within ∧
    (handleSample s source payload).sdu.part = s.sdu.part ∧
    (handleSample s source payload).sdu.deferred = s.sdu.deferred ∧
    (handleSample s source payload).sdu.reason = s.sdu.reason ∧
    (handleSample s source payload).sdu.cause = s.sdu.cause := by
  have h := handleItems_keeps s source.toNat (itemsOf payload)
  simp only [handleSample]
  split
  · simpa using h
  · simp

@[simp] theorem evaluateSlots_keeps (s : State) :
    (evaluateSlots s).straps = s.straps ∧
    (evaluateSlots s).tables = s.tables ∧
    (evaluateSlots s).rpu = s.rpu ∧
    (evaluateSlots s).opu = s.opu ∧
    (evaluateSlots s).bru = s.bru ∧
    (evaluateSlots s).sgc = s.sgc ∧
    (evaluateSlots s).slu = s.slu ∧
    (evaluateSlots s).osu = s.osu ∧
    (evaluateSlots s).als = s.als ∧
    (evaluateSlots s).csu = s.csu ∧
    (evaluateSlots s).mrh = s.mrh ∧
    (evaluateSlots s).pending = s.pending ∧
    (evaluateSlots s).within = s.within ∧
    (evaluateSlots s).sdu.part = s.sdu.part ∧
    (evaluateSlots s).sdu.deferred = s.sdu.deferred ∧
    (evaluateSlots s).sdu.reason = s.sdu.reason ∧
    (evaluateSlots s).sdu.cause = s.sdu.cause := by
  simp [evaluateSlots]

@[simp] theorem expireSlot_keeps (s : State) (n : SlotName) :
    (expireSlot s n).straps = s.straps ∧
    (expireSlot s n).tables = s.tables ∧
    (expireSlot s n).rpu = s.rpu ∧
    (expireSlot s n).opu = s.opu ∧
    (expireSlot s n).bru = s.bru ∧
    (expireSlot s n).sgc = s.sgc ∧
    (expireSlot s n).slu = s.slu ∧
    (expireSlot s n).osu = s.osu ∧
    (expireSlot s n).als = s.als ∧
    (expireSlot s n).csu = s.csu ∧
    (expireSlot s n).mrh = s.mrh ∧
    (expireSlot s n).pending = s.pending ∧
    (expireSlot s n).within = s.within ∧
    (expireSlot s n).sdu.part = s.sdu.part ∧
    (expireSlot s n).sdu.deferred = s.sdu.deferred ∧
    (expireSlot s n).sdu.reason = s.sdu.reason ∧
    (expireSlot s n).sdu.cause = s.sdu.cause := by
  simp only [expireSlot]
  (repeat' split) <;> simp

@[simp] theorem emptySlot_keeps (s : State) (x : SlotTarget) :
    (emptySlot s x).straps = s.straps ∧
    (emptySlot s x).tables = s.tables ∧
    (emptySlot s x).rpu = s.rpu ∧
    (emptySlot s x).opu = s.opu ∧
    (emptySlot s x).bru = s.bru ∧
    (emptySlot s x).sgc = s.sgc ∧
    (emptySlot s x).slu = s.slu ∧
    (emptySlot s x).osu = s.osu ∧
    (emptySlot s x).als = s.als ∧
    (emptySlot s x).csu = s.csu ∧
    (emptySlot s x).mrh = s.mrh ∧
    (emptySlot s x).pending = s.pending ∧
    (emptySlot s x).within = s.within ∧
    (emptySlot s x).sdu = s.sdu := by
  simp only [emptySlot]
  (repeat' split) <;> simp

@[simp] theorem emptySlotOf_keeps (s : State) (e : Option SourceEntry) :
    (emptySlotOf s e).straps = s.straps ∧
    (emptySlotOf s e).tables = s.tables ∧
    (emptySlotOf s e).rpu = s.rpu ∧
    (emptySlotOf s e).opu = s.opu ∧
    (emptySlotOf s e).bru = s.bru ∧
    (emptySlotOf s e).sgc = s.sgc ∧
    (emptySlotOf s e).slu = s.slu ∧
    (emptySlotOf s e).osu = s.osu ∧
    (emptySlotOf s e).als = s.als ∧
    (emptySlotOf s e).csu = s.csu ∧
    (emptySlotOf s e).mrh = s.mrh ∧
    (emptySlotOf s e).pending = s.pending ∧
    (emptySlotOf s e).within = s.within ∧
    (emptySlotOf s e).sdu = s.sdu := by
  simp only [emptySlotOf]
  (repeat' split) <;> simp

@[simp] theorem storeSource_keeps (s : State) (i : Fin 24) (new : Option SourceEntry) :
    (storeSource s i new).straps = s.straps ∧
    (storeSource s i new).rpu = s.rpu ∧
    (storeSource s i new).opu = s.opu ∧
    (storeSource s i new).bru = s.bru ∧
    (storeSource s i new).sgc = s.sgc ∧
    (storeSource s i new).slu = s.slu ∧
    (storeSource s i new).osu = s.osu ∧
    (storeSource s i new).als = s.als ∧
    (storeSource s i new).csu = s.csu ∧
    (storeSource s i new).mrh = s.mrh ∧
    (storeSource s i new).pending = s.pending ∧
    (storeSource s i new).within = s.within ∧
    (storeSource s i new).sdu.part = s.sdu.part ∧
    (storeSource s i new).sdu.deferred = s.sdu.deferred ∧
    (storeSource s i new).sdu.reason = s.sdu.reason ∧
    (storeSource s i new).sdu.cause = s.sdu.cause := by
  simp only [storeSource]
  (repeat' split) <;> simp

/-! ## Odometry and Position Unit -/

@[simp] theorem enterLost_keeps (s : State) :
    (enterLost s).straps = s.straps ∧
    (enterLost s).tables = s.tables ∧
    (enterLost s).rpu = s.rpu ∧
    (enterLost s).sit = s.sit ∧
    (enterLost s).sgc = s.sgc ∧
    (enterLost s).slu = s.slu ∧
    (enterLost s).osu = s.osu ∧
    (enterLost s).als = s.als ∧
    (enterLost s).csu = s.csu ∧
    (enterLost s).mrh = s.mrh ∧
    (enterLost s).pending = s.pending ∧
    (enterLost s).within = s.within ∧
    (enterLost s).sdu.part = s.sdu.part ∧
    (enterLost s).sdu.deferred = s.sdu.deferred ∧
    (enterLost s).sdu.reason = s.sdu.reason ∧
    (enterLost s).sdu.cause = s.sdu.cause := by
  simp [enterLost]

@[simp] theorem uncounted_keeps (s : State) :
    (uncounted s).straps = s.straps ∧
    (uncounted s).tables = s.tables ∧
    (uncounted s).rpu = s.rpu ∧
    (uncounted s).sit = s.sit ∧
    (uncounted s).sgc = s.sgc ∧
    (uncounted s).slu = s.slu ∧
    (uncounted s).osu = s.osu ∧
    (uncounted s).als = s.als ∧
    (uncounted s).csu = s.csu ∧
    (uncounted s).mrh = s.mrh ∧
    (uncounted s).pending = s.pending ∧
    (uncounted s).within = s.within ∧
    (uncounted s).sdu.part = s.sdu.part ∧
    (uncounted s).sdu.deferred = s.sdu.deferred ∧
    (uncounted s).sdu.reason = s.sdu.reason ∧
    (uncounted s).sdu.cause = s.sdu.cause := by
  simp only [uncounted]
  (repeat' split) <;> simp

@[simp] theorem odometryStage_keeps (s : State) :
    (odometryStage s).straps = s.straps ∧
    (odometryStage s).tables = s.tables ∧
    (odometryStage s).rpu = s.rpu ∧
    (odometryStage s).sgc = s.sgc ∧
    (odometryStage s).slu = s.slu ∧
    (odometryStage s).osu = s.osu ∧
    (odometryStage s).als = s.als ∧
    (odometryStage s).csu = s.csu ∧
    (odometryStage s).mrh = s.mrh ∧
    (odometryStage s).pending = s.pending ∧
    (odometryStage s).within = s.within ∧
    (odometryStage s).sdu.part = s.sdu.part ∧
    (odometryStage s).sdu.deferred = s.sdu.deferred ∧
    (odometryStage s).sdu.reason = s.sdu.reason ∧
    (odometryStage s).sdu.cause = s.sdu.cause := by
  simp only [odometryStage]
  (repeat' split) <;> simp

@[simp] theorem speedStage_keeps (s : State) :
    (speedStage s).straps = s.straps ∧
    (speedStage s).tables = s.tables ∧
    (speedStage s).rpu = s.rpu ∧
    (speedStage s).sit = s.sit ∧
    (speedStage s).bru = s.bru ∧
    (speedStage s).sgc = s.sgc ∧
    (speedStage s).slu = s.slu ∧
    (speedStage s).osu = s.osu ∧
    (speedStage s).als = s.als ∧
    (speedStage s).csu = s.csu ∧
    (speedStage s).mrh = s.mrh ∧
    (speedStage s).pending = s.pending ∧
    (speedStage s).within = s.within ∧
    (speedStage s).sdu = s.sdu := by
  simp [speedStage]

@[simp] theorem leaveSegment_keeps (s : State) (n : Nat) (h : Header) :
    (leaveSegment s n h).straps = s.straps ∧
    (leaveSegment s n h).tables = s.tables ∧
    (leaveSegment s n h).rpu = s.rpu ∧
    (leaveSegment s n h).sit = s.sit ∧
    (leaveSegment s n h).bru = s.bru ∧
    (leaveSegment s n h).sgc = s.sgc ∧
    (leaveSegment s n h).slu = s.slu ∧
    (leaveSegment s n h).osu = s.osu ∧
    (leaveSegment s n h).als = s.als ∧
    (leaveSegment s n h).csu = s.csu ∧
    (leaveSegment s n h).mrh = s.mrh ∧
    (leaveSegment s n h).pending = s.pending ∧
    (leaveSegment s n h).within = s.within ∧
    (leaveSegment s n h).sdu.part = s.sdu.part ∧
    (leaveSegment s n h).sdu.deferred = s.sdu.deferred ∧
    (leaveSegment s n h).sdu.reason = s.sdu.reason ∧
    (leaveSegment s n h).sdu.cause = s.sdu.cause := by
  simp only [leaveSegment]
  (repeat' split) <;> simp

@[simp] theorem reachEnd_keeps (s : State) (p : Located) (h : Header) :
    (reachEnd s p h).straps = s.straps ∧
    (reachEnd s p h).tables = s.tables ∧
    (reachEnd s p h).rpu = s.rpu ∧
    (reachEnd s p h).sit = s.sit ∧
    (reachEnd s p h).sgc = s.sgc ∧
    (reachEnd s p h).slu = s.slu ∧
    (reachEnd s p h).osu = s.osu ∧
    (reachEnd s p h).als = s.als ∧
    (reachEnd s p h).csu = s.csu ∧
    (reachEnd s p h).mrh = s.mrh ∧
    (reachEnd s p h).pending = s.pending ∧
    (reachEnd s p h).within = s.within ∧
    (reachEnd s p h).sdu.part = s.sdu.part ∧
    (reachEnd s p h).sdu.deferred = s.sdu.deferred ∧
    (reachEnd s p h).sdu.reason = s.sdu.reason ∧
    (reachEnd s p h).sdu.cause = s.sdu.cause := by
  simp only [reachEnd]
  (repeat' split) <;> simp

@[simp] theorem advanceFrom_keeps (s : State) (fuel : Nat) :
    (advanceFrom fuel s).straps = s.straps ∧
    (advanceFrom fuel s).tables = s.tables ∧
    (advanceFrom fuel s).sit = s.sit ∧
    (advanceFrom fuel s).slu = s.slu ∧
    (advanceFrom fuel s).osu = s.osu ∧
    (advanceFrom fuel s).als = s.als ∧
    (advanceFrom fuel s).csu = s.csu ∧
    (advanceFrom fuel s).mrh = s.mrh ∧
    (advanceFrom fuel s).pending = s.pending ∧
    (advanceFrom fuel s).within = s.within ∧
    (advanceFrom fuel s).sdu.part = s.sdu.part ∧
    (advanceFrom fuel s).sdu.deferred = s.sdu.deferred ∧
    (advanceFrom fuel s).sdu.reason = s.sdu.reason ∧
    (advanceFrom fuel s).sdu.cause = s.sdu.cause := by
  induction fuel generalizing s with
  | zero => simp [advanceFrom]
  | succ fuel ih =>
    unfold advanceFrom
    dsimp only
    (repeat' split) <;> simp [ih]

@[simp] theorem offsetOverflow_keeps (s : State) :
    (offsetOverflow s).straps = s.straps ∧
    (offsetOverflow s).tables = s.tables ∧
    (offsetOverflow s).rpu = s.rpu ∧
    (offsetOverflow s).sit = s.sit ∧
    (offsetOverflow s).sgc = s.sgc ∧
    (offsetOverflow s).slu = s.slu ∧
    (offsetOverflow s).osu = s.osu ∧
    (offsetOverflow s).als = s.als ∧
    (offsetOverflow s).csu = s.csu ∧
    (offsetOverflow s).mrh = s.mrh ∧
    (offsetOverflow s).pending = s.pending ∧
    (offsetOverflow s).within = s.within ∧
    (offsetOverflow s).sdu.part = s.sdu.part ∧
    (offsetOverflow s).sdu.deferred = s.sdu.deferred ∧
    (offsetOverflow s).sdu.reason = s.sdu.reason ∧
    (offsetOverflow s).sdu.cause = s.sdu.cause := by
  simp only [offsetOverflow]
  (repeat' split) <;> simp

@[simp] theorem advanceStage_keeps (s : State) :
    (advanceStage s).straps = s.straps ∧
    (advanceStage s).tables = s.tables ∧
    (advanceStage s).sit = s.sit ∧
    (advanceStage s).slu = s.slu ∧
    (advanceStage s).osu = s.osu ∧
    (advanceStage s).als = s.als ∧
    (advanceStage s).csu = s.csu ∧
    (advanceStage s).mrh = s.mrh ∧
    (advanceStage s).pending = s.pending ∧
    (advanceStage s).within = s.within ∧
    (advanceStage s).sdu.part = s.sdu.part ∧
    (advanceStage s).sdu.deferred = s.sdu.deferred ∧
    (advanceStage s).sdu.reason = s.sdu.reason ∧
    (advanceStage s).sdu.cause = s.sdu.cause := by
  simp only [advanceStage]
  (repeat' split) <;> simp

@[simp] theorem placementStage_keeps (s : State) :
    (placementStage s).straps = s.straps ∧
    (placementStage s).tables = s.tables ∧
    (placementStage s).rpu = s.rpu ∧
    (placementStage s).sit = s.sit ∧
    (placementStage s).bru = s.bru ∧
    (placementStage s).sgc = s.sgc ∧
    (placementStage s).slu = s.slu ∧
    (placementStage s).osu = s.osu ∧
    (placementStage s).als = s.als ∧
    (placementStage s).csu = s.csu ∧
    (placementStage s).mrh = s.mrh ∧
    (placementStage s).pending = s.pending ∧
    (placementStage s).within = s.within ∧
    (placementStage s).sdu = s.sdu := by
  simp [placementStage]

/-! ## Beacon Reconciliation Unit -/

@[simp] theorem derivedPosition_keeps (s : State) (n : Fin 2) (e : BeaconEntry) (latched : Int) :
    ((derivedPosition s n e latched).1).straps = s.straps ∧
    ((derivedPosition s n e latched).1).tables = s.tables ∧
    ((derivedPosition s n e latched).1).sit = s.sit ∧
    ((derivedPosition s n e latched).1).opu = s.opu ∧
    ((derivedPosition s n e latched).1).bru = s.bru ∧
    ((derivedPosition s n e latched).1).slu = s.slu ∧
    ((derivedPosition s n e latched).1).osu = s.osu ∧
    ((derivedPosition s n e latched).1).als = s.als ∧
    ((derivedPosition s n e latched).1).csu = s.csu ∧
    ((derivedPosition s n e latched).1).mrh = s.mrh ∧
    ((derivedPosition s n e latched).1).pending = s.pending ∧
    ((derivedPosition s n e latched).1).within = s.within ∧
    ((derivedPosition s n e latched).1).sdu.part = s.sdu.part ∧
    ((derivedPosition s n e latched).1).sdu.deferred = s.sdu.deferred ∧
    ((derivedPosition s n e latched).1).sdu.reason = s.sdu.reason ∧
    ((derivedPosition s n e latched).1).sdu.cause = s.sdu.cause := by
  simp only [derivedPosition]
  (repeat' split) <;> simp

@[simp] theorem searchAhead_keeps (s : State) (fuel : Nat) (place : Place) (segment off dist : Nat) (gone : Int) (target : Nat) :
    ((searchAhead fuel s place segment off dist gone target).state).straps = s.straps ∧
    ((searchAhead fuel s place segment off dist gone target).state).tables = s.tables ∧
    ((searchAhead fuel s place segment off dist gone target).state).sit = s.sit ∧
    ((searchAhead fuel s place segment off dist gone target).state).opu = s.opu ∧
    ((searchAhead fuel s place segment off dist gone target).state).bru = s.bru ∧
    ((searchAhead fuel s place segment off dist gone target).state).slu = s.slu ∧
    ((searchAhead fuel s place segment off dist gone target).state).osu = s.osu ∧
    ((searchAhead fuel s place segment off dist gone target).state).als = s.als ∧
    ((searchAhead fuel s place segment off dist gone target).state).csu = s.csu ∧
    ((searchAhead fuel s place segment off dist gone target).state).mrh = s.mrh ∧
    ((searchAhead fuel s place segment off dist gone target).state).pending = s.pending ∧
    ((searchAhead fuel s place segment off dist gone target).state).within = s.within ∧
    ((searchAhead fuel s place segment off dist gone target).state).sdu.part = s.sdu.part ∧
    ((searchAhead fuel s place segment off dist gone target).state).sdu.deferred = s.sdu.deferred ∧
    ((searchAhead fuel s place segment off dist gone target).state).sdu.reason = s.sdu.reason ∧
    ((searchAhead fuel s place segment off dist gone target).state).sdu.cause = s.sdu.cause := by
  induction fuel generalizing s place segment off dist gone with
  | zero => simp [searchAhead]
  | succ fuel ih =>
    generalize hr : searchAhead (fuel + 1) s place segment off dist gone target = r
    unfold searchAhead at hr
    dsimp only at hr
    (repeat' split at hr) <;> subst hr <;> simp [ih]

@[simp] theorem relate_keeps (s : State) (p : Located) (d : Derived) :
    ((relate s p d).1).straps = s.straps ∧
    ((relate s p d).1).tables = s.tables ∧
    ((relate s p d).1).sit = s.sit ∧
    ((relate s p d).1).opu = s.opu ∧
    ((relate s p d).1).bru = s.bru ∧
    ((relate s p d).1).slu = s.slu ∧
    ((relate s p d).1).osu = s.osu ∧
    ((relate s p d).1).als = s.als ∧
    ((relate s p d).1).csu = s.csu ∧
    ((relate s p d).1).mrh = s.mrh ∧
    ((relate s p d).1).pending = s.pending ∧
    ((relate s p d).1).within = s.within ∧
    ((relate s p d).1).sdu.part = s.sdu.part ∧
    ((relate s p d).1).sdu.deferred = s.sdu.deferred ∧
    ((relate s p d).1).sdu.reason = s.sdu.reason ∧
    ((relate s p d).1).sdu.cause = s.sdu.cause := by
  simp only [relate]
  (repeat' split) <;> simp

@[simp] theorem writeReport_keeps (s : State) (o : BeaconOutcome) (ident : Nat) (error : Option Int) :
    (writeReport s o ident error).straps = s.straps ∧
    (writeReport s o ident error).tables = s.tables ∧
    (writeReport s o ident error).rpu = s.rpu ∧
    (writeReport s o ident error).sit = s.sit ∧
    (writeReport s o ident error).opu = s.opu ∧
    (writeReport s o ident error).sgc = s.sgc ∧
    (writeReport s o ident error).slu = s.slu ∧
    (writeReport s o ident error).osu = s.osu ∧
    (writeReport s o ident error).als = s.als ∧
    (writeReport s o ident error).csu = s.csu ∧
    (writeReport s o ident error).mrh = s.mrh ∧
    (writeReport s o ident error).pending = s.pending ∧
    (writeReport s o ident error).within = s.within ∧
    (writeReport s o ident error).sdu = s.sdu := by
  simp [writeReport]

@[simp] theorem adopt_keeps (s : State) (d : Derived) :
    (adopt s d).straps = s.straps ∧
    (adopt s d).tables = s.tables ∧
    (adopt s d).rpu = s.rpu ∧
    (adopt s d).sit = s.sit ∧
    (adopt s d).sgc = s.sgc ∧
    (adopt s d).slu = s.slu ∧
    (adopt s d).osu = s.osu ∧
    (adopt s d).als = s.als ∧
    (adopt s d).csu = s.csu ∧
    (adopt s d).mrh = s.mrh ∧
    (adopt s d).pending = s.pending ∧
    (adopt s d).within = s.within ∧
    (adopt s d).sdu = s.sdu := by
  simp [adopt]

@[simp] theorem leaveSegments_keeps (s : State) (passed : List (Nat × Header)) :
    (leaveSegments s passed).straps = s.straps ∧
    (leaveSegments s passed).tables = s.tables ∧
    (leaveSegments s passed).rpu = s.rpu ∧
    (leaveSegments s passed).sit = s.sit ∧
    (leaveSegments s passed).bru = s.bru ∧
    (leaveSegments s passed).sgc = s.sgc ∧
    (leaveSegments s passed).slu = s.slu ∧
    (leaveSegments s passed).osu = s.osu ∧
    (leaveSegments s passed).als = s.als ∧
    (leaveSegments s passed).csu = s.csu ∧
    (leaveSegments s passed).mrh = s.mrh ∧
    (leaveSegments s passed).pending = s.pending ∧
    (leaveSegments s passed).within = s.within ∧
    (leaveSegments s passed).sdu.part = s.sdu.part ∧
    (leaveSegments s passed).sdu.deferred = s.sdu.deferred ∧
    (leaveSegments s passed).sdu.reason = s.sdu.reason ∧
    (leaveSegments s passed).sdu.cause = s.sdu.cause := by
  unfold leaveSegments
  induction passed generalizing s with
  | nil => simp
  | cons n ns ih => simp [ih]

@[simp] theorem correct_keeps (s : State) (p : Located) (d : Derived) (r : Relation) :
    (correct s p d r).straps = s.straps ∧
    (correct s p d r).tables = s.tables ∧
    (correct s p d r).rpu = s.rpu ∧
    (correct s p d r).sit = s.sit ∧
    (correct s p d r).bru = s.bru ∧
    (correct s p d r).sgc = s.sgc ∧
    (correct s p d r).slu = s.slu ∧
    (correct s p d r).osu = s.osu ∧
    (correct s p d r).als = s.als ∧
    (correct s p d r).csu = s.csu ∧
    (correct s p d r).mrh = s.mrh ∧
    (correct s p d r).pending = s.pending ∧
    (correct s p d r).within = s.within ∧
    (correct s p d r).sdu.part = s.sdu.part ∧
    (correct s p d r).sdu.deferred = s.sdu.deferred ∧
    (correct s p d r).sdu.reason = s.sdu.reason ∧
    (correct s p d r).sdu.cause = s.sdu.cause := by
  simp only [correct]
  (repeat' split) <;> simp

@[simp] theorem State.setConfirmed_keeps (s : State) (c : Bool) :
    (s.setConfirmed c).straps = s.straps ∧
    (s.setConfirmed c).tables = s.tables ∧
    (s.setConfirmed c).rpu = s.rpu ∧
    (s.setConfirmed c).sit = s.sit ∧
    (s.setConfirmed c).bru = s.bru ∧
    (s.setConfirmed c).sgc = s.sgc ∧
    (s.setConfirmed c).slu = s.slu ∧
    (s.setConfirmed c).osu = s.osu ∧
    (s.setConfirmed c).als = s.als ∧
    (s.setConfirmed c).csu = s.csu ∧
    (s.setConfirmed c).mrh = s.mrh ∧
    (s.setConfirmed c).pending = s.pending ∧
    (s.setConfirmed c).within = s.within ∧
    (s.setConfirmed c).sdu = s.sdu := by
  simp [State.setConfirmed]

@[simp] theorem agree_keeps (s : State) (p : Located) (d : Derived) (r : Relation) (ident : Nat) :
    (agree s p d r ident).straps = s.straps ∧
    (agree s p d r ident).tables = s.tables ∧
    (agree s p d r ident).rpu = s.rpu ∧
    (agree s p d r ident).sit = s.sit ∧
    (agree s p d r ident).sgc = s.sgc ∧
    (agree s p d r ident).slu = s.slu ∧
    (agree s p d r ident).osu = s.osu ∧
    (agree s p d r ident).als = s.als ∧
    (agree s p d r ident).csu = s.csu ∧
    (agree s p d r ident).mrh = s.mrh ∧
    (agree s p d r ident).pending = s.pending ∧
    (agree s p d r ident).within = s.within ∧
    (agree s p d r ident).sdu.part = s.sdu.part ∧
    (agree s p d r ident).sdu.deferred = s.sdu.deferred ∧
    (agree s p d r ident).sdu.reason = s.sdu.reason ∧
    (agree s p d r ident).sdu.cause = s.sdu.cause := by
  simp [agree]

@[simp] theorem disagree_keeps (s : State) (d : Option Derived) (error : Option Int) (ident : Nat) :
    (disagree s d error ident).straps = s.straps ∧
    (disagree s d error ident).tables = s.tables ∧
    (disagree s d error ident).rpu = s.rpu ∧
    (disagree s d error ident).sit = s.sit ∧
    (disagree s d error ident).sgc = s.sgc ∧
    (disagree s d error ident).slu = s.slu ∧
    (disagree s d error ident).osu = s.osu ∧
    (disagree s d error ident).als = s.als ∧
    (disagree s d error ident).csu = s.csu ∧
    (disagree s d error ident).mrh = s.mrh ∧
    (disagree s d error ident).pending = s.pending ∧
    (disagree s d error ident).within = s.within ∧
    (disagree s d error ident).sdu.part = s.sdu.part ∧
    (disagree s d error ident).sdu.deferred = s.sdu.deferred ∧
    (disagree s d error ident).sdu.reason = s.sdu.reason ∧
    (disagree s d error ident).sdu.cause = s.sdu.cause := by
  simp only [disagree]
  (repeat' split) <;> simp

@[simp] theorem handleLost_keeps (s : State) (d : Option Derived) (ident : Nat) :
    (handleLost s d ident).straps = s.straps ∧
    (handleLost s d ident).tables = s.tables ∧
    (handleLost s d ident).rpu = s.rpu ∧
    (handleLost s d ident).sit = s.sit ∧
    (handleLost s d ident).sgc = s.sgc ∧
    (handleLost s d ident).slu = s.slu ∧
    (handleLost s d ident).osu = s.osu ∧
    (handleLost s d ident).als = s.als ∧
    (handleLost s d ident).csu = s.csu ∧
    (handleLost s d ident).mrh = s.mrh ∧
    (handleLost s d ident).pending = s.pending ∧
    (handleLost s d ident).within = s.within ∧
    (handleLost s d ident).sdu.part = s.sdu.part ∧
    (handleLost s d ident).sdu.deferred = s.sdu.deferred ∧
    (handleLost s d ident).sdu.reason = s.sdu.reason ∧
    (handleLost s d ident).sdu.cause = s.sdu.cause := by
  simp only [handleLost]
  (repeat' split) <;> simp

@[simp] theorem handleKnown_keeps (s : State) (n : Fin 2) (e : BeaconEntry) (b : PendingBeacon) :
    (handleKnown s n e b).straps = s.straps ∧
    (handleKnown s n e b).tables = s.tables ∧
    (handleKnown s n e b).sit = s.sit ∧
    (handleKnown s n e b).slu = s.slu ∧
    (handleKnown s n e b).osu = s.osu ∧
    (handleKnown s n e b).als = s.als ∧
    (handleKnown s n e b).csu = s.csu ∧
    (handleKnown s n e b).mrh = s.mrh ∧
    (handleKnown s n e b).pending = s.pending ∧
    (handleKnown s n e b).within = s.within ∧
    (handleKnown s n e b).sdu.part = s.sdu.part ∧
    (handleKnown s n e b).sdu.deferred = s.sdu.deferred ∧
    (handleKnown s n e b).sdu.reason = s.sdu.reason ∧
    (handleKnown s n e b).sdu.cause = s.sdu.cause := by
  simp only [handleKnown]
  (repeat' split) <;> simp

@[simp] theorem clearReader_keeps (s : State) (n : Fin 2) :
    (clearReader s n).straps = s.straps ∧
    (clearReader s n).tables = s.tables ∧
    (clearReader s n).rpu = s.rpu ∧
    (clearReader s n).sit = s.sit ∧
    (clearReader s n).opu = s.opu ∧
    (clearReader s n).sgc = s.sgc ∧
    (clearReader s n).slu = s.slu ∧
    (clearReader s n).osu = s.osu ∧
    (clearReader s n).als = s.als ∧
    (clearReader s n).csu = s.csu ∧
    (clearReader s n).mrh = s.mrh ∧
    (clearReader s n).pending = s.pending ∧
    (clearReader s n).within = s.within ∧
    (clearReader s n).sdu = s.sdu := by
  simp [clearReader]

@[simp] theorem handleReader_keeps (s : State) (n : Fin 2) :
    (handleReader s n).straps = s.straps ∧
    (handleReader s n).tables = s.tables ∧
    (handleReader s n).sit = s.sit ∧
    (handleReader s n).slu = s.slu ∧
    (handleReader s n).osu = s.osu ∧
    (handleReader s n).als = s.als ∧
    (handleReader s n).csu = s.csu ∧
    (handleReader s n).mrh = s.mrh ∧
    (handleReader s n).pending = s.pending ∧
    (handleReader s n).within = s.within ∧
    (handleReader s n).sdu.part = s.sdu.part ∧
    (handleReader s n).sdu.deferred = s.sdu.deferred ∧
    (handleReader s n).sdu.reason = s.sdu.reason ∧
    (handleReader s n).sdu.cause = s.sdu.cause := by
  simp only [handleReader]
  (repeat' split) <;> simp

@[simp] theorem driftStage_keeps (s : State) :
    (driftStage s).straps = s.straps ∧
    (driftStage s).tables = s.tables ∧
    (driftStage s).rpu = s.rpu ∧
    (driftStage s).sit = s.sit ∧
    (driftStage s).sgc = s.sgc ∧
    (driftStage s).slu = s.slu ∧
    (driftStage s).osu = s.osu ∧
    (driftStage s).als = s.als ∧
    (driftStage s).csu = s.csu ∧
    (driftStage s).mrh = s.mrh ∧
    (driftStage s).pending = s.pending ∧
    (driftStage s).within = s.within ∧
    (driftStage s).sdu = s.sdu := by
  simp only [driftStage]
  (repeat' split) <;> simp

@[simp] theorem beaconStage_keeps (s : State) :
    (beaconStage s).straps = s.straps ∧
    (beaconStage s).tables = s.tables ∧
    (beaconStage s).sit = s.sit ∧
    (beaconStage s).slu = s.slu ∧
    (beaconStage s).osu = s.osu ∧
    (beaconStage s).als = s.als ∧
    (beaconStage s).csu = s.csu ∧
    (beaconStage s).mrh = s.mrh ∧
    (beaconStage s).pending = s.pending ∧
    (beaconStage s).within = s.within ∧
    (beaconStage s).sdu.part = s.sdu.part ∧
    (beaconStage s).sdu.deferred = s.sdu.deferred ∧
    (beaconStage s).sdu.reason = s.sdu.reason ∧
    (beaconStage s).sdu.cause = s.sdu.cause := by
  simp [beaconStage]

/-! ## Position update -/

@[simp] theorem recomputeInUse_keeps (s : State) :
    (recomputeInUse s).straps = s.straps ∧
    (recomputeInUse s).tables = s.tables ∧
    (recomputeInUse s).sit = s.sit ∧
    (recomputeInUse s).opu = s.opu ∧
    (recomputeInUse s).bru = s.bru ∧
    (recomputeInUse s).slu = s.slu ∧
    (recomputeInUse s).osu = s.osu ∧
    (recomputeInUse s).als = s.als ∧
    (recomputeInUse s).csu = s.csu ∧
    (recomputeInUse s).mrh = s.mrh ∧
    (recomputeInUse s).pending = s.pending ∧
    (recomputeInUse s).within = s.within ∧
    (recomputeInUse s).sdu.part = s.sdu.part ∧
    (recomputeInUse s).sdu.deferred = s.sdu.deferred ∧
    (recomputeInUse s).sdu.reason = s.sdu.reason ∧
    (recomputeInUse s).sdu.cause = s.sdu.cause := by
  simp only [recomputeInUse]
  (repeat' split) <;> simp

@[simp] theorem windowReport_keeps (s : State) :
    (windowReport s).straps = s.straps ∧
    (windowReport s).tables = s.tables ∧
    (windowReport s).sit = s.sit ∧
    (windowReport s).opu = s.opu ∧
    (windowReport s).bru = s.bru ∧
    (windowReport s).osu = s.osu ∧
    (windowReport s).als = s.als ∧
    (windowReport s).csu = s.csu ∧
    (windowReport s).mrh = s.mrh ∧
    (windowReport s).pending = s.pending ∧
    (windowReport s).within = s.within ∧
    (windowReport s).sdu.part = s.sdu.part ∧
    (windowReport s).sdu.deferred = s.sdu.deferred ∧
    (windowReport s).sdu.reason = s.sdu.reason ∧
    (windowReport s).sdu.cause = s.sdu.cause := by
  simp only [windowReport]
  (repeat' split) <;> simp

@[simp] theorem positionUpdate_keeps (s : State) :
    (positionUpdate s).straps = s.straps ∧
    (positionUpdate s).tables = s.tables ∧
    (positionUpdate s).osu = s.osu ∧
    (positionUpdate s).als = s.als ∧
    (positionUpdate s).csu = s.csu ∧
    (positionUpdate s).mrh = s.mrh ∧
    (positionUpdate s).pending = s.pending ∧
    (positionUpdate s).within = s.within ∧
    (positionUpdate s).sdu.part = s.sdu.part ∧
    (positionUpdate s).sdu.deferred = s.sdu.deferred ∧
    (positionUpdate s).sdu.reason = s.sdu.reason ∧
    (positionUpdate s).sdu.cause = s.sdu.cause := by
  simp [positionUpdate]

end Sys2Proof.Machine
end

