-- ==== Sys2Proof/Laws/FramesSteering.lean ====
section
/-! SUPPORT. What the steering law, output shaping, the actuator links and the part state's entries leave as it
stands. -/

namespace Sys2Proof.Machine

/-! ## Steering Law Unit -/

@[simp] theorem readPoint_keeps (s : State) (n x : Nat) :
    ((readPoint s n x).1).straps = s.straps ∧
    ((readPoint s n x).1).tables = s.tables ∧
    ((readPoint s n x).1).sit = s.sit ∧
    ((readPoint s n x).1).bru = s.bru ∧
    ((readPoint s n x).1).slu = s.slu ∧
    ((readPoint s n x).1).osu = s.osu ∧
    ((readPoint s n x).1).als = s.als ∧
    ((readPoint s n x).1).pending = s.pending ∧
    ((readPoint s n x).1).sdu.part = s.sdu.part ∧
    ((readPoint s n x).1).sdu.deferred = s.sdu.deferred ∧
    ((readPoint s n x).1).sdu.reason = s.sdu.reason ∧
    ((readPoint s n x).1).sdu.cause = s.sdu.cause ∧
    ((readPoint s n x).1).opu.lastDistance = s.opu.lastDistance ∧
    ((readPoint s n x).1).opu.hold = s.opu.hold ∧
    ((readPoint s n x).1).opu.history = s.opu.history ∧
    ((readPoint s n x).1).opu.position = s.opu.position ∧
    ((readPoint s n x).1).opu.trail = s.opu.trail ∧
    ((readPoint s n x).1).opu.report = s.opu.report ∧
    ((readPoint s n x).1).opu.updateDue = s.opu.updateDue ∧
    ((readPoint s n x).1).mrh.posted = s.mrh.posted ∧
    ((readPoint s n x).1).mrh.confirmed = s.mrh.confirmed ∧
    ((readPoint s n x).1).csu.cycle = s.csu.cycle ∧
    ((readPoint s n x).1).csu.substitutes = s.csu.substitutes ∧
    ((readPoint s n x).1).csu.running = s.csu.running ∧
    ((readPoint s n x).1).csu.awaiting = s.csu.awaiting ∧
    ((readPoint s n x).1).csu.endReport = s.csu.endReport ∧
    ((readPoint s n x).1).csu.lastNumber = s.csu.lastNumber ∧
    ((readPoint s n x).1).csu.standbyStart = s.csu.standbyStart ∧
    ((readPoint s n x).1).csu.substTimer = s.csu.substTimer ∧
    ((readPoint s n x).1).csu.echoLimit = s.csu.echoLimit := by
  simp only [readPoint]
  (repeat' split) <;> simp

@[simp] theorem neighbourBeyond_keeps (s : State) (pt : RoutePoint) (length : Nat) :
    ((neighbourBeyond s pt length).1).straps = s.straps ∧
    ((neighbourBeyond s pt length).1).tables = s.tables ∧
    ((neighbourBeyond s pt length).1).sit = s.sit ∧
    ((neighbourBeyond s pt length).1).bru = s.bru ∧
    ((neighbourBeyond s pt length).1).slu = s.slu ∧
    ((neighbourBeyond s pt length).1).osu = s.osu ∧
    ((neighbourBeyond s pt length).1).als = s.als ∧
    ((neighbourBeyond s pt length).1).pending = s.pending ∧
    ((neighbourBeyond s pt length).1).sdu.part = s.sdu.part ∧
    ((neighbourBeyond s pt length).1).sdu.deferred = s.sdu.deferred ∧
    ((neighbourBeyond s pt length).1).sdu.reason = s.sdu.reason ∧
    ((neighbourBeyond s pt length).1).sdu.cause = s.sdu.cause ∧
    ((neighbourBeyond s pt length).1).opu.lastDistance = s.opu.lastDistance ∧
    ((neighbourBeyond s pt length).1).opu.hold = s.opu.hold ∧
    ((neighbourBeyond s pt length).1).opu.history = s.opu.history ∧
    ((neighbourBeyond s pt length).1).opu.position = s.opu.position ∧
    ((neighbourBeyond s pt length).1).opu.trail = s.opu.trail ∧
    ((neighbourBeyond s pt length).1).opu.report = s.opu.report ∧
    ((neighbourBeyond s pt length).1).opu.updateDue = s.opu.updateDue ∧
    ((neighbourBeyond s pt length).1).mrh.posted = s.mrh.posted ∧
    ((neighbourBeyond s pt length).1).mrh.confirmed = s.mrh.confirmed ∧
    ((neighbourBeyond s pt length).1).csu.cycle = s.csu.cycle ∧
    ((neighbourBeyond s pt length).1).csu.substitutes = s.csu.substitutes ∧
    ((neighbourBeyond s pt length).1).csu.running = s.csu.running ∧
    ((neighbourBeyond s pt length).1).csu.awaiting = s.csu.awaiting ∧
    ((neighbourBeyond s pt length).1).csu.endReport = s.csu.endReport ∧
    ((neighbourBeyond s pt length).1).csu.lastNumber = s.csu.lastNumber ∧
    ((neighbourBeyond s pt length).1).csu.standbyStart = s.csu.standbyStart ∧
    ((neighbourBeyond s pt length).1).csu.substTimer = s.csu.substTimer ∧
    ((neighbourBeyond s pt length).1).csu.echoLimit = s.csu.echoLimit := by
  simp only [neighbourBeyond]
  (repeat' split) <;> simp [walk_keeps_any]

@[simp] theorem neighbour_keeps (s : State) (pt : RoutePoint) (d : PointData) :
    ((neighbour s pt d).1).straps = s.straps ∧
    ((neighbour s pt d).1).tables = s.tables ∧
    ((neighbour s pt d).1).sit = s.sit ∧
    ((neighbour s pt d).1).bru = s.bru ∧
    ((neighbour s pt d).1).slu = s.slu ∧
    ((neighbour s pt d).1).osu = s.osu ∧
    ((neighbour s pt d).1).als = s.als ∧
    ((neighbour s pt d).1).pending = s.pending ∧
    ((neighbour s pt d).1).sdu.part = s.sdu.part ∧
    ((neighbour s pt d).1).sdu.deferred = s.sdu.deferred ∧
    ((neighbour s pt d).1).sdu.reason = s.sdu.reason ∧
    ((neighbour s pt d).1).sdu.cause = s.sdu.cause ∧
    ((neighbour s pt d).1).opu.lastDistance = s.opu.lastDistance ∧
    ((neighbour s pt d).1).opu.hold = s.opu.hold ∧
    ((neighbour s pt d).1).opu.history = s.opu.history ∧
    ((neighbour s pt d).1).opu.position = s.opu.position ∧
    ((neighbour s pt d).1).opu.trail = s.opu.trail ∧
    ((neighbour s pt d).1).opu.report = s.opu.report ∧
    ((neighbour s pt d).1).opu.updateDue = s.opu.updateDue ∧
    ((neighbour s pt d).1).mrh.posted = s.mrh.posted ∧
    ((neighbour s pt d).1).mrh.confirmed = s.mrh.confirmed ∧
    ((neighbour s pt d).1).csu.cycle = s.csu.cycle ∧
    ((neighbour s pt d).1).csu.substitutes = s.csu.substitutes ∧
    ((neighbour s pt d).1).csu.running = s.csu.running ∧
    ((neighbour s pt d).1).csu.awaiting = s.csu.awaiting ∧
    ((neighbour s pt d).1).csu.endReport = s.csu.endReport ∧
    ((neighbour s pt d).1).csu.lastNumber = s.csu.lastNumber ∧
    ((neighbour s pt d).1).csu.standbyStart = s.csu.standbyStart ∧
    ((neighbour s pt d).1).csu.substTimer = s.csu.substTimer ∧
    ((neighbour s pt d).1).csu.echoLimit = s.csu.echoLimit := by
  simp only [neighbour]
  (repeat' split) <;> simp

@[simp] theorem curvatureReading_keeps (s : State) (pt : RoutePoint) :
    ((curvatureReading s pt).1).straps = s.straps ∧
    ((curvatureReading s pt).1).tables = s.tables ∧
    ((curvatureReading s pt).1).sit = s.sit ∧
    ((curvatureReading s pt).1).bru = s.bru ∧
    ((curvatureReading s pt).1).slu = s.slu ∧
    ((curvatureReading s pt).1).osu = s.osu ∧
    ((curvatureReading s pt).1).als = s.als ∧
    ((curvatureReading s pt).1).pending = s.pending ∧
    ((curvatureReading s pt).1).sdu.part = s.sdu.part ∧
    ((curvatureReading s pt).1).sdu.deferred = s.sdu.deferred ∧
    ((curvatureReading s pt).1).sdu.reason = s.sdu.reason ∧
    ((curvatureReading s pt).1).sdu.cause = s.sdu.cause ∧
    ((curvatureReading s pt).1).opu.lastDistance = s.opu.lastDistance ∧
    ((curvatureReading s pt).1).opu.hold = s.opu.hold ∧
    ((curvatureReading s pt).1).opu.history = s.opu.history ∧
    ((curvatureReading s pt).1).opu.position = s.opu.position ∧
    ((curvatureReading s pt).1).opu.trail = s.opu.trail ∧
    ((curvatureReading s pt).1).opu.report = s.opu.report ∧
    ((curvatureReading s pt).1).opu.updateDue = s.opu.updateDue ∧
    ((curvatureReading s pt).1).mrh.posted = s.mrh.posted ∧
    ((curvatureReading s pt).1).mrh.confirmed = s.mrh.confirmed ∧
    ((curvatureReading s pt).1).csu.cycle = s.csu.cycle ∧
    ((curvatureReading s pt).1).csu.substitutes = s.csu.substitutes ∧
    ((curvatureReading s pt).1).csu.running = s.csu.running ∧
    ((curvatureReading s pt).1).csu.awaiting = s.csu.awaiting ∧
    ((curvatureReading s pt).1).csu.endReport = s.csu.endReport ∧
    ((curvatureReading s pt).1).csu.lastNumber = s.csu.lastNumber ∧
    ((curvatureReading s pt).1).csu.standbyStart = s.csu.standbyStart ∧
    ((curvatureReading s pt).1).csu.substTimer = s.csu.substTimer ∧
    ((curvatureReading s pt).1).csu.echoLimit = s.csu.echoLimit := by
  simp only [curvatureReading]
  (repeat' split) <;> simp

@[simp] theorem writeChannel_keeps (s : State) (c : ChannelId) (theta : Int) (r : ChannelRecord) :
    (writeChannel s c theta r).straps = s.straps ∧
    (writeChannel s c theta r).tables = s.tables ∧
    (writeChannel s c theta r).rpu = s.rpu ∧
    (writeChannel s c theta r).sit = s.sit ∧
    (writeChannel s c theta r).opu = s.opu ∧
    (writeChannel s c theta r).bru = s.bru ∧
    (writeChannel s c theta r).sgc = s.sgc ∧
    (writeChannel s c theta r).osu = s.osu ∧
    (writeChannel s c theta r).als = s.als ∧
    (writeChannel s c theta r).csu = s.csu ∧
    (writeChannel s c theta r).mrh = s.mrh ∧
    (writeChannel s c theta r).pending = s.pending ∧
    (writeChannel s c theta r).within = s.within ∧
    (writeChannel s c theta r).sdu.part = s.sdu.part ∧
    (writeChannel s c theta r).sdu.deferred = s.sdu.deferred ∧
    (writeChannel s c theta r).sdu.reason = s.sdu.reason ∧
    (writeChannel s c theta r).sdu.cause = s.sdu.cause := by
  simp [writeChannel]

@[simp] theorem keepChannel_keeps (s : State) (c : ChannelId) (r : ChannelRecord) :
    (keepChannel s c r).straps = s.straps ∧
    (keepChannel s c r).tables = s.tables ∧
    (keepChannel s c r).rpu = s.rpu ∧
    (keepChannel s c r).sit = s.sit ∧
    (keepChannel s c r).opu = s.opu ∧
    (keepChannel s c r).bru = s.bru ∧
    (keepChannel s c r).sgc = s.sgc ∧
    (keepChannel s c r).osu = s.osu ∧
    (keepChannel s c r).als = s.als ∧
    (keepChannel s c r).csu = s.csu ∧
    (keepChannel s c r).mrh = s.mrh ∧
    (keepChannel s c r).pending = s.pending ∧
    (keepChannel s c r).within = s.within ∧
    (keepChannel s c r).sdu.part = s.sdu.part ∧
    (keepChannel s c r).sdu.deferred = s.sdu.deferred ∧
    (keepChannel s c r).sdu.reason = s.sdu.reason ∧
    (keepChannel s c r).sdu.cause = s.sdu.cause := by
  simp [keepChannel]

@[simp] theorem zeroChannel_keeps (s : State) (c : ChannelId) :
    (zeroChannel s c).straps = s.straps ∧
    (zeroChannel s c).tables = s.tables ∧
    (zeroChannel s c).rpu = s.rpu ∧
    (zeroChannel s c).sit = s.sit ∧
    (zeroChannel s c).opu = s.opu ∧
    (zeroChannel s c).bru = s.bru ∧
    (zeroChannel s c).sgc = s.sgc ∧
    (zeroChannel s c).osu = s.osu ∧
    (zeroChannel s c).als = s.als ∧
    (zeroChannel s c).csu = s.csu ∧
    (zeroChannel s c).mrh = s.mrh ∧
    (zeroChannel s c).pending = s.pending ∧
    (zeroChannel s c).within = s.within ∧
    (zeroChannel s c).sdu = s.sdu := by
  simp [zeroChannel]

@[simp] theorem emptyRecord_keeps (s : State) (c : ChannelId) :
    (emptyRecord s c).straps = s.straps ∧
    (emptyRecord s c).tables = s.tables ∧
    (emptyRecord s c).rpu = s.rpu ∧
    (emptyRecord s c).sit = s.sit ∧
    (emptyRecord s c).opu = s.opu ∧
    (emptyRecord s c).bru = s.bru ∧
    (emptyRecord s c).sgc = s.sgc ∧
    (emptyRecord s c).osu = s.osu ∧
    (emptyRecord s c).als = s.als ∧
    (emptyRecord s c).csu = s.csu ∧
    (emptyRecord s c).mrh = s.mrh ∧
    (emptyRecord s c).pending = s.pending ∧
    (emptyRecord s c).within = s.within ∧
    (emptyRecord s c).sdu = s.sdu := by
  simp [emptyRecord]

@[simp] theorem channelCurvature_keeps (s : State) (axle : RoutePoint) (distance : Nat) :
    ((channelCurvature s axle distance).1).straps = s.straps ∧
    ((channelCurvature s axle distance).1).tables = s.tables ∧
    ((channelCurvature s axle distance).1).sit = s.sit ∧
    ((channelCurvature s axle distance).1).bru = s.bru ∧
    ((channelCurvature s axle distance).1).slu = s.slu ∧
    ((channelCurvature s axle distance).1).osu = s.osu ∧
    ((channelCurvature s axle distance).1).als = s.als ∧
    ((channelCurvature s axle distance).1).pending = s.pending ∧
    ((channelCurvature s axle distance).1).sdu.part = s.sdu.part ∧
    ((channelCurvature s axle distance).1).sdu.deferred = s.sdu.deferred ∧
    ((channelCurvature s axle distance).1).sdu.reason = s.sdu.reason ∧
    ((channelCurvature s axle distance).1).sdu.cause = s.sdu.cause ∧
    ((channelCurvature s axle distance).1).opu.lastDistance = s.opu.lastDistance ∧
    ((channelCurvature s axle distance).1).opu.hold = s.opu.hold ∧
    ((channelCurvature s axle distance).1).opu.history = s.opu.history ∧
    ((channelCurvature s axle distance).1).opu.position = s.opu.position ∧
    ((channelCurvature s axle distance).1).opu.trail = s.opu.trail ∧
    ((channelCurvature s axle distance).1).opu.report = s.opu.report ∧
    ((channelCurvature s axle distance).1).opu.updateDue = s.opu.updateDue ∧
    ((channelCurvature s axle distance).1).mrh.posted = s.mrh.posted ∧
    ((channelCurvature s axle distance).1).mrh.confirmed = s.mrh.confirmed ∧
    ((channelCurvature s axle distance).1).csu.cycle = s.csu.cycle ∧
    ((channelCurvature s axle distance).1).csu.substitutes = s.csu.substitutes ∧
    ((channelCurvature s axle distance).1).csu.running = s.csu.running ∧
    ((channelCurvature s axle distance).1).csu.awaiting = s.csu.awaiting ∧
    ((channelCurvature s axle distance).1).csu.endReport = s.csu.endReport ∧
    ((channelCurvature s axle distance).1).csu.lastNumber = s.csu.lastNumber ∧
    ((channelCurvature s axle distance).1).csu.standbyStart = s.csu.standbyStart ∧
    ((channelCurvature s axle distance).1).csu.substTimer = s.csu.substTimer ∧
    ((channelCurvature s axle distance).1).csu.echoLimit = s.csu.echoLimit := by
  simp only [channelCurvature]
  (repeat' split) <;> simp [walk_keeps_any]

@[simp] theorem computeChannel_keeps (s : State) (c : ChannelId) (semi : Nat) (axle : RoutePoint) :
    ((computeChannel s c semi axle).1).straps = s.straps ∧
    ((computeChannel s c semi axle).1).tables = s.tables ∧
    ((computeChannel s c semi axle).1).sit = s.sit ∧
    ((computeChannel s c semi axle).1).bru = s.bru ∧
    ((computeChannel s c semi axle).1).osu = s.osu ∧
    ((computeChannel s c semi axle).1).als = s.als ∧
    ((computeChannel s c semi axle).1).pending = s.pending ∧
    ((computeChannel s c semi axle).1).sdu.part = s.sdu.part ∧
    ((computeChannel s c semi axle).1).sdu.deferred = s.sdu.deferred ∧
    ((computeChannel s c semi axle).1).sdu.reason = s.sdu.reason ∧
    ((computeChannel s c semi axle).1).sdu.cause = s.sdu.cause ∧
    ((computeChannel s c semi axle).1).opu.lastDistance = s.opu.lastDistance ∧
    ((computeChannel s c semi axle).1).opu.hold = s.opu.hold ∧
    ((computeChannel s c semi axle).1).opu.history = s.opu.history ∧
    ((computeChannel s c semi axle).1).opu.position = s.opu.position ∧
    ((computeChannel s c semi axle).1).opu.trail = s.opu.trail ∧
    ((computeChannel s c semi axle).1).opu.report = s.opu.report ∧
    ((computeChannel s c semi axle).1).opu.updateDue = s.opu.updateDue ∧
    ((computeChannel s c semi axle).1).mrh.posted = s.mrh.posted ∧
    ((computeChannel s c semi axle).1).mrh.confirmed = s.mrh.confirmed ∧
    ((computeChannel s c semi axle).1).csu.cycle = s.csu.cycle ∧
    ((computeChannel s c semi axle).1).csu.substitutes = s.csu.substitutes ∧
    ((computeChannel s c semi axle).1).csu.running = s.csu.running ∧
    ((computeChannel s c semi axle).1).csu.awaiting = s.csu.awaiting ∧
    ((computeChannel s c semi axle).1).csu.endReport = s.csu.endReport ∧
    ((computeChannel s c semi axle).1).csu.lastNumber = s.csu.lastNumber ∧
    ((computeChannel s c semi axle).1).csu.standbyStart = s.csu.standbyStart ∧
    ((computeChannel s c semi axle).1).csu.substTimer = s.csu.substTimer ∧
    ((computeChannel s c semi axle).1).csu.echoLimit = s.csu.echoLimit := by
  simp only [computeChannel]
  (repeat' split) <;> simp

@[simp] theorem storeBogieState_keeps (s : State) (b : BogieId) (x : BogieState) :
    (storeBogieState s b x).straps = s.straps ∧
    (storeBogieState s b x).tables = s.tables ∧
    (storeBogieState s b x).rpu = s.rpu ∧
    (storeBogieState s b x).sit = s.sit ∧
    (storeBogieState s b x).opu = s.opu ∧
    (storeBogieState s b x).bru = s.bru ∧
    (storeBogieState s b x).sgc = s.sgc ∧
    (storeBogieState s b x).osu = s.osu ∧
    (storeBogieState s b x).als = s.als ∧
    (storeBogieState s b x).csu = s.csu ∧
    (storeBogieState s b x).mrh = s.mrh ∧
    (storeBogieState s b x).pending = s.pending ∧
    (storeBogieState s b x).within = s.within ∧
    (storeBogieState s b x).sdu.part = s.sdu.part ∧
    (storeBogieState s b x).sdu.deferred = s.sdu.deferred ∧
    (storeBogieState s b x).sdu.reason = s.sdu.reason ∧
    (storeBogieState s b x).sdu.cause = s.sdu.cause := by
  simp [storeBogieState]

@[simp] theorem determine_keeps (s : State) (b : BogieId) :
    (determine s b).straps = s.straps ∧
    (determine s b).tables = s.tables ∧
    (determine s b).sit = s.sit ∧
    (determine s b).bru = s.bru ∧
    (determine s b).osu = s.osu ∧
    (determine s b).als = s.als ∧
    (determine s b).pending = s.pending ∧
    (determine s b).sdu.part = s.sdu.part ∧
    (determine s b).sdu.deferred = s.sdu.deferred ∧
    (determine s b).sdu.reason = s.sdu.reason ∧
    (determine s b).sdu.cause = s.sdu.cause ∧
    (determine s b).opu.lastDistance = s.opu.lastDistance ∧
    (determine s b).opu.hold = s.opu.hold ∧
    (determine s b).opu.history = s.opu.history ∧
    (determine s b).opu.position = s.opu.position ∧
    (determine s b).opu.trail = s.opu.trail ∧
    (determine s b).opu.report = s.opu.report ∧
    (determine s b).opu.updateDue = s.opu.updateDue ∧
    (determine s b).mrh.posted = s.mrh.posted ∧
    (determine s b).mrh.confirmed = s.mrh.confirmed ∧
    (determine s b).csu.cycle = s.csu.cycle ∧
    (determine s b).csu.substitutes = s.csu.substitutes ∧
    (determine s b).csu.running = s.csu.running ∧
    (determine s b).csu.awaiting = s.csu.awaiting ∧
    (determine s b).csu.endReport = s.csu.endReport ∧
    (determine s b).csu.lastNumber = s.csu.lastNumber ∧
    (determine s b).csu.standbyStart = s.csu.standbyStart ∧
    (determine s b).csu.substTimer = s.csu.substTimer ∧
    (determine s b).csu.echoLimit = s.csu.echoLimit := by
  simp only [determine]
  (repeat' split) <;> simp

@[simp] theorem handOn_keeps (s : State) (b : BogieId) :
    (handOn s b).straps = s.straps ∧
    (handOn s b).tables = s.tables ∧
    (handOn s b).rpu = s.rpu ∧
    (handOn s b).sit = s.sit ∧
    (handOn s b).opu = s.opu ∧
    (handOn s b).bru = s.bru ∧
    (handOn s b).sgc = s.sgc ∧
    (handOn s b).slu = s.slu ∧
    (handOn s b).als = s.als ∧
    (handOn s b).mrh = s.mrh ∧
    (handOn s b).pending = s.pending ∧
    (handOn s b).within = s.within ∧
    (handOn s b).sdu = s.sdu := by
  simp only [handOn]
  (repeat' split) <;> simp

@[simp] theorem leaveActive_keeps (s : State) :
    (leaveActive s).straps = s.straps ∧
    (leaveActive s).tables = s.tables ∧
    (leaveActive s).rpu = s.rpu ∧
    (leaveActive s).sit = s.sit ∧
    (leaveActive s).opu = s.opu ∧
    (leaveActive s).bru = s.bru ∧
    (leaveActive s).sgc = s.sgc ∧
    (leaveActive s).osu = s.osu ∧
    (leaveActive s).als = s.als ∧
    (leaveActive s).csu = s.csu ∧
    (leaveActive s).mrh = s.mrh ∧
    (leaveActive s).pending = s.pending ∧
    (leaveActive s).within = s.within ∧
    (leaveActive s).sdu = s.sdu := by
  simp [leaveActive]

/-! ## Output Shaping Unit -/

@[simp] theorem writeTarget_keeps (s : State) (c : ChannelId) (code : Nat) (limited : Bool) :
    (writeTarget s c code limited).straps = s.straps ∧
    (writeTarget s c code limited).tables = s.tables ∧
    (writeTarget s c code limited).rpu = s.rpu ∧
    (writeTarget s c code limited).sit = s.sit ∧
    (writeTarget s c code limited).opu = s.opu ∧
    (writeTarget s c code limited).bru = s.bru ∧
    (writeTarget s c code limited).sgc = s.sgc ∧
    (writeTarget s c code limited).slu = s.slu ∧
    (writeTarget s c code limited).als = s.als ∧
    (writeTarget s c code limited).csu = s.csu ∧
    (writeTarget s c code limited).mrh = s.mrh ∧
    (writeTarget s c code limited).pending = s.pending ∧
    (writeTarget s c code limited).within = s.within ∧
    (writeTarget s c code limited).sdu = s.sdu := by
  simp [writeTarget]

@[simp] theorem shapeTargets_keeps (s : State) (b : BogieId) (targets : Int × Int) :
    (shapeTargets s b targets).straps = s.straps ∧
    (shapeTargets s b targets).tables = s.tables ∧
    (shapeTargets s b targets).rpu = s.rpu ∧
    (shapeTargets s b targets).sit = s.sit ∧
    (shapeTargets s b targets).opu = s.opu ∧
    (shapeTargets s b targets).bru = s.bru ∧
    (shapeTargets s b targets).sgc = s.sgc ∧
    (shapeTargets s b targets).slu = s.slu ∧
    (shapeTargets s b targets).als = s.als ∧
    (shapeTargets s b targets).csu = s.csu ∧
    (shapeTargets s b targets).mrh = s.mrh ∧
    (shapeTargets s b targets).pending = s.pending ∧
    (shapeTargets s b targets).within = s.within ∧
    (shapeTargets s b targets).sdu = s.sdu := by
  simp [shapeTargets]

@[simp] theorem shapeFallback_keeps (s : State) (b : BogieId) :
    (shapeFallback s b).straps = s.straps ∧
    (shapeFallback s b).tables = s.tables ∧
    (shapeFallback s b).rpu = s.rpu ∧
    (shapeFallback s b).sit = s.sit ∧
    (shapeFallback s b).opu = s.opu ∧
    (shapeFallback s b).bru = s.bru ∧
    (shapeFallback s b).sgc = s.sgc ∧
    (shapeFallback s b).slu = s.slu ∧
    (shapeFallback s b).als = s.als ∧
    (shapeFallback s b).csu = s.csu ∧
    (shapeFallback s b).mrh = s.mrh ∧
    (shapeFallback s b).pending = s.pending ∧
    (shapeFallback s b).within = s.within ∧
    (shapeFallback s b).sdu = s.sdu := by
  simp [shapeFallback]

@[simp] theorem shapeResult_keeps (s : State) (r : SteeringResult) :
    ((shapeResult s r).1).straps = s.straps ∧
    ((shapeResult s r).1).tables = s.tables ∧
    ((shapeResult s r).1).rpu = s.rpu ∧
    ((shapeResult s r).1).sit = s.sit ∧
    ((shapeResult s r).1).opu = s.opu ∧
    ((shapeResult s r).1).bru = s.bru ∧
    ((shapeResult s r).1).sgc = s.sgc ∧
    ((shapeResult s r).1).slu = s.slu ∧
    ((shapeResult s r).1).als = s.als ∧
    ((shapeResult s r).1).csu = s.csu ∧
    ((shapeResult s r).1).mrh = s.mrh ∧
    ((shapeResult s r).1).pending = s.pending ∧
    ((shapeResult s r).1).within = s.within ∧
    ((shapeResult s r).1).sdu = s.sdu := by
  unfold shapeResult
  split
  · simp
  · split <;> simp

@[simp] theorem issueCode_keeps (s : State) (c : ChannelId) (code : Nat) :
    (issueCode s c code).straps = s.straps ∧
    (issueCode s c code).tables = s.tables ∧
    (issueCode s c code).rpu = s.rpu ∧
    (issueCode s c code).sit = s.sit ∧
    (issueCode s c code).opu = s.opu ∧
    (issueCode s c code).bru = s.bru ∧
    (issueCode s c code).sgc = s.sgc ∧
    (issueCode s c code).slu = s.slu ∧
    (issueCode s c code).als = s.als ∧
    (issueCode s c code).csu = s.csu ∧
    (issueCode s c code).mrh = s.mrh ∧
    (issueCode s c code).pending = s.pending ∧
    (issueCode s c code).within = s.within ∧
    (issueCode s c code).sdu = s.sdu := by
  simp [issueCode]

@[simp] theorem issueFrame_keeps (s : State) (f : CommandFrame) :
    (issueFrame s f).straps = s.straps ∧
    (issueFrame s f).tables = s.tables ∧
    (issueFrame s f).rpu = s.rpu ∧
    (issueFrame s f).sit = s.sit ∧
    (issueFrame s f).opu = s.opu ∧
    (issueFrame s f).bru = s.bru ∧
    (issueFrame s f).sgc = s.sgc ∧
    (issueFrame s f).slu = s.slu ∧
    (issueFrame s f).als = s.als ∧
    (issueFrame s f).csu = s.csu ∧
    (issueFrame s f).mrh = s.mrh ∧
    (issueFrame s f).pending = s.pending ∧
    (issueFrame s f).within = s.within ∧
    (issueFrame s f).sdu = s.sdu := by
  simp [issueFrame]

@[simp] theorem copyError_keeps (s : State) (b : BogieId) :
    (copyError s b).straps = s.straps ∧
    (copyError s b).tables = s.tables ∧
    (copyError s b).sit = s.sit ∧
    (copyError s b).opu = s.opu ∧
    (copyError s b).bru = s.bru ∧
    (copyError s b).sgc = s.sgc ∧
    (copyError s b).slu = s.slu ∧
    (copyError s b).als = s.als ∧
    (copyError s b).csu = s.csu ∧
    (copyError s b).mrh = s.mrh ∧
    (copyError s b).pending = s.pending ∧
    (copyError s b).within = s.within ∧
    (copyError s b).sdu.part = s.sdu.part ∧
    (copyError s b).sdu.deferred = s.sdu.deferred ∧
    (copyError s b).sdu.reason = s.sdu.reason ∧
    (copyError s b).sdu.cause = s.sdu.cause := by
  simp [copyError]

@[simp] theorem clearIssued_keeps (s : State) :
    (clearIssued s).straps = s.straps ∧
    (clearIssued s).tables = s.tables ∧
    (clearIssued s).rpu = s.rpu ∧
    (clearIssued s).sit = s.sit ∧
    (clearIssued s).opu = s.opu ∧
    (clearIssued s).bru = s.bru ∧
    (clearIssued s).sgc = s.sgc ∧
    (clearIssued s).slu = s.slu ∧
    (clearIssued s).als = s.als ∧
    (clearIssued s).csu = s.csu ∧
    (clearIssued s).mrh = s.mrh ∧
    (clearIssued s).pending = s.pending ∧
    (clearIssued s).within = s.within ∧
    (clearIssued s).sdu = s.sdu := by
  simp [clearIssued]

/-! ## Actuator Link Supervisor -/

@[simp] theorem build_keeps (s : State) (b : BogieId) (pair : CodePair) :
    (build s b pair).straps = s.straps ∧
    (build s b pair).tables = s.tables ∧
    (build s b pair).sit = s.sit ∧
    (build s b pair).opu = s.opu ∧
    (build s b pair).bru = s.bru ∧
    (build s b pair).sgc = s.sgc ∧
    (build s b pair).slu = s.slu ∧
    (build s b pair).csu = s.csu ∧
    (build s b pair).mrh = s.mrh ∧
    (build s b pair).pending = s.pending ∧
    (build s b pair).within = s.within ∧
    (build s b pair).sdu.part = s.sdu.part ∧
    (build s b pair).sdu.deferred = s.sdu.deferred ∧
    (build s b pair).sdu.reason = s.sdu.reason ∧
    (build s b pair).sdu.cause = s.sdu.cause := by
  simp only [build]
  (repeat' split) <;> simp

@[simp] theorem takeOffer_keeps (s : State) (b : BogieId) (offer : Option CodePair) :
    (takeOffer s b offer).straps = s.straps ∧
    (takeOffer s b offer).tables = s.tables ∧
    (takeOffer s b offer).sit = s.sit ∧
    (takeOffer s b offer).opu = s.opu ∧
    (takeOffer s b offer).bru = s.bru ∧
    (takeOffer s b offer).sgc = s.sgc ∧
    (takeOffer s b offer).slu = s.slu ∧
    (takeOffer s b offer).csu = s.csu ∧
    (takeOffer s b offer).mrh = s.mrh ∧
    (takeOffer s b offer).pending = s.pending ∧
    (takeOffer s b offer).within = s.within ∧
    (takeOffer s b offer).sdu.part = s.sdu.part ∧
    (takeOffer s b offer).sdu.deferred = s.sdu.deferred ∧
    (takeOffer s b offer).sdu.reason = s.sdu.reason ∧
    (takeOffer s b offer).sdu.cause = s.sdu.cause := by
  simp only [takeOffer]
  (repeat' split) <;> simp

@[simp] theorem storeEcho_keeps (s : State) (b : BogieId) (e : Echo) :
    (storeEcho s b e).straps = s.straps ∧
    (storeEcho s b e).tables = s.tables ∧
    (storeEcho s b e).rpu = s.rpu ∧
    (storeEcho s b e).sit = s.sit ∧
    (storeEcho s b e).opu = s.opu ∧
    (storeEcho s b e).bru = s.bru ∧
    (storeEcho s b e).sgc = s.sgc ∧
    (storeEcho s b e).slu = s.slu ∧
    (storeEcho s b e).osu = s.osu ∧
    (storeEcho s b e).csu = s.csu ∧
    (storeEcho s b e).mrh = s.mrh ∧
    (storeEcho s b e).pending = s.pending ∧
    (storeEcho s b e).within = s.within ∧
    (storeEcho s b e).sdu.part = s.sdu.part ∧
    (storeEcho s b e).sdu.deferred = s.sdu.deferred ∧
    (storeEcho s b e).sdu.reason = s.sdu.reason ∧
    (storeEcho s b e).sdu.cause = s.sdu.cause := by
  simp [storeEcho]

@[simp] theorem answerEqual_keeps (s : State) (b : BogieId) :
    (answerEqual s b).straps = s.straps ∧
    (answerEqual s b).tables = s.tables ∧
    (answerEqual s b).sit = s.sit ∧
    (answerEqual s b).opu = s.opu ∧
    (answerEqual s b).bru = s.bru ∧
    (answerEqual s b).sgc = s.sgc ∧
    (answerEqual s b).slu = s.slu ∧
    (answerEqual s b).csu = s.csu ∧
    (answerEqual s b).mrh = s.mrh ∧
    (answerEqual s b).pending = s.pending ∧
    (answerEqual s b).within = s.within ∧
    (answerEqual s b).sdu.part = s.sdu.part ∧
    (answerEqual s b).sdu.deferred = s.sdu.deferred ∧
    (answerEqual s b).sdu.reason = s.sdu.reason ∧
    (answerEqual s b).sdu.cause = s.sdu.cause := by
  simp only [answerEqual]
  (repeat' split) <;> simp

@[simp] theorem answerDiffers_keeps (s : State) (b : BogieId) (o : Outstanding) :
    (answerDiffers s b o).straps = s.straps ∧
    (answerDiffers s b o).tables = s.tables ∧
    (answerDiffers s b o).sit = s.sit ∧
    (answerDiffers s b o).opu = s.opu ∧
    (answerDiffers s b o).bru = s.bru ∧
    (answerDiffers s b o).sgc = s.sgc ∧
    (answerDiffers s b o).slu = s.slu ∧
    (answerDiffers s b o).csu = s.csu ∧
    (answerDiffers s b o).mrh = s.mrh ∧
    (answerDiffers s b o).pending = s.pending ∧
    (answerDiffers s b o).within = s.within ∧
    (answerDiffers s b o).sdu.part = s.sdu.part ∧
    (answerDiffers s b o).sdu.deferred = s.sdu.deferred ∧
    (answerDiffers s b o).sdu.reason = s.sdu.reason ∧
    (answerDiffers s b o).sdu.cause = s.sdu.cause := by
  simp only [answerDiffers]
  (repeat' split) <;> simp

@[simp] theorem compareAnswer_keeps (s : State) (b : BogieId) (tag : Tag) (e : Echo) :
    (compareAnswer s b tag e).straps = s.straps ∧
    (compareAnswer s b tag e).tables = s.tables ∧
    (compareAnswer s b tag e).sit = s.sit ∧
    (compareAnswer s b tag e).opu = s.opu ∧
    (compareAnswer s b tag e).bru = s.bru ∧
    (compareAnswer s b tag e).sgc = s.sgc ∧
    (compareAnswer s b tag e).slu = s.slu ∧
    (compareAnswer s b tag e).csu = s.csu ∧
    (compareAnswer s b tag e).mrh = s.mrh ∧
    (compareAnswer s b tag e).pending = s.pending ∧
    (compareAnswer s b tag e).within = s.within ∧
    (compareAnswer s b tag e).sdu.part = s.sdu.part ∧
    (compareAnswer s b tag e).sdu.deferred = s.sdu.deferred ∧
    (compareAnswer s b tag e).sdu.reason = s.sdu.reason ∧
    (compareAnswer s b tag e).sdu.cause = s.sdu.cause := by
  simp only [compareAnswer]
  (repeat' split) <;> simp

@[simp] theorem handleAnswer_keeps (s : State) (source : Addr) (tag : Tag) (e : Echo) :
    (handleAnswer s source tag e).straps = s.straps ∧
    (handleAnswer s source tag e).tables = s.tables ∧
    (handleAnswer s source tag e).sit = s.sit ∧
    (handleAnswer s source tag e).opu = s.opu ∧
    (handleAnswer s source tag e).bru = s.bru ∧
    (handleAnswer s source tag e).sgc = s.sgc ∧
    (handleAnswer s source tag e).slu = s.slu ∧
    (handleAnswer s source tag e).csu = s.csu ∧
    (handleAnswer s source tag e).mrh = s.mrh ∧
    (handleAnswer s source tag e).pending = s.pending ∧
    (handleAnswer s source tag e).within = s.within ∧
    (handleAnswer s source tag e).sdu.part = s.sdu.part ∧
    (handleAnswer s source tag e).sdu.deferred = s.sdu.deferred ∧
    (handleAnswer s source tag e).sdu.reason = s.sdu.reason ∧
    (handleAnswer s source tag e).sdu.cause = s.sdu.cause := by
  simp only [handleAnswer]
  (repeat' split) <;> simp

@[simp] theorem handleNotice_keeps (s : State) (source : Addr) (e : Echo) :
    (handleNotice s source e).straps = s.straps ∧
    (handleNotice s source e).tables = s.tables ∧
    (handleNotice s source e).rpu = s.rpu ∧
    (handleNotice s source e).sit = s.sit ∧
    (handleNotice s source e).opu = s.opu ∧
    (handleNotice s source e).bru = s.bru ∧
    (handleNotice s source e).sgc = s.sgc ∧
    (handleNotice s source e).slu = s.slu ∧
    (handleNotice s source e).osu = s.osu ∧
    (handleNotice s source e).csu = s.csu ∧
    (handleNotice s source e).mrh = s.mrh ∧
    (handleNotice s source e).pending = s.pending ∧
    (handleNotice s source e).within = s.within ∧
    (handleNotice s source e).sdu.part = s.sdu.part ∧
    (handleNotice s source e).sdu.deferred = s.sdu.deferred ∧
    (handleNotice s source e).sdu.reason = s.sdu.reason ∧
    (handleNotice s source e).sdu.cause = s.sdu.cause := by
  simp only [handleNotice]
  (repeat' split) <;> simp

@[simp] theorem timeoutLink_keeps (s : State) (b : BogieId) :
    (timeoutLink s b).straps = s.straps ∧
    (timeoutLink s b).tables = s.tables ∧
    (timeoutLink s b).rpu = s.rpu ∧
    (timeoutLink s b).sit = s.sit ∧
    (timeoutLink s b).opu = s.opu ∧
    (timeoutLink s b).bru = s.bru ∧
    (timeoutLink s b).sgc = s.sgc ∧
    (timeoutLink s b).slu = s.slu ∧
    (timeoutLink s b).osu = s.osu ∧
    (timeoutLink s b).csu = s.csu ∧
    (timeoutLink s b).mrh = s.mrh ∧
    (timeoutLink s b).pending = s.pending ∧
    (timeoutLink s b).within = s.within ∧
    (timeoutLink s b).sdu.part = s.sdu.part ∧
    (timeoutLink s b).sdu.deferred = s.sdu.deferred ∧
    (timeoutLink s b).sdu.reason = s.sdu.reason ∧
    (timeoutLink s b).sdu.cause = s.sdu.cause := by
  simp only [timeoutLink]
  (repeat' split) <;> simp

theorem timeoutLinks_keeps (s : State) (bs : List (Fin 4)) :
    let t := bs.foldl timeoutLink s
    t.straps = s.straps ∧ t.tables = s.tables ∧ t.rpu = s.rpu ∧ t.sit = s.sit ∧ t.opu = s.opu ∧
    t.bru = s.bru ∧ t.sgc = s.sgc ∧ t.slu = s.slu ∧ t.osu = s.osu ∧ t.csu = s.csu ∧
    t.mrh = s.mrh ∧ t.pending = s.pending ∧ t.within = s.within ∧ t.sdu.part = s.sdu.part ∧
    t.sdu.deferred = s.sdu.deferred ∧ t.sdu.reason = s.sdu.reason ∧ t.sdu.cause = s.sdu.cause := by
  induction bs generalizing s with
  | nil => simp
  | cons b bs ih => simpa using ih (timeoutLink s b)

@[simp] theorem ageLinks_keeps (s : State) :
    (ageLinks s).straps = s.straps ∧
    (ageLinks s).tables = s.tables ∧
    (ageLinks s).rpu = s.rpu ∧
    (ageLinks s).sit = s.sit ∧
    (ageLinks s).opu = s.opu ∧
    (ageLinks s).bru = s.bru ∧
    (ageLinks s).sgc = s.sgc ∧
    (ageLinks s).slu = s.slu ∧
    (ageLinks s).osu = s.osu ∧
    (ageLinks s).csu = s.csu ∧
    (ageLinks s).mrh = s.mrh ∧
    (ageLinks s).pending = s.pending ∧
    (ageLinks s).within = s.within ∧
    (ageLinks s).sdu.part = s.sdu.part ∧
    (ageLinks s).sdu.deferred = s.sdu.deferred ∧
    (ageLinks s).sdu.reason = s.sdu.reason ∧
    (ageLinks s).sdu.cause = s.sdu.cause := by
  have h := timeoutLinks_keeps (s.setAls (s.als.map Link.older)) (List.finRange 4)
  simpa [ageLinks] using h

@[simp] theorem handleReturnedCommand_keeps (s : State) (d : Addr) :
    (handleReturnedCommand s d).straps = s.straps ∧
    (handleReturnedCommand s d).tables = s.tables ∧
    (handleReturnedCommand s d).rpu = s.rpu ∧
    (handleReturnedCommand s d).sit = s.sit ∧
    (handleReturnedCommand s d).opu = s.opu ∧
    (handleReturnedCommand s d).bru = s.bru ∧
    (handleReturnedCommand s d).sgc = s.sgc ∧
    (handleReturnedCommand s d).slu = s.slu ∧
    (handleReturnedCommand s d).osu = s.osu ∧
    (handleReturnedCommand s d).csu = s.csu ∧
    (handleReturnedCommand s d).mrh = s.mrh ∧
    (handleReturnedCommand s d).pending = s.pending ∧
    (handleReturnedCommand s d).within = s.within ∧
    (handleReturnedCommand s d).sdu.part = s.sdu.part ∧
    (handleReturnedCommand s d).sdu.deferred = s.sdu.deferred ∧
    (handleReturnedCommand s d).sdu.reason = s.sdu.reason ∧
    (handleReturnedCommand s d).sdu.cause = s.sdu.cause := by
  simp only [handleReturnedCommand]
  (repeat' split) <;> simp

@[simp] theorem restartLink_keeps (s : State) (b : BogieId) :
    (restartLink s b).straps = s.straps ∧
    (restartLink s b).tables = s.tables ∧
    (restartLink s b).sit = s.sit ∧
    (restartLink s b).opu = s.opu ∧
    (restartLink s b).bru = s.bru ∧
    (restartLink s b).sgc = s.sgc ∧
    (restartLink s b).slu = s.slu ∧
    (restartLink s b).osu = s.osu ∧
    (restartLink s b).csu = s.csu ∧
    (restartLink s b).mrh = s.mrh ∧
    (restartLink s b).pending = s.pending ∧
    (restartLink s b).within = s.within ∧
    (restartLink s b).sdu.part = s.sdu.part ∧
    (restartLink s b).sdu.deferred = s.sdu.deferred ∧
    (restartLink s b).sdu.reason = s.sdu.reason ∧
    (restartLink s b).sdu.cause = s.sdu.cause := by
  simp [restartLink]

@[simp] theorem endLinks_keeps (s : State) :
    (endLinks s).straps = s.straps ∧
    (endLinks s).tables = s.tables ∧
    (endLinks s).sit = s.sit ∧
    (endLinks s).opu = s.opu ∧
    (endLinks s).bru = s.bru ∧
    (endLinks s).sgc = s.sgc ∧
    (endLinks s).slu = s.slu ∧
    (endLinks s).osu = s.osu ∧
    (endLinks s).csu = s.csu ∧
    (endLinks s).mrh = s.mrh ∧
    (endLinks s).pending = s.pending ∧
    (endLinks s).within = s.within ∧
    (endLinks s).sdu = s.sdu := by
  simp [endLinks]

@[simp] theorem fallbackLinks_keeps (s : State) :
    (fallbackLinks s).straps = s.straps ∧
    (fallbackLinks s).tables = s.tables ∧
    (fallbackLinks s).sit = s.sit ∧
    (fallbackLinks s).opu = s.opu ∧
    (fallbackLinks s).bru = s.bru ∧
    (fallbackLinks s).sgc = s.sgc ∧
    (fallbackLinks s).slu = s.slu ∧
    (fallbackLinks s).osu = s.osu ∧
    (fallbackLinks s).csu = s.csu ∧
    (fallbackLinks s).mrh = s.mrh ∧
    (fallbackLinks s).pending = s.pending ∧
    (fallbackLinks s).within = s.within ∧
    (fallbackLinks s).sdu = s.sdu := by
  simp [fallbackLinks]

/-! ## Part states -/

@[simp] theorem leaveIfActive_keeps (s : State) :
    (leaveIfActive s).straps = s.straps ∧
    (leaveIfActive s).tables = s.tables ∧
    (leaveIfActive s).rpu = s.rpu ∧
    (leaveIfActive s).sit = s.sit ∧
    (leaveIfActive s).opu = s.opu ∧
    (leaveIfActive s).bru = s.bru ∧
    (leaveIfActive s).sgc = s.sgc ∧
    (leaveIfActive s).osu = s.osu ∧
    (leaveIfActive s).als = s.als ∧
    (leaveIfActive s).csu = s.csu ∧
    (leaveIfActive s).mrh = s.mrh ∧
    (leaveIfActive s).pending = s.pending ∧
    (leaveIfActive s).within = s.within ∧
    (leaveIfActive s).sdu = s.sdu := by
  simp only [leaveIfActive]
  (repeat' split) <;> simp

@[simp] theorem endLookupsIfLeft_keeps (s : State) (was : PartState) :
    (endLookupsIfLeft was s).straps = s.straps ∧
    (endLookupsIfLeft was s).tables = s.tables ∧
    (endLookupsIfLeft was s).sit = s.sit ∧
    (endLookupsIfLeft was s).opu = s.opu ∧
    (endLookupsIfLeft was s).bru = s.bru ∧
    (endLookupsIfLeft was s).slu = s.slu ∧
    (endLookupsIfLeft was s).osu = s.osu ∧
    (endLookupsIfLeft was s).als = s.als ∧
    (endLookupsIfLeft was s).csu = s.csu ∧
    (endLookupsIfLeft was s).mrh = s.mrh ∧
    (endLookupsIfLeft was s).pending = s.pending ∧
    (endLookupsIfLeft was s).within = s.within ∧
    (endLookupsIfLeft was s).sdu.part = s.sdu.part ∧
    (endLookupsIfLeft was s).sdu.deferred = s.sdu.deferred ∧
    (endLookupsIfLeft was s).sdu.reason = s.sdu.reason ∧
    (endLookupsIfLeft was s).sdu.cause = s.sdu.cause := by
  simp only [endLookupsIfLeft]
  (repeat' split) <;> simp

@[simp] theorem enterConfig_keeps (s : State) :
    (enterConfig s).straps = s.straps ∧
    (enterConfig s).tables = s.tables ∧
    (enterConfig s).sit = s.sit ∧
    (enterConfig s).opu = s.opu ∧
    (enterConfig s).bru = s.bru ∧
    (enterConfig s).osu = s.osu ∧
    (enterConfig s).mrh = s.mrh ∧
    (enterConfig s).pending = s.pending ∧
    (enterConfig s).within = s.within ∧
    (enterConfig s).sdu.reason = s.sdu.reason ∧
    (enterConfig s).sdu.cause = s.sdu.cause := by
  simp [enterConfig]

@[simp] theorem enterStandby_keeps (s : State) :
    (enterStandby s).straps = s.straps ∧
    (enterStandby s).tables = s.tables ∧
    (enterStandby s).sit = s.sit ∧
    (enterStandby s).opu = s.opu ∧
    (enterStandby s).bru = s.bru ∧
    (enterStandby s).mrh = s.mrh ∧
    (enterStandby s).pending = s.pending ∧
    (enterStandby s).within = s.within ∧
    (enterStandby s).sdu.reason = s.sdu.reason ∧
    (enterStandby s).sdu.cause = s.sdu.cause := by
  simp [enterStandby]

@[simp] theorem enterActive_keeps (s : State) :
    (enterActive s).straps = s.straps ∧
    (enterActive s).tables = s.tables ∧
    (enterActive s).rpu = s.rpu ∧
    (enterActive s).sit = s.sit ∧
    (enterActive s).opu = s.opu ∧
    (enterActive s).bru = s.bru ∧
    (enterActive s).sgc = s.sgc ∧
    (enterActive s).slu = s.slu ∧
    (enterActive s).osu = s.osu ∧
    (enterActive s).als = s.als ∧
    (enterActive s).csu = s.csu ∧
    (enterActive s).mrh = s.mrh ∧
    (enterActive s).pending = s.pending ∧
    (enterActive s).within = s.within ∧
    (enterActive s).sdu.reason = s.sdu.reason ∧
    (enterActive s).sdu.cause = s.sdu.cause ∧
    (enterActive s).sdu.flags = s.sdu.flags := by
  simp [enterActive]

@[simp] theorem enterFallback_keeps (s : State) :
    (enterFallback s).straps = s.straps ∧
    (enterFallback s).tables = s.tables ∧
    (enterFallback s).sit = s.sit ∧
    (enterFallback s).opu = s.opu ∧
    (enterFallback s).bru = s.bru ∧
    (enterFallback s).osu = s.osu ∧
    (enterFallback s).mrh = s.mrh ∧
    (enterFallback s).pending = s.pending ∧
    (enterFallback s).within = s.within ∧
    (enterFallback s).sdu.reason = s.sdu.reason ∧
    (enterFallback s).sdu.cause = s.sdu.cause := by
  simp [enterFallback]

@[simp] theorem testSupervision_keeps (s : State) :
    (testSupervision s).straps = s.straps ∧
    (testSupervision s).tables = s.tables ∧
    (testSupervision s).sit = s.sit ∧
    (testSupervision s).opu = s.opu ∧
    (testSupervision s).bru = s.bru ∧
    (testSupervision s).osu = s.osu ∧
    (testSupervision s).mrh = s.mrh ∧
    (testSupervision s).pending = s.pending ∧
    (testSupervision s).within = s.within ∧
    (testSupervision s).sdu.reason = s.sdu.reason ∧
    (testSupervision s).sdu.cause = s.sdu.cause := by
  simp only [testSupervision]
  (repeat' split) <;> simp

@[simp] theorem expireSupervision_keeps (s : State) :
    (expireSupervision s).straps = s.straps ∧
    (expireSupervision s).tables = s.tables ∧
    (expireSupervision s).sit = s.sit ∧
    (expireSupervision s).opu = s.opu ∧
    (expireSupervision s).bru = s.bru ∧
    (expireSupervision s).osu = s.osu ∧
    (expireSupervision s).mrh = s.mrh ∧
    (expireSupervision s).pending = s.pending ∧
    (expireSupervision s).within = s.within ∧
    (expireSupervision s).sdu.reason = s.sdu.reason ∧
    (expireSupervision s).sdu.cause = s.sdu.cause := by
  simp [expireSupervision]

end Sys2Proof.Machine
end

