-- ==== Sys2Proof/Laws/FramesCycle.lean ====
section
/-! SUPPORT. What the application of requests, the cycle's events and the passing of time leave as it stands. -/

namespace Sys2Proof.Machine

/-! ## Tables -/

@[simp] theorem applySource_keeps (s : State) (i : Fin 24) (e : Option SourceEntry) :
    (applySource s i e).straps = s.straps ∧
    (applySource s i e).rpu = s.rpu ∧
    (applySource s i e).opu = s.opu ∧
    (applySource s i e).bru = s.bru ∧
    (applySource s i e).sgc = s.sgc ∧
    (applySource s i e).slu = s.slu ∧
    (applySource s i e).osu = s.osu ∧
    (applySource s i e).als = s.als ∧
    (applySource s i e).csu = s.csu ∧
    (applySource s i e).mrh = s.mrh ∧
    (applySource s i e).pending = s.pending ∧
    (applySource s i e).within = s.within ∧
    (applySource s i e).sdu.part = s.sdu.part ∧
    (applySource s i e).sdu.deferred = s.sdu.deferred ∧
    (applySource s i e).sdu.reason = s.sdu.reason ∧
    (applySource s i e).sdu.cause = s.sdu.cause := by
  simp only [applySource]
  (repeat' split) <;> simp

@[simp] theorem storeAxle_keeps (s : State) (i : Fin 8) (e : Option AxleEntry) :
    (storeAxle s i e).straps = s.straps ∧
    (storeAxle s i e).rpu = s.rpu ∧
    (storeAxle s i e).sit = s.sit ∧
    (storeAxle s i e).opu = s.opu ∧
    (storeAxle s i e).bru = s.bru ∧
    (storeAxle s i e).sgc = s.sgc ∧
    (storeAxle s i e).slu = s.slu ∧
    (storeAxle s i e).osu = s.osu ∧
    (storeAxle s i e).als = s.als ∧
    (storeAxle s i e).csu = s.csu ∧
    (storeAxle s i e).mrh = s.mrh ∧
    (storeAxle s i e).pending = s.pending ∧
    (storeAxle s i e).within = s.within ∧
    (storeAxle s i e).sdu = s.sdu := by
  simp [storeAxle]

@[simp] theorem applyAxle_keeps (s : State) (i : Fin 8) (e : Option AxleEntry) :
    (applyAxle s i e).straps = s.straps ∧
    (applyAxle s i e).rpu = s.rpu ∧
    (applyAxle s i e).sit = s.sit ∧
    (applyAxle s i e).opu = s.opu ∧
    (applyAxle s i e).bru = s.bru ∧
    (applyAxle s i e).sgc = s.sgc ∧
    (applyAxle s i e).slu = s.slu ∧
    (applyAxle s i e).osu = s.osu ∧
    (applyAxle s i e).als = s.als ∧
    (applyAxle s i e).csu = s.csu ∧
    (applyAxle s i e).mrh = s.mrh ∧
    (applyAxle s i e).pending = s.pending ∧
    (applyAxle s i e).within = s.within ∧
    (applyAxle s i e).sdu.part = s.sdu.part ∧
    (applyAxle s i e).sdu.deferred = s.sdu.deferred ∧
    (applyAxle s i e).sdu.reason = s.sdu.reason ∧
    (applyAxle s i e).sdu.cause = s.sdu.cause := by
  simp only [applyAxle]
  (repeat' split) <;> simp

@[simp] theorem storeBeacon_keeps (s : State) (i : Fin 64) (e : Option BeaconEntry) :
    (storeBeacon s i e).straps = s.straps ∧
    (storeBeacon s i e).rpu = s.rpu ∧
    (storeBeacon s i e).sit = s.sit ∧
    (storeBeacon s i e).opu = s.opu ∧
    (storeBeacon s i e).bru = s.bru ∧
    (storeBeacon s i e).sgc = s.sgc ∧
    (storeBeacon s i e).slu = s.slu ∧
    (storeBeacon s i e).osu = s.osu ∧
    (storeBeacon s i e).als = s.als ∧
    (storeBeacon s i e).csu = s.csu ∧
    (storeBeacon s i e).mrh = s.mrh ∧
    (storeBeacon s i e).pending = s.pending ∧
    (storeBeacon s i e).within = s.within ∧
    (storeBeacon s i e).sdu = s.sdu := by
  simp [storeBeacon]

@[simp] theorem applyBeacon_keeps (s : State) (i : Fin 64) (e : Option BeaconEntry) :
    (applyBeacon s i e).straps = s.straps ∧
    (applyBeacon s i e).rpu = s.rpu ∧
    (applyBeacon s i e).sit = s.sit ∧
    (applyBeacon s i e).opu = s.opu ∧
    (applyBeacon s i e).bru = s.bru ∧
    (applyBeacon s i e).sgc = s.sgc ∧
    (applyBeacon s i e).slu = s.slu ∧
    (applyBeacon s i e).osu = s.osu ∧
    (applyBeacon s i e).als = s.als ∧
    (applyBeacon s i e).csu = s.csu ∧
    (applyBeacon s i e).mrh = s.mrh ∧
    (applyBeacon s i e).pending = s.pending ∧
    (applyBeacon s i e).within = s.within ∧
    (applyBeacon s i e).sdu.part = s.sdu.part ∧
    (applyBeacon s i e).sdu.deferred = s.sdu.deferred ∧
    (applyBeacon s i e).sdu.reason = s.sdu.reason ∧
    (applyBeacon s i e).sdu.cause = s.sdu.cause := by
  simp only [applyBeacon]
  (repeat' split) <;> simp

@[simp] theorem storeBogie_keeps (s : State) (i : Fin 4) (e : BogieEntry) :
    (storeBogie s i e).straps = s.straps ∧
    (storeBogie s i e).sit = s.sit ∧
    (storeBogie s i e).opu = s.opu ∧
    (storeBogie s i e).bru = s.bru ∧
    (storeBogie s i e).sgc = s.sgc ∧
    (storeBogie s i e).slu = s.slu ∧
    (storeBogie s i e).osu = s.osu ∧
    (storeBogie s i e).csu = s.csu ∧
    (storeBogie s i e).mrh = s.mrh ∧
    (storeBogie s i e).pending = s.pending ∧
    (storeBogie s i e).within = s.within ∧
    (storeBogie s i e).sdu.part = s.sdu.part ∧
    (storeBogie s i e).sdu.deferred = s.sdu.deferred ∧
    (storeBogie s i e).sdu.reason = s.sdu.reason ∧
    (storeBogie s i e).sdu.cause = s.sdu.cause := by
  simp only [storeBogie]
  (repeat' split) <;> simp

@[simp] theorem applyBogie_keeps (s : State) (i : Fin 4) (e : BogieEntry) :
    (applyBogie s i e).straps = s.straps ∧
    (applyBogie s i e).sit = s.sit ∧
    (applyBogie s i e).opu = s.opu ∧
    (applyBogie s i e).bru = s.bru ∧
    (applyBogie s i e).sgc = s.sgc ∧
    (applyBogie s i e).slu = s.slu ∧
    (applyBogie s i e).osu = s.osu ∧
    (applyBogie s i e).csu = s.csu ∧
    (applyBogie s i e).mrh = s.mrh ∧
    (applyBogie s i e).pending = s.pending ∧
    (applyBogie s i e).within = s.within ∧
    (applyBogie s i e).sdu.part = s.sdu.part ∧
    (applyBogie s i e).sdu.deferred = s.sdu.deferred ∧
    (applyBogie s i e).sdu.reason = s.sdu.reason ∧
    (applyBogie s i e).sdu.cause = s.sdu.cause := by
  simp only [applyBogie]
  (repeat' split) <;> simp

@[simp] theorem applyChannel_keeps (s : State) (i : Fin 8) (e : ChannelEntry) :
    (applyChannel s i e).straps = s.straps ∧
    (applyChannel s i e).rpu = s.rpu ∧
    (applyChannel s i e).sit = s.sit ∧
    (applyChannel s i e).opu = s.opu ∧
    (applyChannel s i e).bru = s.bru ∧
    (applyChannel s i e).sgc = s.sgc ∧
    (applyChannel s i e).slu = s.slu ∧
    (applyChannel s i e).osu = s.osu ∧
    (applyChannel s i e).als = s.als ∧
    (applyChannel s i e).csu = s.csu ∧
    (applyChannel s i e).mrh = s.mrh ∧
    (applyChannel s i e).pending = s.pending ∧
    (applyChannel s i e).within = s.within ∧
    (applyChannel s i e).sdu.part = s.sdu.part ∧
    (applyChannel s i e).sdu.deferred = s.sdu.deferred ∧
    (applyChannel s i e).sdu.reason = s.sdu.reason ∧
    (applyChannel s i e).sdu.cause = s.sdu.cause := by
  simp [applyChannel]

@[simp] theorem applyPosition_keeps (s : State) (segment offset : Nat) (trail : List TrailEntry) :
    (applyPosition s segment offset trail).straps = s.straps ∧
    (applyPosition s segment offset trail).tables = s.tables ∧
    (applyPosition s segment offset trail).rpu = s.rpu ∧
    (applyPosition s segment offset trail).sit = s.sit ∧
    (applyPosition s segment offset trail).sgc = s.sgc ∧
    (applyPosition s segment offset trail).slu = s.slu ∧
    (applyPosition s segment offset trail).osu = s.osu ∧
    (applyPosition s segment offset trail).als = s.als ∧
    (applyPosition s segment offset trail).csu = s.csu ∧
    (applyPosition s segment offset trail).mrh = s.mrh ∧
    (applyPosition s segment offset trail).pending = s.pending ∧
    (applyPosition s segment offset trail).within = s.within ∧
    (applyPosition s segment offset trail).sdu = s.sdu := by
  simp [applyPosition]

@[simp] theorem applyRequest_keeps (s : State) (r : HeldRequest) :
    (applyRequest s r).straps = s.straps ∧
    (applyRequest s r).slu = s.slu ∧
    (applyRequest s r).osu = s.osu ∧
    (applyRequest s r).csu = s.csu ∧
    (applyRequest s r).mrh = s.mrh ∧
    (applyRequest s r).pending = s.pending ∧
    (applyRequest s r).within = s.within ∧
    (applyRequest s r).sdu.part = s.sdu.part ∧
    (applyRequest s r).sdu.deferred = s.sdu.deferred ∧
    (applyRequest s r).sdu.reason = s.sdu.reason ∧
    (applyRequest s r).sdu.cause = s.sdu.cause := by
  cases r <;> simp [applyRequest]

/-! ## Cycle -/

@[simp] theorem becomeIdle_keeps (s : State) :
    (becomeIdle s).straps = s.straps ∧
    (becomeIdle s).tables = s.tables ∧
    (becomeIdle s).rpu = s.rpu ∧
    (becomeIdle s).sit = s.sit ∧
    (becomeIdle s).opu = s.opu ∧
    (becomeIdle s).bru = s.bru ∧
    (becomeIdle s).sgc = s.sgc ∧
    (becomeIdle s).slu = s.slu ∧
    (becomeIdle s).osu = s.osu ∧
    (becomeIdle s).als = s.als ∧
    (becomeIdle s).mrh = s.mrh ∧
    (becomeIdle s).pending = s.pending ∧
    (becomeIdle s).within = s.within ∧
    (becomeIdle s).sdu = s.sdu := by
  simp [becomeIdle]

@[simp] theorem applyPosted_keeps (s : State) :
    (applyPosted s).straps = s.straps ∧
    (applyPosted s).slu = s.slu ∧
    (applyPosted s).osu = s.osu ∧
    (applyPosted s).csu = s.csu ∧
    (applyPosted s).pending = s.pending ∧
    (applyPosted s).within = s.within ∧
    (applyPosted s).sdu.part = s.sdu.part ∧
    (applyPosted s).sdu.deferred = s.sdu.deferred ∧
    (applyPosted s).sdu.reason = s.sdu.reason ∧
    (applyPosted s).sdu.cause = s.sdu.cause := by
  simp only [applyPosted]
  (repeat' split) <;> simp

@[simp] theorem takeDeferred_keeps (s : State) :
    (takeDeferred s).straps = s.straps ∧
    (takeDeferred s).tables = s.tables ∧
    (takeDeferred s).rpu = s.rpu ∧
    (takeDeferred s).sit = s.sit ∧
    (takeDeferred s).opu = s.opu ∧
    (takeDeferred s).bru = s.bru ∧
    (takeDeferred s).sgc = s.sgc ∧
    (takeDeferred s).slu = s.slu ∧
    (takeDeferred s).osu = s.osu ∧
    (takeDeferred s).als = s.als ∧
    (takeDeferred s).csu = s.csu ∧
    (takeDeferred s).mrh = s.mrh ∧
    (takeDeferred s).pending = s.pending ∧
    (takeDeferred s).within = s.within ∧
    (takeDeferred s).sdu.cause = s.sdu.cause ∧
    (takeDeferred s).sdu.flags = s.sdu.flags := by
  simp only [takeDeferred]
  (repeat' split) <;> simp

@[simp] theorem closeCycle_keeps (s : State) :
    (closeCycle s).straps = s.straps ∧
    (closeCycle s).osu = s.osu ∧
    (closeCycle s).pending = s.pending ∧
    (closeCycle s).within = s.within ∧
    (closeCycle s).sdu.cause = s.sdu.cause := by
  simp [closeCycle]

@[simp] theorem closeIfDue_keeps (s : State) :
    (closeIfDue s).straps = s.straps ∧
    (closeIfDue s).osu = s.osu ∧
    (closeIfDue s).pending = s.pending ∧
    (closeIfDue s).within = s.within ∧
    (closeIfDue s).sdu.cause = s.sdu.cause := by
  simp only [closeIfDue]
  (repeat' split) <;> simp

@[simp] theorem beginCycle_keeps (s : State) :
    (beginCycle s).straps = s.straps ∧
    (beginCycle s).tables = s.tables ∧
    (beginCycle s).rpu = s.rpu ∧
    (beginCycle s).sit = s.sit ∧
    (beginCycle s).opu = s.opu ∧
    (beginCycle s).bru = s.bru ∧
    (beginCycle s).sgc = s.sgc ∧
    (beginCycle s).slu = s.slu ∧
    (beginCycle s).osu = s.osu ∧
    (beginCycle s).als = s.als ∧
    (beginCycle s).mrh = s.mrh ∧
    (beginCycle s).pending = s.pending ∧
    (beginCycle s).within = s.within ∧
    (beginCycle s).sdu = s.sdu := by
  simp [beginCycle]

@[simp] theorem takeMark_keeps (s : State) :
    (takeMark s).straps = s.straps ∧
    (takeMark s).tables = s.tables ∧
    (takeMark s).rpu = s.rpu ∧
    (takeMark s).bru = s.bru ∧
    (takeMark s).slu = s.slu ∧
    (takeMark s).osu = s.osu ∧
    (takeMark s).mrh = s.mrh ∧
    (takeMark s).pending = s.pending ∧
    (takeMark s).within = s.within ∧
    (takeMark s).sdu.part = s.sdu.part ∧
    (takeMark s).sdu.deferred = s.sdu.deferred ∧
    (takeMark s).sdu.reason = s.sdu.reason ∧
    (takeMark s).sdu.cause = s.sdu.cause := by
  simp [takeMark]

@[simp] theorem reloadSubstitute_keeps (s : State) (n : Nat) :
    (reloadSubstitute s n).straps = s.straps ∧
    (reloadSubstitute s n).tables = s.tables ∧
    (reloadSubstitute s n).rpu = s.rpu ∧
    (reloadSubstitute s n).sit = s.sit ∧
    (reloadSubstitute s n).opu = s.opu ∧
    (reloadSubstitute s n).bru = s.bru ∧
    (reloadSubstitute s n).sgc = s.sgc ∧
    (reloadSubstitute s n).slu = s.slu ∧
    (reloadSubstitute s n).osu = s.osu ∧
    (reloadSubstitute s n).als = s.als ∧
    (reloadSubstitute s n).mrh = s.mrh ∧
    (reloadSubstitute s n).pending = s.pending ∧
    (reloadSubstitute s n).within = s.within ∧
    (reloadSubstitute s n).sdu = s.sdu := by
  simp [reloadSubstitute]

@[simp] theorem hearCycle_keeps (s : State) (n : Nat) :
    (hearCycle s n).straps = s.straps ∧
    (hearCycle s n).tables = s.tables ∧
    (hearCycle s n).rpu = s.rpu ∧
    (hearCycle s n).sit = s.sit ∧
    (hearCycle s n).opu = s.opu ∧
    (hearCycle s n).bru = s.bru ∧
    (hearCycle s n).sgc = s.sgc ∧
    (hearCycle s n).slu = s.slu ∧
    (hearCycle s n).osu = s.osu ∧
    (hearCycle s n).als = s.als ∧
    (hearCycle s n).mrh = s.mrh ∧
    (hearCycle s n).pending = s.pending ∧
    (hearCycle s n).within = s.within ∧
    (hearCycle s n).sdu.part = s.sdu.part ∧
    (hearCycle s n).sdu.deferred = s.sdu.deferred ∧
    (hearCycle s n).sdu.reason = s.sdu.reason ∧
    (hearCycle s n).sdu.cause = s.sdu.cause := by
  simp only [hearCycle]
  (repeat' split) <;> simp

@[simp] theorem handleCycle_keeps (s : State) (payload : List Word) :
    (handleCycle s payload).straps = s.straps ∧
    (handleCycle s payload).tables = s.tables ∧
    (handleCycle s payload).rpu = s.rpu ∧
    (handleCycle s payload).bru = s.bru ∧
    (handleCycle s payload).slu = s.slu ∧
    (handleCycle s payload).osu = s.osu ∧
    (handleCycle s payload).mrh = s.mrh ∧
    (handleCycle s payload).pending = s.pending ∧
    (handleCycle s payload).within = s.within ∧
    (handleCycle s payload).sdu.part = s.sdu.part ∧
    (handleCycle s payload).sdu.deferred = s.sdu.deferred ∧
    (handleCycle s payload).sdu.reason = s.sdu.reason ∧
    (handleCycle s payload).sdu.cause = s.sdu.cause := by
  simp only [handleCycle]
  (repeat' split) <;> simp

@[simp] theorem expireSubstitute_keeps (s : State) :
    (expireSubstitute s).straps = s.straps ∧
    (expireSubstitute s).tables = s.tables ∧
    (expireSubstitute s).rpu = s.rpu ∧
    (expireSubstitute s).bru = s.bru ∧
    (expireSubstitute s).slu = s.slu ∧
    (expireSubstitute s).osu = s.osu ∧
    (expireSubstitute s).mrh = s.mrh ∧
    (expireSubstitute s).pending = s.pending ∧
    (expireSubstitute s).within = s.within ∧
    (expireSubstitute s).sdu.part = s.sdu.part ∧
    (expireSubstitute s).sdu.deferred = s.sdu.deferred ∧
    (expireSubstitute s).sdu.reason = s.sdu.reason ∧
    (expireSubstitute s).sdu.cause = s.sdu.cause := by
  simp only [expireSubstitute]
  (repeat' split) <;> simp

@[simp] theorem endWork_keeps (s : State) :
    (endWork s).straps = s.straps ∧
    (endWork s).osu = s.osu ∧
    (endWork s).pending = s.pending ∧
    (endWork s).within = s.within ∧
    (endWork s).sdu.cause = s.sdu.cause := by
  simp [endWork]

@[simp] theorem determineNext_keeps (s : State) (b : BogieId) :
    (determineNext s b).straps = s.straps ∧
    (determineNext s b).pending = s.pending ∧
    (determineNext s b).sdu.cause = s.sdu.cause := by
  simp only [determineNext]
  (repeat' split) <;> simp

@[simp] theorem countOffer_keeps (s : State) (b : BogieId) :
    (countOffer s b).straps = s.straps ∧
    (countOffer s b).osu = s.osu ∧
    (countOffer s b).pending = s.pending ∧
    (countOffer s b).within = s.within ∧
    (countOffer s b).sdu.cause = s.sdu.cause := by
  simp [countOffer]

@[simp] theorem shapeAndOffer_keeps (s : State) (r : SteeringResult) :
    (shapeAndOffer s r).straps = s.straps ∧
    (shapeAndOffer s r).pending = s.pending ∧
    (shapeAndOffer s r).within = s.within ∧
    (shapeAndOffer s r).sdu.cause = s.sdu.cause := by
  simp [shapeAndOffer]

@[simp] theorem shapeNext_keeps (s : State) :
    (shapeNext s).straps = s.straps ∧
    (shapeNext s).pending = s.pending ∧
    (shapeNext s).within = s.within ∧
    (shapeNext s).sdu.cause = s.sdu.cause := by
  simp only [shapeNext]
  (repeat' split) <;> simp

@[simp] theorem tickSubstitute_keeps (s : State) :
    (tickSubstitute s).straps = s.straps ∧
    (tickSubstitute s).tables = s.tables ∧
    (tickSubstitute s).rpu = s.rpu ∧
    (tickSubstitute s).bru = s.bru ∧
    (tickSubstitute s).slu = s.slu ∧
    (tickSubstitute s).osu = s.osu ∧
    (tickSubstitute s).mrh = s.mrh ∧
    (tickSubstitute s).pending = s.pending ∧
    (tickSubstitute s).within = s.within ∧
    (tickSubstitute s).sdu.part = s.sdu.part ∧
    (tickSubstitute s).sdu.deferred = s.sdu.deferred ∧
    (tickSubstitute s).sdu.reason = s.sdu.reason ∧
    (tickSubstitute s).sdu.cause = s.sdu.cause := by
  simp only [tickSubstitute]
  (repeat' split) <;> simp

@[simp] theorem tickSupervision_keeps (s : State) :
    (tickSupervision s).straps = s.straps ∧
    (tickSupervision s).tables = s.tables ∧
    (tickSupervision s).sit = s.sit ∧
    (tickSupervision s).opu = s.opu ∧
    (tickSupervision s).bru = s.bru ∧
    (tickSupervision s).osu = s.osu ∧
    (tickSupervision s).mrh = s.mrh ∧
    (tickSupervision s).pending = s.pending ∧
    (tickSupervision s).within = s.within ∧
    (tickSupervision s).sdu.reason = s.sdu.reason ∧
    (tickSupervision s).sdu.cause = s.sdu.cause := by
  simp only [tickSupervision]
  (repeat' split) <;> simp

@[simp] theorem tick_keeps (s : State) :
    (tick s).straps = s.straps ∧
    (tick s).tables = s.tables ∧
    (tick s).bru = s.bru ∧
    (tick s).osu = s.osu ∧
    (tick s).mrh = s.mrh ∧
    (tick s).pending = s.pending ∧
    (tick s).within = s.within ∧
    (tick s).sdu.reason = s.sdu.reason ∧
    (tick s).sdu.cause = s.sdu.cause := by
  simp [tick]

end Sys2Proof.Machine
end

