-- ==== Sys2Proof/Laws/PerInstr.lean ====
section
/-! SUPPORT. What every command is as syntax, command by command: the function number of the request it
stands for (Table 12.3). -/

namespace Sys2Proof.Laws.FunctionNumbers

open Sys2Proof.Machine

/-- A well-formed command that is a request has a function number of four bits, which names no request
exactly when the command is REFUSED_FUNCTION (R180, R182, Table 12.3). -/
def Statement (c : Instr) : Prop :=
  c.wf = true → ∀ (o : Origin) (function : Nat), requestOf c = some (o, function) →
    function < 16 ∧ (namesNoRequest (BitVec.ofNat 4 function) = true ↔
      ∃ (f : BitVec 4) (data : List Word), c = .refusedFunction o f data)

/-- A command that is no request has nothing to state. -/
theorem of_none {c : Instr} (h : requestOf c = none) : Statement c := by
  intro _ o n hr; rw [h] at hr; cases hr

/-- A request with a number of its own is not REFUSED_FUNCTION. -/
theorem of_number {c : Instr} {o : Origin} {n : Nat} (h : requestOf c = some (o, n)) (hn : n < 14)
    (h0 : n ≠ 0) (hc : ∀ o' f data, c ≠ .refusedFunction o' f data) : Statement c := by
  intro _ o' m hr
  obtain ⟨rfl, rfl⟩ : o = o' ∧ n = m := by simpa [h] using hr
  refine ⟨by omega, ⟨fun hx => absurd hx ?_, fun ⟨f, data, e⟩ => absurd e (hc o f data)⟩⟩
  simp only [namesNoRequest, Bool.or_eq_true, beq_iff_eq, BitVec.ofNat_eq_ofNat,
    ← BitVec.toNat_inj, BitVec.toNat_ofNat]
  omega

theorem powerOnReset (straps : Addr) :
    Statement (.powerOnReset straps) := of_none rfl

theorem resetLine (straps : Addr) :
    Statement (.resetLine straps) := of_none rfl

theorem frameClose (burst : Burst) : Statement (.frameClose burst) := of_none rfl

theorem sample (frame : Delivery) :
    Statement (.sample frame) := of_none rfl

theorem answer (source : Addr) (tag : Tag) (echo : Echo) :
    Statement (.answer source tag echo) := of_none rfl

theorem notice (source : Addr) (tag : Tag) (echo : Echo) :
    Statement (.notice source tag echo) := of_none rfl

theorem segment (frame : Delivery) :
    Statement (.segment frame) := of_none rfl

theorem cycle (frame : Delivery) :
    Statement (.cycle frame) := of_none rfl

theorem returnedCommand (destination : Addr) (tag : Tag) :
    Statement (.returnedCommand destination tag) := of_none rfl

theorem returnedFetch (segment : Word) :
    Statement (.returnedFetch segment) := of_none rfl

theorem returnedReply :
    Statement .returnedReply := of_none rfl

theorem substituteTimerExpiry :
    Statement .substituteTimerExpiry := of_none rfl

theorem sampleExpired (slot : SlotName) :
    Statement (.sampleExpired slot) := of_none rfl

theorem fetchTimeout (segment : Word) :
    Statement (.fetchTimeout segment) := of_none rfl

theorem echoTimeout (bogie : BogieId) :
    Statement (.echoTimeout bogie) := of_none rfl

theorem positionUpdate :
    Statement .positionUpdate := of_none rfl

theorem bogieDetermination :
    Statement .bogieDetermination := of_none rfl

theorem shaping :
    Statement .shaping := of_none rfl

theorem supervisionExpiry :
    Statement .supervisionExpiry := of_none rfl

theorem outSelection :
    Statement .outSelection := of_none rfl

theorem replyLeftOut (straps : Addr) :
    Statement (.replyLeftOut straps) := of_none rfl

theorem statusRead (origin : Origin) (page : Byte) (data : List Word) :
    Statement (.statusRead origin page data) :=
  of_number rfl (by decide) (by decide) (by intros; simp)

theorem tableRead (origin : Origin) (table : BitVec 4) (index : Byte) (data : List Word) :
    Statement (.tableRead origin table index data) :=
  of_number rfl (by decide) (by decide) (by intros; simp)

theorem tableWriteSource (origin : Origin) (index : Byte) (entry : List Word) :
    Statement (.tableWriteSource origin index entry) :=
  of_number rfl (by decide) (by decide) (by intros; simp)

theorem tableWriteAxle (origin : Origin) (index : Byte) (entry : List Word) :
    Statement (.tableWriteAxle origin index entry) :=
  of_number rfl (by decide) (by decide) (by intros; simp)

theorem tableWriteBogie (origin : Origin) (index : Byte) (entry : List Word) :
    Statement (.tableWriteBogie origin index entry) :=
  of_number rfl (by decide) (by decide) (by intros; simp)

theorem tableWriteChannel (origin : Origin) (index : Byte) (entry : List Word) :
    Statement (.tableWriteChannel origin index entry) :=
  of_number rfl (by decide) (by decide) (by intros; simp)

theorem tableWriteGainSchedule (origin : Origin) (index : Byte) (entry : List Word) :
    Statement (.tableWriteGainSchedule origin index entry) :=
  of_number rfl (by decide) (by decide) (by intros; simp)

theorem tableWriteBeacon (origin : Origin) (index : Byte) (entry : List Word) :
    Statement (.tableWriteBeacon origin index entry) :=
  of_number rfl (by decide) (by decide) (by intros; simp)

theorem tableWriteParameter (origin : Origin) (index : Byte) (entry : List Word) :
    Statement (.tableWriteParameter origin index entry) :=
  of_number rfl (by decide) (by decide) (by intros; simp)

theorem stateSetConfig (origin : Origin) (data : List Word) :
    Statement (.stateSetConfig origin data) :=
  of_number rfl (by decide) (by decide) (by intros; simp)

theorem stateSetStandby (origin : Origin) (data : List Word) :
    Statement (.stateSetStandby origin data) :=
  of_number rfl (by decide) (by decide) (by intros; simp)

theorem stateSetActive (origin : Origin) (data : List Word) :
    Statement (.stateSetActive origin data) :=
  of_number rfl (by decide) (by decide) (by intros; simp)

theorem positionSet (origin : Origin) (count : Byte) (data : List Word) :
    Statement (.positionSet origin count data) :=
  of_number rfl (by decide) (by decide) (by intros; simp)

theorem routeAppend (origin : Origin) (count : Byte) (data : List Word) :
    Statement (.routeAppend origin count data) :=
  of_number rfl (by decide) (by decide) (by intros; simp)

theorem routeClear (origin : Origin) (data : List Word) :
    Statement (.routeClear origin data) :=
  of_number rfl (by decide) (by decide) (by intros; simp)

theorem diagAck (origin : Origin) (data : List Word) :
    Statement (.diagAck origin data) :=
  of_number rfl (by decide) (by decide) (by intros; simp)

theorem cacheInvalidate (origin : Origin) (data : List Word) :
    Statement (.cacheInvalidate origin data) :=
  of_number rfl (by decide) (by decide) (by intros; simp)

theorem cacheInvalidateAll (origin : Origin) (data : List Word) :
    Statement (.cacheInvalidateAll origin data) :=
  of_number rfl (by decide) (by decide) (by intros; simp)

theorem cacheRead (origin : Origin) (data : List Word) :
    Statement (.cacheRead origin data) :=
  of_number rfl (by decide) (by decide) (by intros; simp)

theorem channelRead (origin : Origin) (part : BitVec 4) (bogie : Byte) (data : List Word) :
    Statement (.channelRead origin part bogie data) :=
  of_number rfl (by decide) (by decide) (by intros; simp)

theorem resetPrepare (origin : Origin) (data : List Word) :
    Statement (.resetPrepare origin data) :=
  of_number rfl (by decide) (by decide) (by intros; simp)

theorem resetConfirm (origin : Origin) (data : Confirmation) :
    Statement (.resetConfirm origin data) :=
  of_number rfl (by decide) (by decide) (by intros; simp)

theorem refusedFunction (origin : Origin) (function : BitVec 4) (data : List Word) :
    Statement (.refusedFunction origin function data) := by
  intro hwf o' m hr
  obtain ⟨rfl, rfl⟩ : origin = o' ∧ function.toNat = m := by simpa [requestOf] using hr
  refine ⟨function.isLt, ⟨fun _ => ⟨function, data, rfl⟩, fun _ => ?_⟩⟩
  have h : namesNoRequest function = true := by
    simp only [Instr.wf, Bool.and_eq_true] at hwf; exact hwf.1
  simpa using h

theorem lineIdle :
    Statement .lineIdle := of_none rfl

theorem frameTransmissionEnd :
    Statement .frameTransmissionEnd := of_none rfl

end Sys2Proof.Laws.FunctionNumbers
end

