-- ==== Sys2Proof/Laws/Ports.lean ====
section
/-! SUPPORT. What a reset leaves, what STATE_SET(ACTIVE) can do, and the moves of the OUT port, said once. -/

namespace Sys2Proof.Machine

/-! ## Resets (R172, R173) -/

@[simp] theorem resetPart_blocks (s : State) (straps : Addr) (cause : ResetCause) (tables : Tables) :
    (resetPart s straps cause tables).straps = straps ∧
    (resetPart s straps cause tables).tables = tables ∧
    (resetPart s straps cause tables).rpu = resetRpu s.rpu straps ∧
    (resetPart s straps cause tables).sit = Sit.initial ∧
    (resetPart s straps cause tables).opu = Opu.initial ∧
    (resetPart s straps cause tables).bru = Bru.initial ∧
    (resetPart s straps cause tables).sgc = Sgc.initial ∧
    (resetPart s straps cause tables).slu = Slu.initial ∧
    (resetPart s straps cause tables).osu = Osu.initial ∧
    (resetPart s straps cause tables).als = Vector.replicate 4 Link.initial ∧
    (resetPart s straps cause tables).csu = Csu.initial ∧
    (resetPart s straps cause tables).mrh = Mrh.initial ∧
    (resetPart s straps cause tables).pending = s.pending ∧
    (resetPart s straps cause tables).within = s.within ∧
    (resetPart s straps cause tables).sdu.part = .config ∧
    (resetPart s straps cause tables).sdu.deferred = false ∧
    (resetPart s straps cause tables).sdu.reason = none ∧
    (resetPart s straps cause tables).sdu.cause = cause := by
  simp [resetPart, resetFlags, resetBlocks]

/-! ## STATE_SET(ACTIVE) (R168, R182) -/

@[simp] theorem cancelDeferred_keeps (s : State) :
    (cancelDeferred s).straps = s.straps ∧ (cancelDeferred s).tables = s.tables ∧
    (cancelDeferred s).rpu = s.rpu ∧ (cancelDeferred s).sit = s.sit ∧
    (cancelDeferred s).opu = s.opu ∧ (cancelDeferred s).bru = s.bru ∧
    (cancelDeferred s).sgc = s.sgc ∧ (cancelDeferred s).slu = s.slu ∧
    (cancelDeferred s).osu = s.osu ∧ (cancelDeferred s).als = s.als ∧
    (cancelDeferred s).csu = s.csu ∧ (cancelDeferred s).mrh = s.mrh ∧
    (cancelDeferred s).pending = s.pending ∧ (cancelDeferred s).within = s.within ∧
    (cancelDeferred s).sdu = { s.sdu with deferred := false } := by
  simp [cancelDeferred]

/-- What a STATE_SET(ACTIVE) can do: defer the entry, change nothing in ACTIVE, or be refused, by its length or
by R168, and cancel a held entry. -/
theorem stateSetActive_cases (data : List Word) (s : State) :
    (data ≠ [] ∧ stateSetActive data s = refuseRange (cancelDeferred s)) ∨
    (data = [] ∧ s.sdu.part = .standby ∧ inconsistency s = none ∧
      stateSetActive data s = (s.setSdu { s.sdu with deferred := true }, .plain .posted)) ∨
    (data = [] ∧ s.sdu.part = .active ∧ stateSetActive data s = (s, .plain .done)) ∨
    (data = [] ∧ ∃ reason, stateSetActive data s = refuseState (cancelDeferred s) reason ∧
      ((s.sdu.part = .config ∨ s.sdu.part = .fallback) ∧ reason = 0 ∨
        s.sdu.part = .standby ∧ inconsistency s = some reason)) := by
  by_cases hd : data = []
  · cases hp : s.sdu.part <;> simp [stateSetActive, askActive, hd, hp]
    cases hi : inconsistency s <;> simp
  · simp [stateSetActive, hd]

/-! ## The OUT port (R163, R164) -/

@[simp] theorem endSending_keeps (s : State) :
    endSending s = s.setRpu { s.rpu with sending := none, gap := true } := rfl

/-- Nothing is selected while a frame is in transmission. -/
theorem selectNext_sending (s : State) (x : Transmission) (h : s.rpu.sending = some x) :
    selectNext s = s := by
  simp [selectNext, h]

/-- A frame placed in the forward buffer, or dropped with FWD_OVERRUN (R159). -/
theorem forwardFrame_cases (s : State) (bytes : List Byte) :
    (s.rpu.forward.length < 4 ∧
      forwardFrame s bytes = s.setRpu { s.rpu with forward := s.rpu.forward ++ [bytes] }) ∨
    (4 ≤ s.rpu.forward.length ∧ forwardFrame s bytes = s.setFlag .fwdOverrun) := by
  by_cases h : s.rpu.forward.length < 4
  · exact .inl ⟨h, by simp [forwardFrame, Config.forwardCapacity, h]⟩
  · exact .inr ⟨Nat.not_lt.mp h, by simp [forwardFrame, Config.forwardCapacity, h]⟩

end Sys2Proof.Machine
end

