-- ==== Sys2Proof/Tests/Slice0.lean ====
section
/-! SUPPORT. Tests. First what WellFormed refuses; then worked examples of the manual, one step each, their
expected values taken from the example that each names; then, for every obligation that has hypotheses, states
and operands that meet them, clause by clause. -/

namespace Sys2Proof.Tests

open Sys2Proof.Machine

-- One theorem after another: many evaluations at once would take a thread and its stack each.
set_option Elab.async false

/-! ## States that the tests use -/

/-- The part after reset, in a part state, with supervision counting where it counts. -/
def inPart (p : PartState) : State :=
  (State.reset.setSdu { State.reset.sdu with part := p }).setCsu { State.reset.csu with
    supervision := { counting := decide (p = .standby ∨ p = .active), elapsed := 0 } }

/-- The part after reset, its assembler taking bytes. -/
def listening : State :=
  State.reset.setRpu { State.reset.rpu with
    assembler := { waitIdle := false, kept := [], count := 0 } }

/-- The part after reset with straps that make it a repeater. -/
def repeater : State := listening.setRpu { listening.rpu with own := 63 }

/-- Bogie 1 enabled with actuator address 21 and echo comparison. -/
def withBogie (s : State) : State :=
  s.setTables { s.tables with
    bogie := s.tables.bogie.set 1
      { enabled := true, echoCompare := true, actuator := 21, pivot := 11400, semi := 900 } }

/-- Axle 0 an odometry axle of 18850 µm per pulse on pulse slot 0. -/
def withAxle (s : State) : State :=
  s.setTables { s.tables with
    axle := s.tables.axle.set 0 (some { umPerPulse := 18850, slot := 0, odometry := true }) }

/-- A command outstanding for bogie 1, with a mismatch count and a pending pair. -/
def awaiting (s : State) (mismatch : Nat) (pending : Option CodePair) : State :=
  s.setLink 1 { Link.initial with
    outstanding := some
      { tag := 7, codes := { lead := 33200, trail := 32400 },
        targets := { lead := 33200, trail := 32400 }, age := 1 }
    pending := pending
    mismatch := mismatch }

/-- A full transmit queue. -/
def fullQueue (s : State) : State :=
  s.setRpu { s.rpu with
    others := List.replicate 12 (.fetch { segment := 1, header := true, blocks := 0 }) }

/-- An addressed request of node 9. -/
def from9 : Origin := { source := 9, tag := 3, broadcast := false }

/-- A frame of another node. -/
def frame (cls : FrameClass) (source destination : Addr) (payload : List Word) : List Byte :=
  originate cls source destination 5 payload

/-- The frame that the bytes above carry. -/
def received (cls : FrameClass) (source destination : Addr) (payload : List Word) : ValidFrame :=
  { header := { guard := 2, cls := cls, length := payload.length, destination := destination,
                source := source, tag := 5 }
    payload := payload
    bytes := frame cls source destination payload }

/-- Whether the bytes pass the checks of reception as that frame. -/
def arrives (cls : FrameClass) (source destination : Addr) (payload : List Word) : Bool :=
  decide (checkFrame (frame cls source destination payload)
    (frame cls source destination payload).length = some (received cls source destination payload))

/-- An echo of two received codes. -/
def echo (lead trail : Word) : Echo :=
  { receivedLead := lead, receivedTrail := trail, measuredLead := 0, measuredTrail := 0, status := 0 }

/-- A gain of one code in four µrad, the whole code range, no slew limit. -/
def plainChannel : ChannelEntry :=
  { ChannelEntry.initial with thetaMax := 80000, trackLimit := 200, trackCount := 3 }

/-- What a command leaves, when it answers a next state. -/
def after (c : Instr) (s : State) : State :=
  match exec c s with
  | .next t => t
  | .fault _ => s
  | .refused _ => s

/-! ## WellFormed -/

theorem test_wf_no_bytes : (Instr.frameClose ⟨[], 40⟩).wf = false := by decide
theorem test_wf_payload :
    (Instr.sample { source := 0, tag := 0, payload := List.replicate 25 0 }).wf = false ∧
    (Instr.segment { source := 0, tag := 0, payload := List.replicate 25 0 }).wf = false ∧
    (Instr.cycle { source := 0, tag := 0, payload := List.replicate 25 0 }).wf = false := by decide
theorem test_wf_data :
    (Instr.statusRead from9 0 (List.replicate 24 0)).wf = false ∧
    (Instr.tableWriteParameter from9 0 (List.replicate 24 0)).wf = false ∧
    (Instr.refusedFunction from9 15 (List.replicate 24 0)).wf = false := by decide
theorem test_wf_function : (Instr.refusedFunction from9 13 []).wf = false ∧
    (Instr.refusedFunction from9 14 []).wf = true := by decide

/-! ## Worked examples -/

/-- Chapter 12: the check byte of the digits 1 to 9, bits worked by R192. -/
theorem test_check_byte :
    checkByte [0x31, 0x32, 0x33, 0x34, 0x35, 0x36, 0x37, 0x38, 0x39] = 0x20 := by
  decide +kernel

/-- 0.5.2: ties round away from zero, 10801.5 to 10802 and −700.5 to −701. -/
theorem test_rounding : roundDiv 21603 2 = 10802 ∧ roundDiv (-1401) 2 = -701 := by decide

/-- Chapter 1's example, events 3 and 4: a flange gap of −260 is stored as −200; a record of age 2 with max
age 2 is FRESH. -/
theorem test_gap_limited :
    let s := State.reset.setTables { State.reset.tables with
      source := State.reset.tables.source.set 2
        (some { node := 12, item := 0, target := .gap 2, maxAge := 1 }) }
    (after (.sample { source := 12, tag := 0, payload := [0x0000, BitVec.ofInt 16 (-260)] })
      s).sit.gap[2].latest = some { value := -200, arrival := 0 } := by decide +kernel
theorem test_freshness :
    let x : Slot := { latest := some { value := 1198, arrival := 499 }, expired := false,
                      view := none, state := .empty }
    (x.evaluate (some 2) 501).state = .fresh ∧ (x.evaluate (some 2) 502).state = .stale := by decide

/-- R4: a max age lowered in place leaves a slot that the last mark found FRESH to the next mark. -/
theorem test_new_max_age_waits :
    let x : Slot := { latest := some { value := 1198, arrival := 499 }, expired := false,
                      view := some { value := 1198, arrival := 499 }, state := .fresh }
    x.tooOld (some 1) 501 = false ∧ (x.evaluate (some 1) 501).state = .stale := by decide

/-- 2.14: the increments 56550, 56550, 75400, 113400 count 56550; 24036550 µm passes into segment 520. -/
theorem test_median_increment : countedDistance [56550, 56550, 75400, 113400] = some 56550 ∧
    axleExcluded [56550, 56550, 75400, 113400] = true := by decide
theorem test_speed : speedOf (56550 :: List.replicate 7 56000) 8 = 7008 := by decide

/-- 5.10: channel 2's look-ahead curvature 4723 and its angle 43207 µrad. -/
theorem test_steering_numbers :
    interpolate 4000 5556 119 = 4723 ∧ feedforward 1 900 4723 true = 42507 ∧
    feedforward (-1) 900 2546 false = -17186 ∧ lookAheadDistance 4000 150 = 600 := by decide

/-- 6.9: the codes 43425 and 27159 of the targets 43207 and −22514 µrad. -/
theorem test_target_codes :
    targetCode { plainChannel with gain := 64880, trim := -37, codeMin := 8000, codeMax := 57000 }
      43207 = 43425 ∧
    targetCode { plainChannel with trim := 20, codeMin := 8000, codeMax := 57000 } (-22514) =
      27159 := by decide

/-- 6.10, events 1 and 5: a step of 400 towards the target, and the target within it. -/
theorem test_steps : stepTowards 42900 43425 400 = 43300 ∧ stepTowards 27300 27159 400 = 27159 ∧
    stepTowards 43700 32731 1000 = 42700 := by decide

/-- 7.9, event 8: the differing ANSWER makes mismatch 1, with the same targets built again. -/
theorem test_answer_differs :
    let t := after (.answer 21 7 (echo 33200 32464)) (awaiting (withBogie (inPart .active)) 0 none)
    t.als[1].mismatch = 1 ∧ t.flag .echoMismatch = true ∧
    (t.als[1].outstanding.map fun o => o.targets) = some { lead := 33200, trail := 32400 } := by
  decide +kernel

/-- 8.8, t = 126.3: CYCLE 7033 breaks the sequence of 7000 while the computation runs. -/
theorem test_cycle_overrun :
    let s := (inPart .fallback).setCsu { (inPart .fallback).csu with
      cycle := 2331, running := true, lastNumber := some 7000, substTimer := some 8 }
    let t := after (.cycle { source := 0, tag := 0, payload := [7033] }) s
    t.csu.cycle = 2331 ∧ t.csu.lastNumber = some 7033 ∧ t.csu.substTimer = some 12 ∧
    t.flag .cycleSeq = true ∧ t.flag .cycleOverrun = true := by decide +kernel

/-- 9.9, event 7: with the count at 2 the COMMAND goes before the FETCH that has waited longer. -/
theorem test_out_selection :
    let c : CommandFrame := { bogie := 1, destination := 21, tag := 13, fallback := false,
                              lead := 5, trail := 6 }
    let s := State.reset.setRpu { State.reset.rpu with
      forward := [[0], [1], [2], [3]]
      commands := [c]
      others := [.fetch { segment := 648, header := true, blocks := 255 }]
      forwardCount := 2 }
    (after .outSelection s).rpu.sending.map Transmission.origin = some .command ∧
    (after .outSelection s).rpu.others.length = 1 := by decide +kernel

/-- 10.7, events 1 and 3: refused with reason 0 in CONFIG, and with reason 4 without an odometry axle. -/
theorem test_refused_start :
    (after (.stateSetActive from9 []) State.reset).sdu.reason = some 0 ∧
    (after (.stateSetStandby from9 []) (withBogie State.reset)).sdu.reason = some 4 ∧
    (after (.stateSetStandby from9 []) (withAxle (withBogie State.reset))).sdu.part = .standby := by
  decide +kernel

/-- R182: a STATE_SET(ACTIVE) with a data word is refused, and cancels the entry that one without had deferred. -/
theorem test_refused_length_cancels_entry :
    let s := after (.stateSetActive from9 []) (withAxle (withBogie (inPart .standby)))
    s.sdu.deferred = true ∧ (after (.stateSetActive from9 [0]) s).sdu.deferred = false ∧
    (after (.stateSetStandby from9 [0]) s).sdu.deferred = true := by decide +kernel

/-- 11.6, events 1, 5 and 7: t_la 650 is limited to 500 and posted; 60875 is 65535 − 4660. -/
theorem test_gain_posted :
    (after (.tableWriteGainSchedule from9 6 [650, 320]) (inPart .standby)).mrh.posted =
      some { request := .gain 6 { lookAheadTime := 500, gain := 320 }, sender := 9 } := by
  decide +kernel
theorem test_reset_confirmed :
    (after (.resetConfirm from9 ⟨[60875], 40⟩)
      (after (.resetPrepare from9 [4660]) (inPart .standby))).mrh.confirmed = true := by
  decide +kernel

/-- R68 with R36 and R38: a walk that starts 500 mm beyond a length enters the next segment at −500 mm, and with
H = 0 nothing is fetched ahead. -/
theorem test_prefetch_entered_before_start :
    prefetchSegments 1 [⟨412, 0⟩, ⟨520, -500⟩, ⟨521, 1⟩] = [412, 520] ∧
    prefetchSegments 0 [⟨412, 0⟩, ⟨520, -500⟩] = [412] := by decide +kernel

/-- Table 12.6: CONFIG, no refusal reason, POWER_ON, the flags of a reset, own address 40. -/
theorem test_status_after_reset : (statusPage0 State.reset).take 4 = [0x1C00, 0, 0x0401, 0x2800] := by
  decide +kernel

/-- R165, R190: straps that read 12 when the queue refuses the REPLY are the own address. -/
theorem test_straps_at_refused_reply :
    (after (.resetConfirm from9 ⟨[60875], 12⟩) ((fullQueue State.reset).setMrh { State.reset.mrh with
      prepare := some { value := 4660, sender := 9 } })).rpu.own = 12 := by decide +kernel

/-! ## Witnesses: steps and resets -/

theorem witness_EmptyQueueCountsTime :
    let timed (n : Nat) := State.reset.setCsu { State.reset.csu with substTimer := some n }
    let counts (part : PartState) (elapsed : Nat) := (inPart part).setCsu { (inPart part).csu with
      supervision := { counting := true, elapsed := elapsed } }
    (State.reset.pending = [] ∧ State.reset.csu.substTimer = none ∧
      State.reset.csu.supervision.counting = false) ∧
    (timed 2).csu.substTimer = some (0 + 2) ∧ (timed 1).csu.substTimer = some 1 ∧
    (timed 0).csu.substTimer = some 0 ∧
    (∃ u, exec .substituteTimerExpiry (timed 1) = .next u) ∧
    (∀ part ∈ [PartState.standby, .active],
      (counts part 198).sdu.part = part ∧ (counts part 198).csu.supervision.counting = true ∧
      (counts part 198).csu.substTimer = none ∧
      (counts part 198).csu.supervision.elapsed + 1 <
        2 * max (counts part 198).tables.param.timeout (2 * (counts part 198).tables.param.period) ∧
      2 * max (counts part 199).tables.param.timeout (2 * (counts part 199).tables.param.period) ≤
        (counts part 199).csu.supervision.elapsed + 1) :=
  ⟨by decide +kernel, by decide +kernel, by decide +kernel, by decide +kernel, ⟨_, rfl⟩,
    by decide +kernel⟩

/-- The REPLY to a confirmed reset in transmission. -/
def confirming : State :=
  (State.reset.setRpu { State.reset.rpu with
    sending := some { origin := .reply true, bytes := [] } }).setMrh { State.reset.mrh with
    confirmed := true }

/-- A prepare of node 9 held, with the transmit queue full. -/
def preparedFull : State :=
  (fullQueue State.reset).setMrh { State.reset.mrh with
    prepare := some { value := 4660, sender := 9 } }

theorem witness_KeyResetAtReply :
    (confirming.rpu.sending = some { origin := .reply true, bytes := [] } ∧
      confirming.mrh.confirmed = true) ∧
    (Addressed preparedFull from9 ∧
      preparedFull.mrh.prepare = some { value := 4660, sender := 9 } ∧
      (9 : Addr) = from9.source ∧ (60875 : Word).toNat = 65535 - (4660 : Word).toNat ∧
      12 ≤ queueLength preparedFull.rpu) := by
  unfold Addressed; decide +kernel

theorem witness_ResetFlags :
    (∃ t, exec (.powerOnReset 40) State.reset = .next t) ∧
    (∃ t, exec (.resetLine 40) State.reset = .next t) ∧
    (confirming.mrh.confirmed = true ∧
      (∃ bytes, confirming.rpu.sending = some { origin := .reply true, bytes := bytes }) ∧
      ∃ t, exec (.replyLeftOut 40) confirming = .next t) ∧
    (12 ≤ queueLength preparedFull.rpu ∧
      ∃ t, exec (.resetConfirm from9 ⟨[60875], 40⟩) preparedFull = .next t) :=
  ⟨⟨_, rfl⟩, ⟨_, rfl⟩, ⟨rfl, ⟨_, rfl⟩, ⟨_, rfl⟩⟩, by decide +kernel, _, rfl⟩

/-! ## Witnesses: reception -/

theorem witness_BadFrameDropped :
    State.reset.rpu.assembler.waitIdle = true ∧ Listening listening ∧
    ([0, 0, 0, 0] : List Byte).length < 5 ∧
    (0x00 : Byte).getLsbD 7 = (0x00 : Byte).getLsbD 6 ∧
    24 < (FrameHeader.ofValue ((0x86 : Byte) ++ (0x40 : Byte) ++ (0 : Byte) ++ (0 : Byte))).length ∧
    (frame .sample 9 10 [0, 0] ++ [0]).length ≠
      5 + 2 * (received .sample 9 10 [0, 0]).header.length ∧
    (frame .sample 9 10 [0, 0]).dropLast.length + 1 = 5 + 2 * 2 := by
  unfold Listening; decide +kernel

theorem witness_OriginatedFrameIsValid : (List.replicate 24 (0 : Word)).length ≤ 24 := by decide

theorem witness_FrameForwarded :
    let three := listening.setRpu { listening.rpu with forward := [[], [], []] }
    let four := listening.setRpu { listening.rpu with forward := [[], [], [], []] }
    Listening listening ∧ (frame .sample 9 10 []).length ≤ 53 ∧ arrives .sample 9 10 [] = true ∧
    Listening repeater ∧ forwardOnly repeater = true ∧ forwardOnly listening = false ∧
    ((9 : Addr) ≠ listening.rpu.own ∧ (10 : Addr) ≠ listening.rpu.own ∧ (10 : Addr) ≠ 63) ∧
    (Listening three ∧ three.rpu.forward.length < 4) ∧
    (Listening four ∧ 4 ≤ four.rpu.forward.length) := by
  unfold Listening; decide +kernel

theorem witness_DeliveredFrameIsItsCommand :
    Listening listening ∧ forwardOnly listening = false ∧ (9 : Addr) ≠ listening.rpu.own ∧
    listening.rpu.own = 40 ∧
    (∀ destination ∈ [(40 : Addr), 63], ∀ cls ∈ [FrameClass.sample, .segment, .cycle, .command,
      .fetch, .reply, .manage, .echo], arrives cls 9 destination [] = true) ∧
    arrives .echo 9 40 [1, 0, 0, 0, 0, 0] = true ∧ arrives .echo 9 40 [2, 0, 0, 0, 0, 0] = true ∧
    (echoOfPayload [1, 0, 0, 0, 0, 0]).map Prod.fst = some .answer ∧
    (echoOfPayload [2, 0, 0, 0, 0, 0]).map Prod.fst = some .notice ∧
    echoOfPayload [] = none ∧ listening.mrh.confirmed = false ∧
    (confirming.setRpu listening.rpu).mrh.confirmed = true ∧
    Listening (confirming.setRpu listening.rpu) ∧
    arrives .manage 9 40 [0x1000] = true ∧
    requestCommand from9 40 0x1000 [] = some (.statusRead from9 0 []) ∧
    (arrives .manage 9 40 [0x20FF] = true ∧ arrives .manage 9 63 [0x2800] = true ∧
      arrives .manage 9 63 [0x4003] = true) ∧
    (requestCommand from9 40 0x20FF [] = none ∧ requestCommand from9 40 0x2800 [] = none ∧
      requestCommand from9 40 0x4003 [] = none) ∧
    (0x2800 : Word).toNat / 4096 = 2 ∧ (0x4003 : Word).toNat / 4096 = 4 := by
  unfold Listening; decide +kernel

theorem witness_ReturnedFrameHandled :
    Listening listening ∧ forwardOnly listening = false ∧ listening.rpu.own = 40 ∧
    arrives .command 40 21 [0, 1, 2] = true ∧ arrives .fetch 40 0 [520, 0x1FF] = true ∧
    arrives .fetch 40 0 [] = true ∧
    (∀ cls ∈ [FrameClass.reply, .sample, .echo, .segment, .manage, .cycle],
      arrives cls 40 9 [] = true) := by
  unfold Listening; decide +kernel

theorem witness_ReturnedCommandEndsExchange :
    let s := awaiting (withBogie (inPart .active)) 1 none
    forwardOnly s = false ∧ bogieOf s 21 = some 1 ∧ s.als[1].outstanding ≠ none ∧
    bogieOf s 22 = none ∧ bogieOf (withBogie State.reset) 21 = some 1 ∧
    (withBogie State.reset).als[1].outstanding = none := by decide +kernel

/-! ## Witnesses: the OUT port -/

/-- A frame of an origin in transmission. -/
def sending (x : TxOrigin) : State :=
  State.reset.setRpu { State.reset.rpu with sending := some { origin := x, bytes := [] } }

theorem witness_LineAndTransmissionEnd :
    (∃ x, (sending .command).rpu.sending = some x ∧ ∀ confirms, x.origin ≠ .reply confirms) ∧
    ((sending (.reply true)).rpu.sending = some { origin := .reply true, bytes := [] } ∧
      (sending (.reply true)).mrh.confirmed = false) ∧
    State.reset.rpu.sending = none :=
  ⟨⟨_, rfl, by simp⟩, ⟨rfl, rfl⟩, rfl⟩

/-- The part after reset with these buffers. -/
def queued (forward : List (List Byte)) (commands : List CommandFrame) (others : List OtherFrame)
    (count : Nat) : State :=
  State.reset.setRpu { State.reset.rpu with
    forward := forward
    commands := commands
    others := others
    forwardCount := count }

/-- A waiting COMMAND of bogie 1. -/
def waitingCommand : CommandFrame :=
  { bogie := 1, destination := 21, tag := 7, fallback := false, lead := 33200, trail := 32400 }

theorem witness_OutSelectionTable :
    let f : OtherFrame := .fetch { segment := 648, header := true, blocks := 255 }
    let r : OtherFrame := .reply { destination := 9, tag := 3, payload := [0, 0], confirms := false }
    (sending .command).rpu.sending ≠ none ∧
    (let s := queued [[0]] [] [] 2
     s.rpu.sending = none ∧ s.rpu.forwardCount ≤ 2 ∧ s.rpu.forward = [0] :: [] ∧
     s.rpu.commands = [] ∧ s.rpu.others = []) ∧
    (let s := queued [[0]] [waitingCommand] [f] 1
     s.rpu.sending = none ∧ s.rpu.forward = [0] :: [] ∧ s.rpu.forwardCount < 2) ∧
    (let s := queued [[0]] [] [f] 2
     s.rpu.sending = none ∧ s.rpu.forwardCount = 2 ∧ s.rpu.commands = [] ∧
     s.rpu.others = f :: []) ∧
    (let s := queued [] [] [r, f] 0
     s.rpu.sending = none ∧ s.rpu.forward = [] ∧ s.rpu.commands = [] ∧
     s.rpu.others = r :: [f]) ∧
    (let s := queued [] [] [] 0
     s.rpu.forward = [] ∧ s.rpu.commands = [] ∧ s.rpu.others = []) := by decide +kernel

theorem witness_SelectedCommandIsIssued :
    (let s := queued [] [waitingCommand] [] 0
     s.rpu.sending = none ∧ s.rpu.forward = [] ∧ s.rpu.commands = waitingCommand :: []) ∧
    (let s := queued [[0]] [waitingCommand] [] 2
     s.rpu.sending = none ∧ s.rpu.forwardCount = 2 ∧ s.rpu.commands = waitingCommand :: []) := by
  decide +kernel

/-! ## Witnesses: sample intake -/

theorem witness_SampleLength : forwardOnly State.reset = false ∧
    ([] : List Word).length = 0 ∧ (List.replicate 23 (0 : Word)).length % 2 = 1 ∧
    24 < (List.replicate 26 (0 : Word)).length ∧
    (2 ≤ ([0, 0] : List Word).length ∧ ([0, 0] : List Word).length % 2 = 0) ∧
    ((List.replicate 24 (0 : Word)).length ≤ 24 ∧
      (List.replicate 24 (0 : Word)).length % 2 = 0) := by decide +kernel

/-- Source entry 0 sends item 4 of node 12 to a slot. -/
def withSource (target : SlotTarget) : State :=
  State.reset.setTables { State.reset.tables with
    source := State.reset.tables.source.set 0
      (some { node := 12, item := 4, target := target, maxAge := 2 }) }

/-- Reader 1 pending. -/
def readerPending (s : State) : State :=
  s.setBru { s.bru with reader := s.bru.reader.set 1 (some { ident := 419, latched := 7 }) }

theorem witness_SampleItems :
    forwardOnly State.reset = false ∧
    sourceFor State.reset.tables.source (12 : Addr).toNat ((0x4000 : Word).toNat / 4096) = none ∧
    (∀ x ∈ [SlotTarget.pulse 7, .gap 0, .beacon 1], forwardOnly (withSource x) = false ∧
      sourceFor (withSource x).tables.source (12 : Addr).toNat ((0x4000 : Word).toNat / 4096) =
        some { node := 12, item := 4, target := x, maxAge := 2 }) ∧
    (0x4000 : Word).toNat % 4096 = 0 ∧ (0x4FFF : Word).toNat % 4096 ≠ 0 ∧
    (withSource (.beacon 1)).bru.reader[(1 : Fin 2)] = none ∧
    (readerPending (withSource (.beacon 1))).bru.reader[(1 : Fin 2)] ≠ none ∧
    (readerPending (withSource (.beacon 1))).tables.source =
      (withSource (.beacon 1)).tables.source := by decide +kernel

/-- A slot whose record arrived in cycle 65535, the counter now standing at 2. -/
def aged (target : SlotTarget) : State :=
  let x : Slot := { latest := some { value := 1, arrival := 65535 }, expired := false, view := none,
                    state := .empty }
  let s := withSource target
  (s.setSit { s.sit with pulse := s.sit.pulse.set 7 x, gap := s.sit.gap.set 7 x }).setCsu
    { s.csu with cycle := 2 }

/-- An outstanding fetch entry of segment 520 with an age. -/
def fetching (age : Nat) : State :=
  State.reset.setSgc { State.reset.sgc with
    outstanding := [{ segment := 520, header := true, blocks := 0, age := age }] }

theorem witness_SingleExpiries :
    ((aged (.pulse 7)).sit.pulse[(7 : Fin 8)].latest = some { value := 1, arrival := 65535 } ∧
      maxAgeOf (aged (.pulse 7)).tables.source (.pulse 7) = some 2 ∧
      (aged (.pulse 7)).sit.pulse[(7 : Fin 8)].expired = false ∧
      (aged (.pulse 7)).sit.pulse[(7 : Fin 8)].state ≠ .fresh ∧
      2 < ((aged (.pulse 7)).csu.cycle + 65536 - 65535) % 65536) ∧
    ((aged (.gap 7)).sit.gap[(7 : Fin 8)].latest = some { value := 1, arrival := 65535 } ∧
      maxAgeOf (aged (.gap 7)).tables.source (.gap 7) = some 2 ∧
      (aged (.gap 7)).sit.gap[(7 : Fin 8)].expired = false ∧
      (aged (.gap 7)).sit.gap[(7 : Fin 8)].state ≠ .fresh) ∧
    (State.reset.sit.pulse[(7 : Fin 8)].latest = none ∧
      State.reset.sit.gap[(7 : Fin 8)].latest = none) ∧
    ((outstandingFor (fetching 8) (520 : Word).toNat).map FetchEntry.age = some 8 ∧
      (∀ e ∈ (fetching 7).sgc.outstanding, e.age < 8)) ∧
    (let s := (awaiting State.reset 0 none).setCsu { State.reset.csu with echoLimit := some 1 }
     (s.als[(1 : Fin 4)].outstanding.map fun o => o.age) = s.csu.echoLimit ∧
     State.reset.als[(1 : Fin 4)].outstanding = none) := by decide +kernel

theorem witness_SingleExpiries_kept :
    (let s := (aged (.pulse 7)).setCsu { (aged (.pulse 7)).csu with cycle := 1 }
     (s.csu.cycle + 65536 - 65535) % 65536 ≤ 2) ∧
    maxAgeOf (aged (.pulse 7)).tables.source (.gap 7) = none ∧
    (let s := (aged (.pulse 7)).setSit { (aged (.pulse 7)).sit with
       pulse := (aged (.pulse 7)).sit.pulse.set 7
         { latest := some { value := 1, arrival := 65535 }, expired := true, view := none,
           state := .stale } }
     s.sit.pulse[(7 : Fin 8)].expired = true) ∧
    (let s := (fetching 8).setSgc { (fetching 8).sgc with
       outstanding := [{ segment := 520, header := true, blocks := 0, age := 8 },
                       { segment := 521, header := true, blocks := 0, age := 7 }] }
     (outstandingFor s (521 : Word).toNat).map FetchEntry.age = some 7 ∧
     (outstandingFor s (520 : Word).toNat).map FetchEntry.age = some 8) ∧
    (let s := (awaiting State.reset 0 none).setCsu { State.reset.csu with echoLimit := some 2 }
     (s.als[(1 : Fin 4)].outstanding.map fun o => o.age) = some 1 ∧ s.csu.echoLimit = some 2 ∧
     (awaiting State.reset 0 none).csu.echoLimit = none) := by decide +kernel

/-! ## Witnesses: cycle marks -/

/-- The part after reset with a last CYCLE number. -/
def heard (s : State) (last : Option Nat) : State := s.setCsu { s.csu with lastNumber := last }

theorem witness_CycleFrameMakesMark :
    forwardOnly State.reset = false ∧ ([] : List Word).length ≠ 1 ∧
    State.reset.csu.running = false ∧
    ((heard State.reset (some 65535)).csu.lastNumber = some (((0 : Word).toNat + 65535) % 65536)) ∧
    ((heard State.reset (some 65535)).csu.lastNumber.all (· < 65536) = true) ∧
    ((enterStandby State.reset).csu.standbyStart = true ∧
      (enterStandby State.reset).sdu.part = .standby ∧
      (enterStandby State.reset).csu.running = false) ∧
    ((heard (inPart .fallback) (some 4)).sdu.part = .fallback ∧
      (heard (inPart .fallback) (some 4)).csu.lastNumber =
        some (((5 : Word).toNat + 65535) % 65536)) ∧
    ¬ ((heard State.reset (some 4)).csu.lastNumber = some (((0 : Word).toNat + 65535) % 65536) ∨
      (heard State.reset (some 4)).csu.standbyStart = true) := by decide +kernel

/-- The computation running, its position update to come. -/
def runningMark (s : State) : State :=
  (s.setCsu { s.csu with running := true, substTimer := some 1, lastNumber := some 65535 }).setOpu
    { s.opu with updateDue := true }

theorem witness_MarkNotTakenWhileRunning :
    (∀ part ∈ [PartState.config, .standby, .active, .fallback],
      let s := runningMark (inPart part)
      s.csu.running = true ∧ forwardOnly s = false ∧ s.csu.lastNumber = some 65535 ∧
      s.sdu.part = part ∧ s.csu.substTimer ≠ none ∧ s.flag .supExpired = false) ∧
    (0 : Word).toNat = (65535 + 1) % 65536 ∧ (1 : Word).toNat ≠ (65535 + 1) % 65536 ∧
    (let s := runningMark (enterStandby State.reset)
     s.csu.standbyStart = true ∧ s.sdu.part = .standby) := by decide +kernel

/-- The substitute timer running, the computation idle. -/
def timerRuns (s : State) : State := s.setCsu { s.csu with substTimer := some 1 }

theorem witness_SubstituteMark : State.reset.csu.substTimer = none ∧
    (timerRuns State.reset).csu.substTimer ≠ none ∧ (timerRuns State.reset).csu.running = false := by
  decide +kernel

theorem witness_MarkEvaluatesAndAges :
    (let s := timerRuns (aged (.pulse 7))
     s.csu.substTimer ≠ none ∧ s.csu.running = false ∧ s.sit.pulse[(7 : Fin 8)].latest ≠ none ∧
     s.sit.gap[(0 : Fin 8)].latest = none ∧ slotConfigured s.tables.source (.pulse 7) = true ∧
     (after .substituteTimerExpiry s).sit.pulse[(7 : Fin 8)].state ≠ .fresh) ∧
    (let s := timerRuns (fetching 7)
     s.csu.substTimer ≠ none ∧ s.csu.running = false ∧
     (s.sgc.outstanding.map FetchEntry.segment).Nodup ∧
     ∃ e ∈ s.sgc.outstanding, 8 ≤ e.age + 1) ∧
    (let s := timerRuns (awaiting State.reset 0 none)
     (s.als[(1 : Fin 4)].outstanding.map fun o => o.age + 1) = some s.tables.param.echoTimeout ∧
     s.als[(0 : Fin 4)].outstanding = none) ∧
    (let s := timerRuns ((awaiting State.reset 0 none).setTables { State.reset.tables with
       param := { ParamEntry.initial with echoTimeout := 4 } })
     ∃ o ∈ s.als[(1 : Fin 4)].outstanding.toList, o.age + 1 < s.tables.param.echoTimeout) := by
  decide +kernel

theorem witness_MarkEvaluatesAndAges_next :
    (∃ t, exec .substituteTimerExpiry (timerRuns (aged (.gap 7))) = .next t) ∧
    (∃ t, exec (.cycle { source := 0, tag := 0, payload := [7] }) (aged (.gap 7)) = .next t) ∧
    forwardOnly (aged (.gap 7)) = false ∧ (aged (.gap 7)).csu.running = false :=
  ⟨⟨_, rfl⟩, ⟨_, rfl⟩, by decide +kernel, by decide +kernel⟩

/-! ## Witnesses: the control chain -/

/-- The two ways of a set of the cache, way 0 the least recently used. -/
def withWays (s : State) (i : Fin 64) (way0 way1 : Option Line) : State :=
  s.setSgc { s.sgc with sets := s.sgc.sets.set i.val { ways := #v[way0, way1], lru := 0 } }

/-- What the cache and the trail hold is sound, as a test; no request is posted. -/
def routeTest (s : State) : Bool :=
  ((List.finRange 64).all fun i =>
    ((List.finRange 2).all fun w => s.sgc.sets[i].ways[w].all fun l => l.content.all fun c =>
      decide (1000 ≤ c.header.length ∧ c.header.length ≤ 60000 ∧ c.header.succ0 ≠ 65535 ∧
        c.header.succ1 ≠ 65535 ∧ (c.header.succ1 ≠ 0 → c.header.succ0 ≠ 0)) &&
      (List.finRange 8).all fun k => c.blocks[k].all fun b =>
        decide (∀ j : Fin 4, (-8000 : Int) ≤ b.points[j] ∧ b.points[j] ≤ 8000)) &&
    s.sgc.sets[i].ways[(0 : Fin 2)].all fun l => s.sgc.sets[i].ways[(1 : Fin 2)].all fun m =>
      decide (l.tag ≠ m.tag)) &&
  (s.opu.trail.all fun e => decide (1000 ≤ e.length ∧ e.length ≤ 60000)) &&
  s.mrh.posted.isNone

theorem routeSound_of_test (s : State) (h : routeTest s = true) : RouteSound s := by
  simp only [routeTest, Bool.and_eq_true, List.all_eq_true, Option.isNone_iff_eq_none,
    decide_eq_true_eq, Option.all_eq_true, List.mem_finRange, forall_const] at h
  obtain ⟨⟨hc, ht⟩, hp⟩ := h
  refine ⟨fun i w l c hl hcont => ?_, fun i l m hl hm => (hc i).2 l hl m hm, ht, ?_⟩
  · have x := (hc i).1 w l hl c hcont
    exact ⟨x.1.1, x.1.2.1, x.1.2.2.1, x.1.2.2.2.1, x.1.2.2.2.2, fun k b hb => x.2 k b hb⟩
  · intro p _ _ _ hposted
    rw [hp] at hposted
    cases hposted

/-- A position update due, with a position and a hold counter. -/
def updating (s : State) (hold : Nat) : State :=
  (s.setOpu { s.opu with
    updateDue := true
    hold := hold
    position := some { segment := 520, offset := 4200000, overrun := 0, confirmed := false } }).setCsu
    { s.csu with running := true }

/-- Axle 0 with a FRESH count of 3 after 1. -/
def counting (s : State) : State :=
  (withAxle s).setSit { s.sit with
    pulse := s.sit.pulse.set 0
      { latest := some { value := 3, arrival := 0 }, expired := false,
        view := some { value := 3, arrival := 0 }, state := .fresh }
    previous := s.sit.previous.set 0 (some 1) }

theorem witness_PositionUpdateRuns :
    State.reset.opu.updateDue = false ∧
    (∀ s ∈ [updating (counting State.reset) 0, updating State.reset 7, updating State.reset 8],
      s.opu.updateDue = true ∧ routeTest s = true ∧ s.opu.position ≠ none ∧
      ∀ n : Fin 2, s.bru.reader[n] = none) ∧
    countedDistance (increments (updating (counting State.reset) 0)) = some 37700 ∧
    countedDistance (increments (updating State.reset 8)) = none ∧
    (after .positionUpdate (updating (counting State.reset) 0)).opu.hold = 0 ∧
    (updating State.reset 7).opu.hold < 8 ∧
    (after .positionUpdate (updating State.reset 8)).opu.position = none ∧
    (after .positionUpdate (updating (counting State.reset) 0)).opu.position ≠ none := by
  decide +kernel

theorem witness_PositionUpdateRuns_moves :
    -- the held distance −5 m from offset 4.2 m, and +5 m onto an end of route held with 9000 mm
    (let s := (updating State.reset 0).setOpu { (updating State.reset 0).opu with
       lastDistance := -5000000 }
     routeTest s = true ∧ (4200000 : Int) + s.opu.lastDistance < 0) ∧
    (let content : Content := { header := ⟨9000, 0, 0⟩, blocks := Vector.replicate 8 none }
     let s := withWays (updating State.reset 0) 8 (some { tag := 8, content := some content }) none
     routeTest s = true ∧ heldHeader s 520 = some { length := 9000, succ0 := 0, succ1 := 0 }) := by
  decide +kernel

theorem witness_PositionUpdateRuns_inUse :
    -- no bogie enabled, and bogie 1 alone, in ACTIVE and not; the set of the segment holding it or not
    (∀ s ∈ [updating (counting State.reset) 0, updating (counting (withBogie State.reset)) 0,
        updating (counting (withBogie (inPart .active))) 0],
      s.opu.updateDue = true ∧ routeTest s = true ∧ (after .positionUpdate s).opu.position ≠ none ∧
      (∀ b : BogieId, s.tables.bogie[b].enabled = true → s.tables.bogie[b].semi ≤ 900) ∧
      heldHeader s 520 = none) ∧
    (withBogie State.reset).tables.bogie[(1 : Fin 4)].enabled = true ∧
    (withBogie State.reset).tables.bogie[(1 : Fin 4)].semi = 900 ∧
    (inPart .active).sdu.part = .active ∧ State.reset.sdu.part ≠ .active ∧
    (let s := withWays (updating State.reset 0) 8 (some { tag := 8, content := none }) none
     s.sgc.sets[(8 : Fin 64)].ways[(0 : Fin 2)] = some { tag := 520 / 64, content := none } ∧
     (Fin.ofNat 64 520 : Fin 64) = 8) := by decide +kernel

theorem witness_NinthUncountedLosesPosition :
    ∀ hold ∈ [8, 9],
      let s := updating State.reset hold
      s.opu.updateDue = true ∧ s.opu.hold = hold ∧ s.opu.position ≠ none ∧
      countedDistance (increments s) = none ∧ (∀ n : Fin 2, s.bru.reader[n] = none) := by
  decide +kernel

theorem witness_NinthUncountedLosesPosition_next :
    ∃ t, exec .positionUpdate (updating State.reset 8) = .next t := ⟨_, rfl⟩

/-- Beacon 0 of Table 3.1 names identifier 419 in segment 520 at 4000 mm; reader 1's axle is axle 0, its pulse
slot holding 3, and the trail one segment. -/
def beaconAt (s : State) (segment : Nat) : State :=
  let t := counting (updating s 0)
  (t.setTables { t.tables with
    beacon := t.tables.beacon.set 0 (some { ident := 419, segment := segment, offset := 4000 })
    param := { t.tables.param with readerOffset := #v[0, 100] } }).setOpu { t.opu with
    trail := [{ segment := 519, length := 5000 }] }

theorem witness_BeaconOutcomes :
    (beaconAt State.reset 520).opu.updateDue = true ∧
    (∃ t, exec .positionUpdate (beaconAt State.reset 520) = .next t) ∧
    State.reset.opu.position = none ∧ State.reset.bru.reader[(1 : Fin 2)] = none ∧
    (∀ segment ∈ [519, 520, 521],
      let s := readerPending (beaconAt State.reset segment)
      routeTest s = true ∧ s.opu.position ≠ none ∧
      s.bru.reader[(1 : Fin 2)] = some { ident := 419, latched := 7 } ∧
      s.tables.beacon[(0 : Fin 64)] = some { ident := 419, segment := segment, offset := 4000 } ∧
      (∀ j : Fin 64, j ≠ 0 → s.tables.beacon[j] = none) ∧
      s.tables.axle[s.tables.param.readerAxle[(1 : Fin 2)]] ≠ none ∧
      s.sit.pulse[(0 : Fin 8)].latest = some { value := 3, arrival := 0 }) ∧
    (∀ i : Fin 64, (readerPending State.reset).tables.beacon[i] = none) ∧
    State.reset.tables.axle[State.reset.tables.param.readerAxle[(1 : Fin 2)]] = none ∧
    (withAxle State.reset).sit.pulse[(0 : Fin 8)].latest = none ∧
    -- the counts 7 and 3 give −4 × 18850 µm behind reader 1's 100 mm, and 3 after 7 with no offset less
    ((100 * 1000 + ((3 - 7 + 32768) % 65536 - 32768) * 18850 : Int) = 24600 ∧
      (0 * 1000 + ((3 - 7 + 32768) % 65536 - 32768) * 18850 : Int) < 0) ∧
    (updating State.reset 0).bru.disagreement = 0 ∧
    1 ≤ ((updating State.reset 0).setBru { State.reset.bru with disagreement := 1 }).bru.disagreement :=
  ⟨by decide +kernel, ⟨_, rfl⟩, by decide +kernel, by decide +kernel, by decide +kernel,
    by decide +kernel, by decide +kernel, by decide +kernel, by decide +kernel, by decide +kernel,
    by decide +kernel⟩

theorem witness_BeaconOutcomes_related :
    let s := beaconAt State.reset 520
    (∃ p, s.opu.position = some p ∧ p.segment = 520 ∧ p.offset / 1000 + 0 < 5000) ∧
    s.opu.trail[0]? = some { segment := 519, length := 5000 } ∧
    (∀ x ∈ s.opu.trail, x.segment ≠ 521) ∧
    Relation.same 5 ≠ .notFound ∧ Relation.behind 5 ≠ .notFound ∧
    Relation.ahead 5 [(520, { length := 9000, succ0 := 521, succ1 := 0 })] ≠ .notFound := by
  decide +kernel

/-- The steering computation at a bogie. -/
def determining (s : State) (b : BogieId) : State :=
  (s.setSlu { s.slu with next := some b }).setCsu { s.csu with running := true }

theorem witness_BogieOff :
    State.reset.slu.next = none ∧
    (determining State.reset 2).slu.next = some 2 ∧
    (determining State.reset 2).tables.bogie[(2 : Fin 4)].enabled = false ∧
    ((determining (withBogie (inPart .standby)) 1).slu.next = some 1 ∧
      (determining (withBogie (inPart .standby)) 1).tables.bogie[(1 : Fin 4)].enabled = true ∧
      (determining (withBogie (inPart .standby)) 1).sdu.part ≠ .active ∧
      (determining (withBogie (inPart .standby)) 1).sdu.part ≠ .config) ∧
    ((determining (withBogie State.reset) 1).sdu.part = .config) ∧
    ((determining (inPart .active) 3).slu.next = some 3 ∧
      (determining (inPart .active) 3).tables.bogie[(3 : Fin 4)].enabled = false) ∧
    (let s := determining ((inPart .standby).setTables { State.reset.tables with
       bogie := State.reset.tables.bogie.set 3 { BogieEntry.initial with enabled := true } }) 3
     s.slu.next = some 3 ∧ s.tables.bogie[(3 : Fin 4)].enabled = true ∧ s.sdu.part ≠ .active ∧
     s.sdu.part ≠ .config) := by decide +kernel

/-- Bogie 1 at its determination in ACTIVE, with this position report. -/
def inActive (report : PositionReport) : State :=
  let s := determining (withBogie (inPart .active)) 1
  s.setOpu { s.opu with report := report }

/-- Both axles of bogie 1 placed in segment 412. -/
def placed : PositionReport :=
  { PositionReport.initial with
    position := some { segment := 412, offset := 20000000, overrun := 0, confirmed := true }
    speed := 4000
    axle := (PositionReport.initial.axle.set 2
      (some { segment := 412, offset := 9500, place := .current })).set 3
      (some { segment := 412, offset := 7700, place := .current }) }

theorem witness_BogieStateInActive :
    (∀ report ∈ [PositionReport.initial, placed, { placed with standstill := true }],
      (inActive report).slu.next = some 1 ∧
      (inActive report).tables.bogie[(1 : Fin 4)].enabled = true ∧
      (inActive report).sdu.part = .active ∧ bogieExcluded (inActive report) 1 = false) ∧
    PositionReport.initial.standstill = false ∧ PositionReport.initial.position = none ∧
    (placed.standstill = false ∧ placed.position ≠ none ∧ placed.axle[leadOf 1] ≠ none ∧
      placed.axle[trailOf 1] ≠ none) ∧
    (let s := (inActive placed).setLink 1 { Link.initial with excluded := true }
     s.slu.next = some 1 ∧ s.tables.bogie[(1 : Fin 4)].enabled = true ∧ s.sdu.part = .active ∧
     bogieExcluded s 1 = true) := by decide +kernel

/-- Segment 412 of 10000 mm held, with sub-block 7 alone, and its end of route. -/
def held412 (s : State) : State :=
  let block : SubBlock := { gainClass := 2, points := #v[4000, 5556, 5556, 5556] }
  let content : Content :=
    { header := ⟨10000, 0, 0⟩, blocks := (Vector.replicate 8 none).set 7 (some block) }
  withWays s 28 (some { tag := 6, content := some content }) none

theorem witness_BogieStateInActive_steered :
    (∀ s ∈ [inActive placed, held412 (inActive placed)], routeTest s = true ∧
      s.opu.report.standstill = false ∧ bogieExcluded s 1 = false ∧
      s.opu.report.axle[leadOf 1] = some { segment := 412, offset := 9500, place := .current } ∧
      s.opu.report.axle[trailOf 1] = some { segment := 412, offset := 7700, place := .current }) ∧
    (after .bogieDetermination (inActive placed)).slu.bogieState[(1 : Fin 4)] = .degraded ∧
    (let axles := placed.axle.set 3 (some { segment := 412, offset := 9400, place := .current })
     let s := held412 (inActive { placed with axle := axles })
     routeTest s = true ∧
     (after .bogieDetermination s).slu.bogieState[(1 : Fin 4)] = .tracking) := by decide +kernel

/-- Bogie 1's lead axle placed at the start of segment 412, which is not held. -/
def leadAtStart : State :=
  inActive { placed with axle := placed.axle.set 2 (some ⟨412, 0, .current⟩) }

/-- A SEGMENT frame of segment 412 with sub-block 0. -/
def fill412 : Delivery :=
  { source := 0, tag := 0, payload := [412, 10000, 0, 0, 1, 0, 70, 0, 0, 0] }

/-- R102, R92: a fill between the look-ahead walk and the second reading, which then succeeds at the axle. -/
theorem test_fill_between_reads :
    let t := after .bogieDetermination (leadAtStart.setWithin [[], [], [.segment fill412]])
    t.slu.record[(2 : Fin 8)].source = .axle ∧ t.slu.record[(2 : Fin 8)].curvature = some 70 ∧
    t.within = [] := by decide +kernel

theorem witness_BogieStateInActive_between :
    (let s := leadAtStart.setWithin [[], [], [.segment fill412]]
     s.within = [[], [], [.segment fill412]] ∧ routeTest s = true ∧
     s.opu.report.standstill = false ∧ bogieExcluded s 1 = false ∧
     s.opu.report.axle[leadOf 1] = some ⟨412, 0, .current⟩ ∧ heldHeader s 412 = none ∧
     Reading (takeArrival s (.segment fill412)) ⟨412, 0, .current⟩ (some 70)) ∧
    (inActive placed).within = [] := by
  refine ⟨⟨rfl, by decide +kernel, by decide +kernel, by decide +kernel, by decide +kernel,
    by decide +kernel, ?_⟩, by decide +kernel⟩
  generalize hu : takeArrival (leadAtStart.setWithin [[], [], [.segment fill412]]) (.segment fill412) = u
  have hh : heldHeader u 412 = some ⟨10000, 0, 0⟩ := by subst hu; decide +kernel
  have hb : heldBlock u 412 0 = some { gainClass := 0, points := #v[70, 0, 0, 0] } := by
    subst hu; decide +kernel
  simp [Reading, hh, hb]

/-- A close that takes a deferred entry, with a bogie write posted or not. -/
def closing (s : State) (posted : Option Posted) : State :=
  let t := determining s 3
  ((t.setSdu { t.sdu with part := .standby, deferred := true }).setCsu
    { t.csu with supervision := { counting := true, elapsed := 0 } }).setMrh
    { t.mrh with posted := posted }

/-- A write that disables bogie 1. -/
def disables : Posted := { request := .bogie 1 BogieEntry.initial, sender := 9 }

theorem witness_LastBogieClosesCycle :
    (let s := determining ((inPart .standby).setTables { State.reset.tables with
       bogie := State.reset.tables.bogie.set 3 { BogieEntry.initial with enabled := true } }) 3
     s.slu.next = some 3 ∧ s.tables.bogie[(3 : Fin 4)].enabled = true ∧ s.sdu.part ≠ .config) ∧
    (let s := determining (State.reset.setTables { State.reset.tables with
       bogie := State.reset.tables.bogie.set 3 { BogieEntry.initial with enabled := true } }) 3
     s.slu.next = some 3 ∧ s.sdu.part = .config ∧ s.csu.running = true ∧
     (∀ b : BogieId, s.csu.awaiting[b] = false) ∧ supervisionReached s = false ∧
     s.mrh.posted = none) ∧
    (∀ posted ∈ [none, some disables],
      let s := closing (withAxle (withBogie State.reset)) posted
      s.slu.next = some 3 ∧ s.tables.bogie[(3 : Fin 4)].enabled = false ∧ s.csu.running = true ∧
      (∀ b : BogieId, s.csu.awaiting[b] = false) ∧
      supervisionReached s = false ∧ s.mrh.posted = posted ∧ s.sdu.deferred = true) ∧
    inconsistency (after .bogieDetermination (closing (withAxle (withBogie State.reset)) none)) =
      none ∧
    inconsistency (after .bogieDetermination
      (closing (withAxle (withBogie State.reset)) (some disables))) = some 1 := by decide +kernel

theorem witness_LastBogieClosesCycle_posted :
    ∀ e, disables.request ≠ .param e := by simp [disables]

/-- A steering result of bogie 1 to be shaped. -/
def shapeable (s : State) (targets : Option (Int × Int)) : State :=
  (s.setOsu { s.osu with
    results := [{ bogie := 1, state := .tracking, targets := targets }] }).setCsu
    { s.csu with running := true, awaiting := s.csu.awaiting.set 1 true }

/-- The last result of a cycle whose end report is in. -/
def lastOffer (s : State) (targets : Option (Int × Int)) : State :=
  let t := shapeable s targets
  t.setCsu { t.csu with endReport := true }

theorem witness_LastBogieClosesCycle_offer :
    ∀ posted ∈ [none, some disables],
      let s := (lastOffer (withAxle (withBogie (inPart .standby))) none).setMrh
        { State.reset.mrh with posted := posted }
      s.osu.results = { bogie := 1, state := .tracking, targets := none } :: [] ∧
      s.csu.running = true ∧ s.csu.endReport = true ∧
      (∀ b : BogieId, b ≠ 1 → s.csu.awaiting[b] = false) ∧ supervisionReached s = false ∧
      s.mrh.posted = posted := by decide +kernel

theorem witness_ShapingTargets :
    State.reset.osu.results = [] ∧
    (∀ part ∈ [PartState.config, .standby, .active, .fallback],
      let s := shapeable (withBogie (inPart part)) (some (43207, -22514))
      s.osu.results = { bogie := 1, state := .tracking, targets := some (43207, -22514) } :: [] ∧
      bogieExcluded s 1 = false ∧ s.sdu.part = part) ∧
    bogieExcluded ((shapeable (inPart .active) none).setLink 1
      { Link.initial with excluded := true }) 1 = true ∧
    (lastOffer (withBogie (inPart .active)) none).csu.endReport = true ∧
    (shapeable (withBogie (inPart .active)) none).csu.endReport = false ∧
    (shapeable (inPart .active) none).tables.bogie[(1 : Fin 4)].enabled = false ∧
    (let s := shapeable (awaiting (withBogie (inPart .active)) 0 none) none
     s.tables.bogie[(1 : Fin 4)].enabled = true ∧ s.tables.bogie[(1 : Fin 4)].echoCompare = true ∧
     s.als[(1 : Fin 4)].outstanding ≠ none) ∧
    (shapeable (withBogie (inPart .active)) none).als[(1 : Fin 4)].outstanding = none := by
  decide +kernel

/-- Channel 2 with an issued code, and the slew step of its entry. -/
def issuedAt (s : State) (code inverse slew : Nat) : State :=
  let t := s.setTables { s.tables with
    channel := s.tables.channel.set 2 { plainChannel with slew := slew } }
  t.setShaped 2 { target := none, rangeLimited := false,
                  issued := some { code := code, inverse := inverse } }

theorem witness_CodesStepTowardsTarget :
    State.reset.osu.channel[(2 : Fin 8)].issued = none ∧
    (let s := issuedAt (inPart .active) 42900 22635 0
     s.osu.channel[(2 : Fin 8)].issued = some { code := 42900, inverse := 22635 } ∧
     s.tables.channel[(2 : Fin 8)].slew = 0) ∧
    (let s := issuedAt (inPart .active) 42900 22635 400
     0 < s.tables.channel[(2 : Fin 8)].slew ∧ ((43300 : Int) - 42900).natAbs ≤ 400 ∧
     42900 + s.tables.channel[(2 : Fin 8)].slew < 43425 ∧
     27159 + s.tables.channel[(2 : Fin 8)].slew < 42900) ∧
    0 < (issuedAt (inPart .fallback) 42900 22635 0).tables.param.fallbackStep := by decide +kernel

theorem witness_CommandBuilt :
    (let s := withBogie (inPart .active)
     copyOk s.osu.channel[leadOf 1] = true ∧ copyOk s.osu.channel[trailOf 1] = true ∧
     commandWaits s 1 = false ∧ queueLength s.rpu < 12) ∧
    commandWaits (queued [] [waitingCommand] [] 0) 1 = true ∧
    (let s := fullQueue (withBogie (inPart .active))
     copyOk s.osu.channel[leadOf 1] = true ∧ commandWaits s 1 = false ∧
     12 ≤ queueLength s.rpu) := by decide +kernel

theorem witness_CopyFailureEndsBuild :
    copyOk (issuedAt (inPart .active) 43425 22174 400).osu.channel[leadOf 1] = false := by
  decide +kernel

/-! ## Witnesses: actuator links -/

theorem witness_AnswerHandled :
    forwardOnly State.reset = false ∧
    (∀ b : BogieId, State.reset.tables.bogie[b].enabled = false) ∧
    (let s := awaiting (withBogie (inPart .active)) 1 none
     s.tables.bogie[(1 : Fin 4)].enabled = true ∧
     s.tables.bogie[(1 : Fin 4)].actuator = (21 : Addr).toNat ∧
     (∀ c : BogieId, c < 1 → s.tables.bogie[c].enabled = false) ∧
     s.als[(1 : Fin 4)].pending = none ∧
     (∀ o ∈ s.als[(1 : Fin 4)].outstanding.toList, (7 : Tag) = o.tag ∧ (6 : Tag) ≠ o.tag ∧
       (echo 33200 32400).receivedLead.toNat = o.codes.lead ∧
       (echo 33200 32400).receivedTrail.toNat = o.codes.trail) ∧
     s.als[(1 : Fin 4)].outstanding ≠ none) ∧
    (awaiting (withBogie (inPart .active)) 1 (some { lead := 1, trail := 2 })).als[(1 : Fin 4)].pending =
      some { lead := 1, trail := 2 } := by decide +kernel

/-- 7.10: with the limit 200, a measured 33260 is 240 from the issued 33500, and 33450 is 50. -/
theorem witness_EchoStored :
    let s := issuedAt (inPart .active) 33500 32035 0
    BeyondLimit s (leadOf 1) 33260 ∧ ¬ BeyondLimit s (leadOf 1) 33450 ∧
    ¬ BeyondLimit s (trailOf 1) 33260 := by
  have lead : (issuedAt (inPart .active) 33500 32035 0).osu.channel[leadOf 1].issued =
      some { code := 33500, inverse := 32035 } := by decide +kernel
  have trail : (issuedAt (inPart .active) 33500 32035 0).osu.channel[trailOf 1].issued = none := by
    decide +kernel
  refine ⟨⟨_, lead, by decide +kernel⟩, ?_, ?_⟩
  · rintro ⟨i, hi, h⟩
    rw [lead] at hi
    cases hi
    revert h
    decide +kernel
  · rintro ⟨i, hi, -⟩
    rw [trail] at hi
    cases hi

theorem witness_AnswerDiffers :
    (∀ n ∈ [0, 1, 2],
      let s := awaiting (withBogie (inPart .active)) n none
      forwardOnly s = false ∧ bogieOf s 21 = some 1 ∧ s.als[(1 : Fin 4)].mismatch = n ∧
      ∃ o ∈ s.als[(1 : Fin 4)].outstanding.toList,
        ¬ ((echo 33200 32464).receivedLead.toNat = o.codes.lead ∧
          (echo 33200 32464).receivedTrail.toNat = o.codes.trail)) := by decide +kernel

theorem witness_NoticeHandled :
    forwardOnly State.reset = false ∧ bogieOf State.reset 21 = none ∧
    (∀ n ∈ [0, 4, 5],
      let s := (withBogie (inPart .active)).setLink 1 { Link.initial with notices := n }
      bogieOf s 21 = some 1 ∧ s.als[(1 : Fin 4)].ignoring = false ∧
      s.als[(1 : Fin 4)].notices = n) ∧
    (let s := (withBogie (inPart .active)).setLink 1
       { Link.initial with notices := 6, ignoring := true }
     bogieOf s 21 = some 1 ∧ s.als[(1 : Fin 4)].ignoring = true) := by decide +kernel

/-! ## Witnesses: segment cache -/

/-- The payload of a header-only SEGMENT frame of segment 648. -/
def segmentHeader : List Word := [648, 12000, 649, 0, 0, 0]

/-- Both ways of segment 648's set hold other segments in use. -/
def conflicting : State :=
  State.reset.setSgc { State.reset.sgc with
    sets := State.reset.sgc.sets.set 8
      { ways := #v[some { tag := 8, content := none }, some { tag := 9, content := none }], lru := 0 }
    inUse := [520, 584] }

theorem witness_SegmentDiscarded :
    forwardOnly State.reset = false ∧ (List.replicate 5 (0 : Word)).length < 6 ∧
    256 ≤ (256 : Word).toNat ∧
    4 < ((List.range 8).filter fun k => (0x1F : Word).getLsbD k).length ∧
    segmentHeader.length + 1 ≠
      6 + 4 * ((List.range 8).filter fun k => (0 : Word).getLsbD k).length ∧
    (999 : Word).toNat < 1000 ∧ 60000 < (60001 : Word).toNat ∧ (65535 : Word).toNat = 65535 ∧
    ((649 : Word).toNat ≠ 0 ∧ (0 : Word).toNat = 0) ∧
    segmentFill segmentHeader ≠ none := by decide +kernel

/-- Segment 648 held with the header of that frame, of another length, or with none; its set's other way free. -/
def holding648 (content : Option Header) : State :=
  withWays State.reset 8 (some
    { tag := 10
      content := content.map fun h => { header := h, blocks := Vector.replicate 8 none } }) none

theorem witness_SegmentFilled :
    forwardOnly State.reset = false ∧ forwardOnly conflicting = false ∧
    (segmentFill segmentHeader).map SegmentFill.segment = some 648 ∧
    (segmentFill [648, 12000, 649, 0, 0x81, 0x8001, 8001, 0, 0, 0, 0, 0, 0, 0]).map
      SegmentFill.clamped = some true ∧
    (Fin.ofNat 64 648 : Fin 64) = 8 ∧ 648 / 64 = 10 ∧
    (∀ h ∈ [none, some ⟨12000, 649, 0⟩, some ⟨12001, 649, 0⟩],
      (holding648 h).sgc.sets[(8 : Fin 64)].ways[(0 : Fin 2)].map Line.tag = some 10) ∧
    (∀ w : Fin 2, State.reset.sgc.sets[(8 : Fin 64)].ways[w] = none) ∧
    (let free (inUse : List Nat) := conflicting.setSgc { conflicting.sgc with inUse := inUse }
     (∀ w : Fin 2, conflicting.sgc.sets[(8 : Fin 64)].ways[w] ≠ none) ∧
     conflicting.sgc.sets[(8 : Fin 64)].lru = 0 ∧
     8 * 64 + 8 ∉ (free [584]).sgc.inUse ∧ 9 * 64 + 8 ∉ (free [520]).sgc.inUse ∧
     8 * 64 + 8 ∈ (free [520]).sgc.inUse ∧ 9 * 64 + 8 ∈ conflicting.sgc.inUse) ∧
    (let s := withWays State.reset 8 (some { tag := 9, content := none }) none
     s.sgc.sets[(8 : Fin 64)].ways[(0 : Fin 2)] ≠ none ∧
     s.sgc.sets[(8 : Fin 64)].ways[(1 : Fin 2)] = none) := by decide +kernel

theorem witness_NeedMade_lookups :
    (Fin.ofNat 64 648 : Fin 64) = 8 ∧
    (∀ h ∈ [none, some ⟨12000, 649, 0⟩],
      (holding648 h).sgc.sets[(8 : Fin 64)].ways[(0 : Fin 2)].map Line.tag = some (648 / 64)) ∧
    (∀ w : Fin 2, State.reset.sgc.sets[(8 : Fin 64)].ways[w] = none) ∧
    (let s := withWays State.reset 28 none
       ((held412 State.reset).sgc.sets[(28 : Fin 64)].ways[(0 : Fin 2)])
     (s.sgc.sets[(28 : Fin 64)].ways[(1 : Fin 2)].map Line.tag = some (412 / 64)) ∧
     (heldBlock s 412 7).isSome = true ∧ (heldBlock s 412 0).isNone = true) := by decide +kernel

theorem witness_NeedMade_within :
    ∃ s : State, s.within = [.segment fill412] :: [] := ⟨State.reset.setWithin [[.segment fill412]], rfl⟩

theorem witness_NeedMade :
    let n : Need := { segment := 520, header := true, blocks := 0 }
    let e (k : Nat) : FetchEntry := { segment := k, header := true, blocks := 0, age := 0 }
    let full := State.reset.setSgc { State.reset.sgc with outstanding := [e 1, e 2, e 3, e 4] }
    (outstandingFor State.reset n.segment = none ∧ State.reset.sgc.outstanding.length < 4 ∧
      queueLength State.reset.rpu < 12) ∧
    (outstandingFor full n.segment = none ∧ 4 ≤ full.sgc.outstanding.length) ∧
    (outstandingFor (fullQueue State.reset) n.segment = none ∧
      12 ≤ queueLength (fullQueue State.reset).rpu) ∧
    (outstandingFor (fetching 0) n.segment =
        some { segment := 520, header := true, blocks := 0, age := 0 } ∧
      n.blocks &&& ~~~(0 : BitVec 8) = 0) ∧
    ((1 : BitVec 8) &&& ~~~(0 : BitVec 8) ≠ 0 ∧ queueLength (fetching 0).rpu < 12 ∧
      12 ≤ queueLength (fullQueue (fetching 0)).rpu ∧
      (fullQueue (fetching 0)).sgc.outstanding = (fetching 0).sgc.outstanding) := by decide +kernel

/-! ## Witnesses: part states -/

theorem witness_EntriesAct : (inPart .active).sdu.part = .active ∧ State.reset.sdu.part ≠ .active := by
  decide

theorem witness_SupervisionExpires : supervised State.reset = false ∧
    supervised (inPart .standby) = true ∧
    (supervised (inPart .active) = true ∧ (inPart .active).sdu.part = .active) := by decide +kernel

/-- A broadcast request of node 9. -/
def broadcast9 : Origin := { from9 with broadcast := true }

theorem witness_StateSetTable :
    (∀ part ∈ [PartState.config, .standby, .active, .fallback], ∀ o ∈ [from9, broadcast9],
      accepts (inPart part) o 4 = true ∧ (inPart part).sdu.part = part ∧
      inconsistency (inPart part) = some 1 ∧
      accepts (withAxle (withBogie (inPart part))) o 4 = true ∧
      (withAxle (withBogie (inPart part))).sdu.part = part ∧
      inconsistency (withAxle (withBogie (inPart part))) = none) ∧
    ([0] : List Word) ≠ [] ∧ (inPart .fallback).csu.rearm = false ∧
    ((inPart .fallback).setCsu { (inPart .fallback).csu with rearm := true }).csu.rearm = true := by
  decide +kernel

theorem witness_ConsistencyReasons :
    (¬ ∃ b : BogieId, State.reset.tables.bogie[b].enabled = true) ∧
    ((withBogie State.reset).tables.bogie[(1 : Fin 4)].enabled = true ∧
      (withBogie State.reset).tables.bogie[(1 : Fin 4)].actuator ≠
        (withBogie State.reset).rpu.own.toNat) ∧
    ((withAxle State.reset).tables.axle[(0 : Fin 8)] =
      some { umPerPulse := 18850, slot := 0, odometry := true }) ∧
    (∀ i : Fin 8, State.reset.tables.axle[i] = none) ∧
    (let s := State.reset.setTables { State.reset.tables with
       bogie := State.reset.tables.bogie.set 1
         { BogieEntry.initial with enabled := true, actuator := 63 } }
     s.tables.bogie[(1 : Fin 4)].enabled = true ∧ ¬ s.tables.bogie[(1 : Fin 4)].actuator ≤ 62) := by
  decide +kernel

/-! ## Witnesses: requests -/

theorem witness_UnacceptedRequestIgnored :
    (requestOf (.statusRead from9 0 []) = some (from9, 1) ∧
      (Instr.statusRead from9 0 []).wf = true ∧ confirming.mrh.confirmed = true) ∧
    (requestOf (.routeClear broadcast9 []) = some (broadcast9, 7) ∧
      (Instr.routeClear broadcast9 []).wf = true ∧ broadcast9.broadcast = true ∧ 7 ≠ 4) ∧
    (delivered (.stateSetConfig from9 []) = true ∧ delivered .returnedReply = true ∧
      forwardOnly repeater = true) := by decide +kernel

theorem witness_RequestFinished :
    (Reply.plain .done).confirms = none ∧ State.reset.tables.param.keepAlive = false ∧
    (∀ part ∈ [PartState.config, .standby, .active, .fallback],
      let u := (inPart part).setTables { State.reset.tables with
        param := { ParamEntry.initial with keepAlive := true } }
      u.tables.param.keepAlive = true ∧ u.sdu.part = part ∧ u.flag .supExpired = false) ∧
    (((inPart .fallback).setFlag .supExpired).flag .supExpired = true ∧
      ((inPart .fallback).setFlag .supExpired).sdu.part = .fallback) := by decide +kernel

/-- The requests of node 9 that the part after reset accepts. -/
theorem witness_Addressed : Addressed State.reset from9 ∧ Addressed (inPart .standby) from9 := by
  unfold Addressed; decide +kernel

theorem witness_ReadsAnswered : Addressed State.reset from9 ∧
    (3 : Byte).toNat = (3 : BogieId).val ∧ 4 ≤ (4 : Byte).toNat ∧
    ((63 : Word).toNat = (63 : Fin 64).val ∧ (1 : Word).toNat = (1 : Fin 2).val) ∧
    64 ≤ (64 : Word).toNat ∧ 2 ≤ (2 : Word).toNat :=
  ⟨witness_Addressed.1, by decide⟩

theorem witness_EntriesReadAsWritten :
    plainChannel.InRange ∧ ChannelEntry.initial.InRange ∧ ParamEntry.initial.InRange := by
  unfold ChannelEntry.InRange ParamEntry.InRange; decide +kernel

theorem witness_TableWritesAnswered :
    Addressed State.reset from9 ∧ Addressed (inPart .standby) from9 ∧
    (inPart .standby).mrh.posted = none ∧
    (let s := (inPart .standby).setMrh { State.reset.mrh with posted := some disables }
     Addressed s from9 ∧ s.sdu.part ≠ .config ∧ s.mrh.posted ≠ none) ∧
    ChannelEntry.ofWords (channelWords plainChannel) = some plainChannel ∧
    (ParamFields.ofWords (paramWords ParamEntry.initial)).isSome = true := by
  unfold Addressed; decide +kernel

theorem witness_TableWritesAnswered_applied :
    (let s := withSource (.pulse 7)
     s.tables.source[(0 : Fin 24)] = some { node := 12, item := 4, target := .pulse 7, maxAge := 2 } ∧
     s.tables.source[(23 : Fin 24)] = none) ∧
    (withAxle State.reset).tables.axle[(0 : Fin 8)] =
      some { umPerPulse := 18850, slot := 0, odometry := true } ∧
    (beaconAt State.reset 520).tables.beacon[(0 : Fin 64)] =
      some { ident := 419, segment := 520, offset := 4000 } ∧
    ((withBogie State.reset).tables.bogie[(1 : Fin 4)].enabled = true ∧
      (withBogie State.reset).tables.bogie[(1 : Fin 4)].actuator = 21 ∧
      (withBogie State.reset).tables.bogie[(0 : Fin 4)].enabled = false) ∧
    ((inPart .standby).sdu.part ≠ .config ∧
      (inPart .standby).tables.channel[(7 : Fin 8)].codeMin = plainChannel.codeMin ∧
      (inPart .standby).tables.channel[(7 : Fin 8)].codeMin ≠
        ({ plainChannel with codeMin := 8000 } : ChannelEntry).codeMin) := by decide +kernel

theorem witness_TableChecks :
    (inPart .active).sdu.part = .active ∧ (inPart .standby).sdu.part ≠ .active ∧
    (let f : SourceFields :=
       { valid := true, node := 62, item := 15, kind := 3, slot := 1, maxAge := 0 }
     f.slot < 8 ∧ f.maxAge < 16 ∧ f.node ≠ (inPart .standby).rpu.own.toNat ∧
     ∀ j : Fin 24, (inPart .standby).tables.source[j] = none) ∧
    (∀ j : Fin 8, (inPart .standby).tables.axle[j] = none) ∧
    (let e := (withBogie (inPart .standby)).tables.bogie[(1 : Fin 4)]
     e.enabled = true ∧ 1 ≤ e.actuator ∧ e.actuator ≤ 62 ∧
     e.actuator ≠ (inPart .standby).rpu.own.toNat ∧ 400 ≤ e.semi ∧ e.semi ≤ 1500 ∧
     e.pivot + e.semi ≤ 40000) ∧
    ((inPart .standby).sdu.part ≠ .config ∧ -2048 ≤ plainChannel.trim ∧ plainChannel.trim ≤ 2047 ∧
      ({ plainChannel with codeMin := 1 } : ChannelEntry).codeMin < plainChannel.codeMax ∧
      ({ plainChannel with codeMin := 1 } : ChannelEntry).codeMin ≠
        (inPart .standby).tables.channel[(7 : Fin 8)].codeMin ∧
      plainChannel.codeMin = (inPart .standby).tables.channel[(7 : Fin 8)].codeMin ∧
      plainChannel.codeMax = (inPart .standby).tables.channel[(7 : Fin 8)].codeMax) ∧
    (∀ j : Fin 64, (inPart .standby).tables.beacon[j] = none) ∧
    (∃ f ∈ (ParamFields.ofWords (List.replicate 15 0)).toList,
      ¬ (1 ≤ f.threshold1 ∧ f.threshold1 < f.threshold2)) ∧
    (∃ f ∈ (ParamFields.ofWords (paramWords ParamEntry.initial)).toList,
      f.axle0 = (0 : Fin 8).val ∧ f.axle1 = (0 : Fin 8).val ∧ f.offset0 ≤ 40000 ∧
      f.offset1 ≤ 40000 ∧ 1 ≤ f.threshold1 ∧ f.threshold1 < f.threshold2 ∧
      f.threshold2 < f.threshold3 ∧ f.threshold3 ≤ 30000) := by decide +kernel

theorem witness_PositionAndRouteRequests :
    Addressed State.reset from9 ∧ Addressed (inPart .standby) from9 ∧
    (let trail := (wordPairs [411, 1000, 410, 60000]).map fun e =>
       ({ segment := e.1, length := e.2 } : TrailEntry)
     ([411, 1000, 410, 60000] : List Word).length = 2 * (2 : Byte).toNat ∧ (2 : Byte).toNat ≤ 4 ∧
     (412 : Word).toNat ≠ 0 ∧ (412 : Word).toNat ≠ 65535 ∧
     ∀ e ∈ trail, e.segment ≠ 0 ∧ e.segment ≠ 65535 ∧ 1000 ≤ e.length ∧ e.length ≤ 60000) ∧
    ¬ ((0 : Word).toNat ≠ 0) ∧ (inPart .standby).sdu.part ≠ .config ∧
    (inPart .standby).mrh.posted = none ∧
    ((List.replicate 16 (1 : Word)).length = 2 * (8 : Byte).toNat ∧ 1 ≤ (8 : Byte).toNat ∧
      (8 : Byte).toNat ≤ 8 ∧ State.reset.opu.route.length + (8 : Byte).toNat ≤ 16 ∧
      ∀ e ∈ wordPairs (List.replicate 16 1), e.1 ≠ 0 ∧ e.1 ≠ 65535 ∧ e.2 ≤ 1) ∧
    ¬ (1 ≤ (0 : Byte).toNat) := by
  unfold Addressed; decide +kernel

theorem witness_AcknowledgementHandled :
    Addressed State.reset from9 ∧
    (((0x0088 : Word) ++ (0x0400 : Word) : BitVec 32).getLsbD 19 = true ∧
      ((0x0088 : Word) ++ (0x0400 : Word) : BitVec 32).getLsbD 23 = true) := by
  unfold Addressed; decide +kernel

theorem witness_InvalidationHandled :
    Addressed State.reset from9 ∧ State.reset.sdu.part = .config ∧
    Addressed (inPart .active) from9 ∧ (inPart .active).sdu.part ≠ .config ∧
    (inPart .active).mrh.posted = none ∧
    (let s := (inPart .active).setMrh { State.reset.mrh with posted := some disables }
     Addressed s from9 ∧ s.mrh.posted ≠ none ∧ s.sdu.part ≠ .config) ∧
    (65535 : Word).toNat = 65535 ∧ (65534 : Word).toNat ≠ 65535 ∧
    conflicting.sgc.sets[(8 : Fin 64)].ways[(0 : Fin 2)] = some { tag := 8, content := none } ∧
    (Fin.ofNat 64 520 : Fin 64) = 8 ∧ 520 / 64 = 8 ∧ 520 ∈ conflicting.sgc.inUse ∧
    (∀ m ∈ conflicting.sgc.sets[(8 : Fin 64)].ways[(1 : Fin 2)].toList, m.tag ≠ 520 / 64) ∧
    648 ∉ (holding648 none).sgc.inUse ∧
    conflicting.sgc.sets[(9 : Fin 64)].ways[(0 : Fin 2)] = none := by
  unfold Addressed; decide +kernel

/-- A prepare of node 9 held. -/
def prepared : State :=
  State.reset.setMrh { State.reset.mrh with prepare := some { value := 4660, sender := 9 } }

theorem witness_ResetExchange :
    Addressed State.reset from9 ∧ State.reset.mrh.prepare = none ∧
    Addressed prepared from9 ∧ prepared.mrh.prepare = some { value := 4660, sender := 9 } ∧
    Addressed prepared { from9 with source := 10 } ∧ (9 : Addr) ≠ 10 ∧
    (60874 : Word).toNat ≠ 65535 - (4660 : Word).toNat ∧
    (60875 : Word).toNat = 65535 - (4660 : Word).toNat ∧ queueLength prepared.rpu < 12 ∧
    (requestOf (.statusRead from9 0 []) = some (from9, 1) ∧
      (Instr.statusRead from9 0 []).wf = true ∧ (1 : Nat) ≠ 12 ∧
      accepts prepared from9 1 = true) := by
  unfold Addressed; decide +kernel

theorem witness_ResetExchange_next : ∃ t, exec (.statusRead from9 0 []) prepared = .next t :=
  ⟨_, rfl⟩

theorem witness_UnfitRequestRefused :
    Addressed State.reset from9 ∧ ((15 : BitVec 4).toNat = 15) ∧ ([0] : List Word).length ≠ 0 ∧
    ([0] : List Word).length ≠ 2 ∧ ([] : List Word).length ≠ 1 ∧ ([0] : List Word).length ≠ 3 ∧
    ([0] : List Word).length ≠ 10 ∧ ([0] : List Word).length ≠ 15 ∧
    ([0] : List Word).length ≠ 2 + 2 * (0 : Byte).toNat ∧
    ([0] : List Word).length ≠ 2 * (1 : Byte).toNat := by
  unfold Addressed; decide +kernel

/-! ## Witnesses: invariants and rules of the whole part -/

/-- A part in ACTIVE with its computation at bogie 1, a command outstanding and its frame waiting. -/
def busy : State :=
  let s := awaiting (withAxle (withBogie (inPart .active))) 0 none
  let t := determining (s.setRpu { s.rpu with commands := [waitingCommand] }) 1
  t.setPending [.bogieDetermination]

theorem witness_FlagsFollow : FlagsFollow busy := by unfold FlagsFollow; decide +kernel
theorem witness_LinksQuiet : LinksQuiet busy := by unfold LinksQuiet; decide +kernel
theorem witness_FramesMatch : FramesMatch busy := by
  have hc : busy.rpu.commands = [waitingCommand] := by decide +kernel
  have ho : busy.als[waitingCommand.bogie].outstanding =
      some { tag := 7, codes := { lead := 33200, trail := 32400 },
             targets := { lead := 33200, trail := 32400 }, age := 1 } := by decide +kernel
  intro f hf o h
  rw [hc, List.mem_singleton] at hf
  subst hf
  rw [ho] at h
  cases h
  exact ⟨rfl, rfl⟩
theorem witness_RouteSound : RouteSound (held412 busy) :=
  routeSound_of_test _ (by decide +kernel)
theorem witness_TablesUnique : TablesUnique busy.tables := by
  have hs : ∀ i : Fin 24, busy.tables.source[i] = none := by decide +kernel
  have ha : ∀ i j : Fin 8, i ≠ j → busy.tables.axle[i] = none ∨ busy.tables.axle[j] = none := by
    decide +kernel
  have hb : ∀ i : Fin 64, busy.tables.beacon[i] = none := by decide +kernel
  refine ⟨fun i j _ a b h _ => ?_, fun i j hij a b h k => ?_, fun i j _ a b h _ => ?_, ?_⟩
  · rw [hs i] at h; cases h
  · rcases ha i j hij with e | e
    · rw [e] at h; cases h
    · rw [e] at k; cases k
  · rw [hb i] at h; cases h
  · decide +kernel
theorem witness_InFlight : InFlight busy := by unfold InFlight; decide +kernel
theorem witness_TablesInRange :
    (∀ i : Fin 8, busy.tables.channel[i].InRange) ∧
    (∀ i : Fin 16, busy.tables.gain[i].lookAheadTime ≤ 500 ∧ busy.tables.gain[i].gain ≤ 4095) ∧
    busy.tables.param.InRange ∧ busy.mrh.posted = none := by
  unfold ChannelEntry.InRange ParamEntry.InRange; decide +kernel
theorem witness_QueuesBounded : QueuesBounded busy := by unfold QueuesBounded; decide +kernel
theorem witness_CountsBounded :
    busy.opu.hold ≤ 9 ∧ busy.opu.history.length ≤ 8 ∧ busy.mrh.posted = none ∧
    (∀ b : BogieId, busy.als[b].mismatch ≤ 3 ∧ busy.als[b].notices ≤ 6) := by decide +kernel
theorem witness_StatesAgree : StatesAgree busy := by unfold StatesAgree; decide +kernel

/-- The step that the invariants are stated of is taken from that state. -/
theorem witness_step : ∃ t, step busy = .next t := ⟨_, rfl⟩

theorem witness_PersistentFlagsFollow :
    mayClearFlags .bogieDetermination = false ∧ busy.flag .positionLost = true ∧
    ∃ t, exec .bogieDetermination busy = .next t := ⟨rfl, by decide +kernel, _, rfl⟩

theorem witness_PartStateEntered :
    (let s := (inPart .standby).setPending [.supervisionExpiry]
     s.sdu.part ≠ .fallback ∧ ∃ t ∈ [after .supervisionExpiry (s.setPending [])],
       t.sdu.part = .fallback) ∧
    (let s := closing (withAxle (withBogie State.reset)) none
     s.sdu.part ≠ .active ∧ ∃ t ∈ [after .bogieDetermination s], t.sdu.part = .active) := by
  decide +kernel

end Sys2Proof.Tests
end

/-! SUPPORT. The uniqueness of table entries (R3, R16, R42, R121): the checks against other entries said as
one relation between two entries, and what an applied write stores (R185). -/

namespace Sys2Proof.Proofs

open Sys2Proof.Machine

/-! ## Limits (R1) -/

theorem limitNat_eq {lo hi : Nat} (x : Nat) (h : lo ≤ hi) : limitNat lo hi x = max lo (min x hi) := by
  unfold limitNat
  split_ifs <;> omega

theorem limitInt_eq {lo hi : Int} (x : Int) (h : lo ≤ hi) : limitInt lo hi x = max lo (min x hi) := by
  unfold limitInt
  split_ifs <;> omega

/-! ## Entries that stand apart -/

/-- Entries of a vector that stand pairwise in a symmetric relation still do after one is replaced by an
entry that stands so to the others. -/
theorem pairwise_set {α : Type} {n : Nat} {R : α → α → Prop} (symm : ∀ a b, R a b → R b a)
    (v : Vector α n) (i : Fin n) (x : α) (hv : ∀ k j : Fin n, k ≠ j → R v[k] v[j])
    (hx : ∀ j : Fin n, j ≠ i → R v[j] x) (k j : Fin n) (hkj : k ≠ j) :
    R (v.set i.val x)[k] (v.set i.val x)[j] := by
  have get (m : Fin n) : (v.set i.val x)[m] = if m = i then x else v[m] := by
    simp [Vector.getElem_set, Fin.ext_iff, eq_comm]
  rw [get, get]
  by_cases hk : k = i
  · have hj : j ≠ i := fun h => hkj (hk.trans h.symm)
    simpa [hk, hj] using symm _ _ (hx j hj)
  · by_cases hj : j = i
    · simpa [hk, hj] using hx k hk
    · simpa [hk, hj] using hv k j hkj

/-- Two Source Table entries share neither node and item nor slot (R3). -/
def SourceApart (x y : Option SourceEntry) : Prop :=
  ∀ a b, x = some a → y = some b → (a.node ≠ b.node ∨ a.item ≠ b.item) ∧ a.target ≠ b.target

/-- Two axle table entries share no pulse slot (R16). -/
def AxleApart (x y : Option AxleEntry) : Prop :=
  ∀ a b, x = some a → y = some b → a.slot ≠ b.slot

/-- Two beacon table entries share no identifier (R42). -/
def BeaconApart (x y : Option BeaconEntry) : Prop :=
  ∀ a b, x = some a → y = some b → a.ident ≠ b.ident

/-- Two enabled bogies share no actuator address (R121). -/
def BogieApart (x y : BogieEntry) : Prop :=
  x.enabled = true → y.enabled = true → x.actuator ≠ y.actuator

theorem SourceApart.symm (x y : Option SourceEntry) (h : SourceApart x y) : SourceApart y x :=
  fun a b ha hb => ⟨(h b a hb ha).1.imp Ne.symm Ne.symm, (h b a hb ha).2.symm⟩

theorem AxleApart.symm (x y : Option AxleEntry) (h : AxleApart x y) : AxleApart y x :=
  fun a b ha hb => (h b a hb ha).symm

theorem BeaconApart.symm (x y : Option BeaconEntry) (h : BeaconApart x y) : BeaconApart y x :=
  fun a b ha hb => (h b a hb ha).symm

theorem BogieApart.symm (x y : BogieEntry) (h : BogieApart x y) : BogieApart y x :=
  fun hx hy => (h hy hx).symm

@[simp] theorem sourceApart_none (x : Option SourceEntry) : SourceApart x none :=
  fun _ _ _ h => nomatch h
@[simp] theorem axleApart_none (x : Option AxleEntry) : AxleApart x none := fun _ _ _ h => nomatch h
@[simp] theorem beaconApart_none (x : Option BeaconEntry) : BeaconApart x none :=
  fun _ _ _ h => nomatch h
@[simp] theorem sourceApart_from_none (y : Option SourceEntry) : SourceApart none y :=
  fun _ _ h => nomatch h
@[simp] theorem axleApart_from_none (y : Option AxleEntry) : AxleApart none y := fun _ _ h => nomatch h
@[simp] theorem beaconApart_from_none (y : Option BeaconEntry) : BeaconApart none y :=
  fun _ _ h => nomatch h

@[simp] theorem sourceApart_some (a b : SourceEntry) : SourceApart (some a) (some b) ↔
    (a.node ≠ b.node ∨ a.item ≠ b.item) ∧ a.target ≠ b.target :=
  ⟨fun h => h a b rfl rfl, fun h _ _ hx hy => by cases hx; cases hy; exact h⟩
@[simp] theorem axleApart_some (a b : AxleEntry) : AxleApart (some a) (some b) ↔ a.slot ≠ b.slot :=
  ⟨fun h => h a b rfl rfl, fun h _ _ hx hy => by cases hx; cases hy; exact h⟩
@[simp] theorem beaconApart_some (a b : BeaconEntry) :
    BeaconApart (some a) (some b) ↔ a.ident ≠ b.ident :=
  ⟨fun h => h a b rfl rfl, fun h _ _ hx hy => by cases hx; cases hy; exact h⟩

theorem bogieApart_disabled (x y : BogieEntry) (h : y.enabled = false) : BogieApart x y :=
  fun _ hy => absurd hy (by simp [h])

/-! ## The checks against other entries -/

theorem sourceFree_iff (t : Vector (Option SourceEntry) 24) (i : Fin 24) (e : SourceEntry) :
    (sourceKeyFree t i e && sourceSlotFree t i e) = true ↔
      ∀ j : Fin 24, j ≠ i → SourceApart t[j] (some e) := by
  simp only [sourceKeyFree, sourceSlotFree, Bool.and_eq_true, List.all_eq_true, List.mem_finRange,
    true_implies, Bool.or_eq_true, decide_eq_true_eq, ← forall_and, or_iff_not_imp_left, ne_eq]
  refine forall_congr' fun j => imp_congr_right fun _ => ?_
  cases t[j] <;> simp

theorem axleSlotFree_iff (t : Vector (Option AxleEntry) 8) (i : Fin 8) (e : AxleEntry) :
    axleSlotFree t i e = true ↔ ∀ j : Fin 8, j ≠ i → AxleApart t[j] (some e) := by
  simp only [axleSlotFree, List.all_eq_true, List.mem_finRange, true_implies, Bool.or_eq_true,
    decide_eq_true_eq, or_iff_not_imp_left, ne_eq]
  refine forall_congr' fun j => imp_congr_right fun _ => ?_
  cases t[j] <;> simp

theorem beaconIdentFree_iff (t : Vector (Option BeaconEntry) 64) (i : Fin 64) (e : BeaconEntry) :
    beaconIdentFree t i e = true ↔ ∀ j : Fin 64, j ≠ i → BeaconApart t[j] (some e) := by
  simp only [beaconIdentFree, List.all_eq_true, List.mem_finRange, true_implies, Bool.or_eq_true,
    decide_eq_true_eq, or_iff_not_imp_left, ne_eq]
  refine forall_congr' fun j => imp_congr_right fun _ => ?_
  cases t[j] <;> simp

theorem actuatorFree_iff (t : Vector BogieEntry 4) (i : Fin 4) (e : BogieEntry) :
    actuatorFree t i e = true ↔
      ∀ j : Fin 4, j ≠ i → t[j].enabled = true → t[j].actuator ≠ e.actuator := by
  simp only [actuatorFree, List.all_eq_true, List.mem_finRange, true_implies, Bool.or_eq_true,
    decide_eq_true_eq, or_iff_not_imp_left, ne_eq]
  refine forall_congr' fun j => imp_congr_right fun _ => ?_
  simp [imp_iff_not_or]

/-- The check that an enabled bogie's application makes again (R121). -/
theorem bogieFree_iff (t : Vector BogieEntry 4) (i : Fin 4) (e : BogieEntry) :
    (!e.enabled || actuatorFree t i e) = true ↔ ∀ j : Fin 4, j ≠ i → BogieApart t[j] e := by
  rw [Bool.or_eq_true, actuatorFree_iff]
  cases he : e.enabled <;> simp [BogieApart, he]

/-! ## Applied writes (R121, R185) -/

theorem applySource_of_apart (s : State) (i : Fin 24) (new : Option SourceEntry)
    (h : ∀ j : Fin 24, j ≠ i → SourceApart s.tables.source[j] new) :
    applySource s i new = storeSource s i new := by
  cases new with
  | none => rfl
  | some e => exact if_pos ((sourceFree_iff _ i e).mpr h)

theorem applySource_of_clash (s : State) (i : Fin 24) (new : Option SourceEntry)
    (h : ¬ ∀ j : Fin 24, j ≠ i → SourceApart s.tables.source[j] new) :
    applySource s i new = (storeSource s i none).setFlag .valueClamp := by
  cases new with
  | none => exact absurd (fun j _ => sourceApart_none _) h
  | some e => exact if_neg (mt (sourceFree_iff _ i e).mp h)

theorem applyAxle_of_apart (s : State) (i : Fin 8) (new : Option AxleEntry)
    (h : ∀ j : Fin 8, j ≠ i → AxleApart s.tables.axle[j] new) :
    applyAxle s i new = storeAxle s i new := by
  cases new with
  | none => rfl
  | some e => exact if_pos ((axleSlotFree_iff _ i e).mpr h)

theorem applyAxle_of_clash (s : State) (i : Fin 8) (new : Option AxleEntry)
    (h : ¬ ∀ j : Fin 8, j ≠ i → AxleApart s.tables.axle[j] new) :
    applyAxle s i new = (storeAxle s i none).setFlag .valueClamp := by
  cases new with
  | none => exact absurd (fun j _ => axleApart_none _) h
  | some e => exact if_neg (mt (axleSlotFree_iff _ i e).mp h)

theorem applyBeacon_of_apart (s : State) (i : Fin 64) (new : Option BeaconEntry)
    (h : ∀ j : Fin 64, j ≠ i → BeaconApart s.tables.beacon[j] new) :
    applyBeacon s i new = storeBeacon s i new := by
  cases new with
  | none => rfl
  | some e => exact if_pos ((beaconIdentFree_iff _ i e).mpr h)

theorem applyBeacon_of_clash (s : State) (i : Fin 64) (new : Option BeaconEntry)
    (h : ¬ ∀ j : Fin 64, j ≠ i → BeaconApart s.tables.beacon[j] new) :
    applyBeacon s i new = (storeBeacon s i none).setFlag .valueClamp := by
  cases new with
  | none => exact absurd (fun j _ => beaconApart_none _) h
  | some e => exact if_neg (mt (beaconIdentFree_iff _ i e).mp h)

theorem applyBogie_of_apart (s : State) (i : Fin 4) (new : BogieEntry)
    (h : ∀ j : Fin 4, j ≠ i → BogieApart s.tables.bogie[j] new) :
    applyBogie s i new = storeBogie s i new := by
  exact if_pos ((bogieFree_iff _ i new).mpr h)

theorem applyBogie_of_clash (s : State) (i : Fin 4) (new : BogieEntry)
    (h : ¬ ∀ j : Fin 4, j ≠ i → BogieApart s.tables.bogie[j] new) :
    applyBogie s i new = (storeBogie s i { new with enabled := false }).setFlag .valueClamp := by
  exact if_neg (mt (bogieFree_iff _ i new).mp h)

@[simp] theorem storeSource_tables (s : State) (i : Fin 24) (new : Option SourceEntry) :
    (storeSource s i new).tables = { s.tables with source := s.tables.source.set i.val new } := by
  simp only [storeSource]
  split <;> simp

@[simp] theorem storeAxle_tables (s : State) (i : Fin 8) (new : Option AxleEntry) :
    (storeAxle s i new).tables = { s.tables with axle := s.tables.axle.set i.val new } := rfl

@[simp] theorem storeBeacon_tables (s : State) (i : Fin 64) (new : Option BeaconEntry) :
    (storeBeacon s i new).tables = { s.tables with beacon := s.tables.beacon.set i.val new } := rfl

@[simp] theorem storeBogie_tables (s : State) (i : Fin 4) (new : BogieEntry) :
    (storeBogie s i new).tables = { s.tables with bogie := s.tables.bogie.set i.val new } := by
  simp only [storeBogie]
  split <;> simp

/-- An applied Source Table write stores an entry that stands apart from the others (R185). -/
theorem applySource_tables (s : State) (i : Fin 24) (new : Option SourceEntry) :
    ∃ after, (∀ j : Fin 24, j ≠ i → SourceApart s.tables.source[j] after) ∧
      (applySource s i new).tables = { s.tables with source := s.tables.source.set i.val after } := by
  by_cases h : ∀ j : Fin 24, j ≠ i → SourceApart s.tables.source[j] new
  · exact ⟨new, h, by simp [applySource_of_apart s i new h]⟩
  · exact ⟨none, fun _ _ => sourceApart_none _, by simp [applySource_of_clash s i new h]⟩

/-- An applied axle table write stores an entry that stands apart from the others (R185). -/
theorem applyAxle_tables (s : State) (i : Fin 8) (new : Option AxleEntry) :
    ∃ after, (∀ j : Fin 8, j ≠ i → AxleApart s.tables.axle[j] after) ∧
      (applyAxle s i new).tables = { s.tables with axle := s.tables.axle.set i.val after } := by
  by_cases h : ∀ j : Fin 8, j ≠ i → AxleApart s.tables.axle[j] new
  · exact ⟨new, h, by simp [applyAxle_of_apart s i new h]⟩
  · exact ⟨none, fun _ _ => axleApart_none _, by simp [applyAxle_of_clash s i new h]⟩

/-- An applied beacon table write stores an entry that stands apart from the others (R185). -/
theorem applyBeacon_tables (s : State) (i : Fin 64) (new : Option BeaconEntry) :
    ∃ after, (∀ j : Fin 64, j ≠ i → BeaconApart s.tables.beacon[j] after) ∧
      (applyBeacon s i new).tables = { s.tables with beacon := s.tables.beacon.set i.val after } := by
  by_cases h : ∀ j : Fin 64, j ≠ i → BeaconApart s.tables.beacon[j] new
  · exact ⟨new, h, by simp [applyBeacon_of_apart s i new h]⟩
  · exact ⟨none, fun _ _ => beaconApart_none _, by simp [applyBeacon_of_clash s i new h]⟩

/-- An applied bogie table write stores an entry that stands apart from the others (R121). -/
theorem applyBogie_tables (s : State) (i : Fin 4) (new : BogieEntry) :
    ∃ after, (∀ j : Fin 4, j ≠ i → BogieApart s.tables.bogie[j] after) ∧
      (applyBogie s i new).tables = { s.tables with bogie := s.tables.bogie.set i.val after } := by
  by_cases h : ∀ j : Fin 4, j ≠ i → BogieApart s.tables.bogie[j] new
  · exact ⟨new, h, by simp [applyBogie_of_apart s i new h]⟩
  · exact ⟨{ new with enabled := false }, fun _ _ => bogieApart_disabled _ _ rfl,
      by simp [applyBogie_of_clash s i new h]⟩

@[simp] theorem applyChannel_tables (s : State) (i : Fin 8) (new : ChannelEntry) :
    (applyChannel s i new).tables =
      { s.tables with channel := s.tables.channel.set i.val (appliedChannel s i new) } := by
  simp [applyChannel]

end Sys2Proof.Proofs

/-! SUPPORT. What is sound in a state that the Segment Cache, the trail and the tables hold (R34, R55, R59,
R60, R82, R105, R187): one relation between two states, and the operations that stand in it. -/

namespace Sys2Proof.Proofs

open Sys2Proof.Machine

/-! ## The Segment Cache's directory -/

/-- A header as R59 lets it in. -/
def HeaderSound (h : Header) : Prop :=
  1000 ≤ h.length ∧ h.length ≤ 60000 ∧ h.succ0 ≠ 65535 ∧ h.succ1 ≠ 65535 ∧
  (h.succ1 ≠ 0 → h.succ0 ≠ 0)

/-- A sub-block as R60 lets it in. -/
def BlockSound (b : SubBlock) : Prop := ∀ j : Fin 4, -8000 ≤ b.points[j] ∧ b.points[j] ≤ 8000

/-- Sub-blocks as R60 lets them in. -/
def BlocksSound (blocks : Vector (Option SubBlock) 8) : Prop :=
  ∀ (k : Fin 8) (b : SubBlock), blocks[k] = some b → BlockSound b

/-- The content of an entry as a fill leaves it. -/
def ContentSound (c : Content) : Prop := HeaderSound c.header ∧ BlocksSound c.blocks

/-- The ways of a set: sound contents, and no tag twice (R55). -/
def WaysSound (ways : Vector (Option Line) 2) : Prop :=
  (∀ (w : Fin 2) (l : Line) (c : Content), ways[w] = some l → l.content = some c → ContentSound c) ∧
  ∀ l m : Line, ways[(0 : Fin 2)] = some l → ways[(1 : Fin 2)] = some m → l.tag ≠ m.tag

/-- Every set of the directory sound. -/
def CacheSound (sets : Vector CacheSet 64) : Prop := ∀ i : Fin 64, WaysSound sets[i].ways

/-- Trail entries of lengths that R34 and R59 let in. -/
def TrailSound (trail : List TrailEntry) : Prop := ∀ e ∈ trail, 1000 ≤ e.length ∧ e.length ≤ 60000

/-- A request whose trail, if it sets the position, R34 lets in. -/
def RequestSound (r : HeldRequest) : Prop :=
  ∀ segment offset trail, r = .positionSet segment offset trail → TrailSound trail

/-- The parts of `RouteSound`, by name. -/
structure RouteFit (s : State) : Prop where
  cache : CacheSound s.sgc.sets
  trail : TrailSound s.opu.trail
  posted : ∀ p, s.mrh.posted = some p → RequestSound p.request

theorem routeSound_iff (s : State) : RouteSound s ↔ RouteFit s := by
  constructor
  · rintro ⟨hc, ht, hl, hp⟩
    refine ⟨fun i => ⟨fun w l c hw hl => ?_, ht i⟩, hl, fun p hs segment offset trail hr =>
      hp p segment offset trail hs hr⟩
    obtain ⟨h1, h2, h3, h4, h5, h6⟩ := hc i w l c hw hl
    exact ⟨⟨h1, h2, h3, h4, h5⟩, h6⟩
  · rintro ⟨hc, hl, hp⟩
    refine ⟨fun i w l c hw hl => ?_, fun i => (hc i).2, hl, fun p segment offset trail hs hr =>
      hp p hs segment offset trail hr⟩
    obtain ⟨⟨h1, h2, h3, h4, h5⟩, h6⟩ := (hc i).1 w l c hw hl
    exact ⟨h1, h2, h3, h4, h5, h6⟩

theorem CacheSound.set {s : State} (h : CacheSound s.sgc.sets) (i : Fin 64) (c : CacheSet)
    (hc : WaysSound c.ways) : CacheSound (s.setCacheSet i c).sgc.sets := by
  intro j
  simp only [State.setCacheSet, State.setSgc_sgc, Fin.getElem_fin, Vector.getElem_set]
  split
  · exact hc
  · exact h j

theorem wayHolds_iff (c : CacheSet) (w : Fin 2) (tag : Nat) :
    wayHolds c w tag = true ↔ ∃ l, c.ways[w] = some l ∧ l.tag = tag := by
  unfold wayHolds
  cases c.ways[w] <;> simp

/-- A segment is found in the way of its set that is allocated with its tag (R55). -/
theorem wayHolds_of_findWay {c : CacheSet} {tag : Nat} {w : Fin 2} (h : findWay c tag = some w) :
    wayHolds c w tag = true := by
  unfold findWay at h
  split at h
  · next h0 => cases h; exact h0
  · split at h
    · next h1 => cases h; exact h1
    · cases h

theorem wayHolds_of_findWay_none {c : CacheSet} {tag : Nat} (h : findWay c tag = none) (w : Fin 2) :
    wayHolds c w tag = false := by
  unfold findWay at h
  split at h
  · cases h
  · next h0 =>
    split at h
    · cases h
    · next h1 =>
      match w with
      | 0 => simpa using h0
      | 1 => simpa using h1

/-- What the cache gives of a segment is in its set. -/
theorem contentOf_mem {s : State} {n : Nat} {c : Content} (h : contentOf s n = some c) :
    ∃ (w : Fin 2) (l : Line), s.sgc.sets[setIndex n].ways[w] = some l ∧ l.content = some c := by
  unfold contentOf lineOf cacheSetOf at h
  split at h
  · next l hl =>
    split at hl
    · next w _ => exact ⟨w, l, hl, h⟩
    · cases hl
  · cases h

theorem CacheSound.content {s : State} (hs : CacheSound s.sgc.sets) {n : Nat} {c : Content}
    (h : contentOf s n = some c) : ContentSound c := by
  obtain ⟨w, l, hw, hl⟩ := contentOf_mem h
  exact (hs _).1 w l c hw hl

/-! ## Lookups and needs leave the directory sound -/


@[simp] theorem freeFetch_sets (s : State) (n : Nat) : (freeFetch s n).sgc.sets = s.sgc.sets := by
  simp [freeFetch]

@[simp] theorem offerFetch_sets (s : State) (n : Need) : (offerFetch s n).sgc.sets = s.sgc.sets := by
  simp only [offerFetch]
  split <;> simp

@[simp] theorem makeNeed_sets (s : State) (n : Need) : (makeNeed s n).sgc.sets = s.sgc.sets := by
  simp only [makeNeed]
  (repeat' split) <;> simp

@[simp] theorem makeNeeds_sets (s : State) (ns : List Need) :
    (makeNeeds s ns).sgc.sets = s.sgc.sets := by
  unfold makeNeeds
  induction ns generalizing s with
  | nil => rfl
  | cons n ns ih => simp [ih]

@[simp] theorem makeHeldNeeds_sets (s : State) : (makeHeldNeeds s).sgc.sets = s.sgc.sets := by
  simp [makeHeldNeeds]

theorem CacheSound.touchSegment {s : State} (h : CacheSound s.sgc.sets) (n : Nat) :
    CacheSound (touchSegment s n).sgc.sets := by
  unfold Machine.touchSegment
  split
  · exact h.set _ _ (h (setIndex n))
  · exact h

theorem CacheSound.lookupHeader {s : State} (h : CacheSound s.sgc.sets) (needs : Bool) (n : Nat) :
    CacheSound (lookupHeader needs s n).1.sgc.sets := by
  simp only [Machine.lookupHeader]
  (repeat' split) <;> simpa using h.touchSegment n

theorem CacheSound.lookupBlock {s : State} (h : CacheSound s.sgc.sets) (n : Nat) (k : Fin 8) :
    CacheSound (lookupBlock s n k).1.sgc.sets := by
  simp only [Machine.lookupBlock]
  (repeat' split) <;> simpa using h.touchSegment n

/-- A header that a lookup gives is sound. -/
theorem CacheSound.header {s : State} (hs : CacheSound s.sgc.sets) {needs : Bool} {n : Nat}
    {h : Header} (hl : (Machine.lookupHeader needs s n).2 = some h) : HeaderSound h := by
  simp only [Machine.lookupHeader] at hl
  split at hl
  · next c hc => cases hl; exact (hs.content hc).1
  · cases hl

/-! ## Fills -/

theorem clampPoint_bounds (k : Int) : -8000 ≤ clampPoint k ∧ clampPoint k ≤ 8000 := by
  rw [clampPoint, limitInt_eq _ (by decide)]
  simp only [Config.curvatureLimit]
  omega

theorem carriedBlocks_sound (gains : Word) (ks : List (Fin 8)) (points : List Int) :
    ∀ kb ∈ carriedBlocks gains ks points, BlockSound kb.2 := by
  fun_induction carriedBlocks gains ks points with
  | case1 k ks p0 p1 p2 p3 rest ih =>
    intro kb hkb
    rcases List.mem_cons.mp hkb with rfl | hkb
    · intro j
      match j with
      | 0 => exact clampPoint_bounds p0
      | 1 => exact clampPoint_bounds p1
      | 2 => exact clampPoint_bounds p2
      | 3 => exact clampPoint_bounds p3
    · exact ih kb hkb
  | case2 => simp

theorem BlocksSound.write {held : Vector (Option SubBlock) 8} (h : BlocksSound held)
    (carried : List (Fin 8 × SubBlock)) (hc : ∀ kb ∈ carried, BlockSound kb.2) :
    BlocksSound (writeBlocks held carried) := by
  unfold writeBlocks
  induction carried generalizing held with
  | nil => exact h
  | cons kb rest ih =>
    refine ih (fun k b hk => ?_) fun x hx => hc x (List.mem_cons_of_mem _ hx)
    simp only [Fin.getElem_fin, Vector.getElem_set] at hk
    split at hk
    · cases hk; exact hc kb List.mem_cons_self
    · exact h k b hk

theorem noBlocks_sound : BlocksSound noBlocks := by
  intro k b h
  simp [noBlocks] at h

/-- A frame that passes R58 and R59 carries a sound header and sound sub-blocks. -/
theorem segmentFill_sound {payload : List Word} {f : SegmentFill} (h : segmentFill payload = some f) :
    HeaderSound f.header ∧ ∀ kb ∈ f.carried, BlockSound kb.2 := by
  unfold segmentFill at h
  split at h
  · cases h
  · next g hg =>
    split at h
    · next hok =>
      cases h
      refine ⟨?_, carriedBlocks_sound _ _ _⟩
      simp only [segmentContentOk, Bool.and_eq_true, decide_eq_true_eq, Bool.not_eq_true',
        Bool.and_eq_false_iff, decide_eq_false_iff_not] at hok
      obtain ⟨-, ⟨⟨⟨⟨-, hlo⟩, hhi⟩, h0⟩, h1⟩, hs⟩ := hok
      exact ⟨hlo, hhi, h0, h1, fun hne => hs.resolve_left (fun h => h hne)⟩
    · cases h

theorem filledContent_sound {held : Option Content} {f : SegmentFill}
    (hheld : ∀ c, held = some c → ContentSound c)
    (hf : HeaderSound f.header ∧ ∀ kb ∈ f.carried, BlockSound kb.2) :
    ContentSound (filledContent held f) := by
  have fresh : ContentSound { header := f.header, blocks := writeBlocks noBlocks f.carried } :=
    ⟨hf.1, noBlocks_sound.write _ hf.2⟩
  cases held with
  | none => exact fresh
  | some c =>
    simp only [filledContent]
    split
    · exact ⟨(hheld c rfl).1, (hheld c rfl).2.write _ hf.2⟩
    · exact fresh


/-- A line written beside a way that holds another tag. -/
theorem WaysSound.write {ways : Vector (Option Line) 2} (h : WaysSound ways) (w : Fin 2) (l : Line)
    (hl : ∀ c, l.content = some c → ContentSound c)
    (ht : ∀ m, ways[otherWay w] = some m → m.tag ≠ l.tag) :
    WaysSound (ways.set w.val (some l)) := by
  refine ⟨fun v m c hm hc => ?_, fun x y hx hy => ?_⟩
  · simp only [Fin.getElem_fin, Vector.getElem_set] at hm
    split at hm
    · cases hm; exact hl c hc
    · exact h.1 v m c hm hc
  · match w with
    | 0 =>
      simp at hx hy
      subst hx
      exact (ht y hy).symm
    | 1 =>
      simp at hx hy
      subst hy
      exact ht x hx

theorem CacheSound.writeLine {s : State} (h : CacheSound s.sgc.sets) (i : Fin 64) (w : Fin 2)
    (l : Line) (hl : ∀ c, l.content = some c → ContentSound c)
    (ht : ∀ m, s.sgc.sets[i].ways[otherWay w] = some m → m.tag ≠ l.tag) :
    CacheSound (writeLine s i w l).sgc.sets :=
  h.set _ _ ((h i).write w l hl ht)

@[simp] theorem deliverItems_sets (s : State) (n : Nat) (mask : BitVec 8) :
    (deliverItems s n mask).sgc.sets = s.sgc.sets := by simp [deliverItems]

theorem CacheSound.fillPresent {s : State} (h : CacheSound s.sgc.sets) (i : Fin 64) (w : Fin 2)
    (held : Option Content) (f : SegmentFill) (hheld : ∀ c, held = some c → ContentSound c)
    (hf : HeaderSound f.header ∧ ∀ kb ∈ f.carried, BlockSound kb.2)
    (hw : wayHolds s.sgc.sets[i] w (tagOf f.segment) = true) :
    CacheSound (fillPresent s i w held f).sgc.sets := by
  obtain ⟨l, hl, htag⟩ := (wayHolds_iff _ _ _).mp hw
  have written := h.writeLine i w { tag := tagOf f.segment, content := some (filledContent held f) }
    (fun c hc => by cases hc; exact filledContent_sound hheld hf)
    (fun m hm => by
      match w with
      | 0 => exact htag ▸ ((h i).2 l m hl hm).symm
      | 1 => exact htag ▸ (h i).2 m l hm hl)
  simpa [Machine.fillPresent] using written

theorem CacheSound.fillAbsent {s : State} (h : CacheSound s.sgc.sets) (i : Fin 64) (f : SegmentFill)
    (hf : HeaderSound f.header ∧ ∀ kb ∈ f.carried, BlockSound kb.2)
    (ha : findWay s.sgc.sets[i] (tagOf f.segment) = none) :
    CacheSound (fillAbsent s i f).sgc.sets := by
  unfold Machine.fillAbsent
  split
  · next w _ =>
    have written := h.writeLine i w
      { tag := tagOf f.segment, content := some (filledContent none f) }
      (fun c hc => by cases hc; exact filledContent_sound (fun _ hn => nomatch hn) hf)
      (fun m hm ht => by
        have held := (wayHolds_iff _ _ _).mpr ⟨m, hm, ht⟩
        rw [wayHolds_of_findWay_none ha] at held
        cases held)
    simpa using written
  · simpa using h

theorem CacheSound.handleSegment {s : State} (h : CacheSound s.sgc.sets) (payload : List Word) :
    CacheSound (handleSegment s payload).sgc.sets := by
  unfold Machine.handleSegment
  split
  · simpa using h
  · next f hf =>
    have hc : CacheSound (s.setFlagIf f.clamped .valueClamp).sgc.sets := by simpa using h
    simp only [placeFill]
    split
    · next w hw =>
      exact hc.fillPresent _ w _ f (fun c => hc.content) (segmentFill_sound hf)
        (wayHolds_of_findWay hw)
    · next ha => exact hc.fillAbsent _ f (segmentFill_sound hf) ha

/-! ## Ageing, return and invalidation -/

@[simp] theorem timeoutFetch_sets (s : State) (n : Nat) :
    (timeoutFetch s n).sgc.sets = s.sgc.sets := by
  simp only [timeoutFetch]
  (repeat' split) <;> simp

theorem timeoutFetches_sets (s : State) (es : List FetchEntry) :
    (es.foldl (fun t e => timeoutFetch t e.segment) s).sgc.sets = s.sgc.sets := by
  induction es generalizing s with
  | nil => rfl
  | cons e es ih => simp [ih]

@[simp] theorem ageFetches_sets (s : State) : (ageFetches s).sgc.sets = s.sgc.sets := by
  simp [ageFetches, timeoutFetches_sets]

@[simp] theorem handleReturnedFetch_sets (s : State) (n : Option Nat) :
    (handleReturnedFetch s n).sgc.sets = s.sgc.sets := by
  cases n <;> simp [handleReturnedFetch]

/-- An invalidated way keeps its tag, if it stays allocated, and no content (R76). -/
theorem invalidateWay_some {inUse : List Nat} {i : Fin 64} {way : Option Line} {l : Line}
    (h : invalidateWay inUse i way = some l) : l.content = none ∧ ∃ m, way = some m ∧ m.tag = l.tag := by
  unfold invalidateWay at h
  split at h
  · next m =>
    split at h
    · cases h; exact ⟨rfl, m, rfl, rfl⟩
    · cases h
  · cases h

/-- Ways each of which is as it was or keeps at most its tag. -/
theorem WaysSound.of_invalidated {ways new : Vector (Option Line) 2} (h : WaysSound ways)
    (hn : ∀ (w : Fin 2) (l : Line), new[w] = some l → ways[w] = some l ∨
      l.content = none ∧ ∃ m, ways[w] = some m ∧ m.tag = l.tag) : WaysSound new := by
  have kept (w : Fin 2) (l : Line) (hl : new[w] = some l) : ∃ m, ways[w] = some m ∧ m.tag = l.tag :=
    (hn w l hl).elim (fun h => ⟨l, h, rfl⟩) (·.2)
  refine ⟨fun w l c hl hc => ?_, fun x y hx hy => ?_⟩
  · rcases hn w l hl with hw | ⟨hnone, -⟩
    · exact h.1 w l c hw hc
    · rw [hnone] at hc; cases hc
  · obtain ⟨a, ha, hax⟩ := kept 0 x hx
    obtain ⟨b, hb, hby⟩ := kept 1 y hy
    exact hax ▸ hby ▸ h.2 a b ha hb

theorem CacheSound.invalidateSegment {s : State} (h : CacheSound s.sgc.sets) (n : Nat) :
    CacheSound (invalidateSegment s n).sgc.sets := by
  simp only [Machine.invalidateSegment]
  split
  · next w _ =>
    rw [freeFetch_sets]
    refine h.set _ _ ((h (setIndex n)).of_invalidated fun v l hv => ?_)
    simp only [Fin.getElem_fin, Vector.getElem_set] at hv
    split at hv
    · next hwv =>
      have := Fin.ext hwv
      subst this
      exact .inr (invalidateWay_some hv)
    · exact .inl hv
  · simpa using h

theorem CacheSound.invalidateAll {s : State} (h : CacheSound s.sgc.sets) :
    CacheSound (invalidateAll s).sgc.sets := by
  intro i
  refine (h i).of_invalidated fun w l hl => .inr ?_
  simp [Machine.invalidateAll] at hl
  exact invalidateWay_some hl

theorem cacheSound_initial : CacheSound Sgc.initial.sets := by
  intro i
  have ways : Sgc.initial.sets[i].ways = Vector.replicate 2 none := by simp [Sgc.initial]
  rw [ways]
  exact ⟨fun w l c h => by simp at h, fun l m h => by simp at h⟩

end Sys2Proof.Proofs

/-! SUPPORT. The operations that read the route or move the car leave the cache and the trail sound. -/

namespace Sys2Proof.Proofs

open Sys2Proof.Machine

/-! ## Soundness by fields -/

/-- A state with a sound cache and a sound trail and the posted request of a sound state is sound. -/
theorem RouteFit.of_parts {s t : State} (h : RouteFit s) (hc : CacheSound t.sgc.sets)
    (hl : TrailSound t.opu.trail) (hp : t.mrh.posted = s.mrh.posted) : RouteFit t :=
  ⟨hc, hl, by rw [hp]; exact h.posted⟩

/-- A state that changes nothing that the route's soundness speaks of. -/
theorem RouteFit.of_fields {s t : State} (h : RouteFit s) (hc : t.sgc.sets = s.sgc.sets)
    (hl : t.opu.trail = s.opu.trail) (hp : t.mrh.posted = s.mrh.posted) : RouteFit t :=
  h.of_parts (hc ▸ h.cache) (hl ▸ h.trail) hp

theorem trailSound_nil : TrailSound [] := fun _ h => nomatch h

/-! ## Reads of the steering computation and walks -/

theorem CacheSound.takeArrival {s : State} (h : CacheSound s.sgc.sets) (a : Arrival) :
    CacheSound (takeArrival s a).sgc.sets := by
  cases a with
  | segment frame =>
    simp only [Machine.takeArrival]
    split
    · exact h
    · exact h.handleSegment _
  | routeAppend o count data =>
    simp only [Machine.takeArrival, manage]
    split
    · simpa [sendReply_keeps] using h
    · exact h
  | routeClear o data =>
    simp only [Machine.takeArrival, manage]
    split
    · simpa [sendReply_keeps] using h
    · exact h

theorem CacheSound.takeArrivals {s : State} (h : CacheSound s.sgc.sets) (as : List Arrival) :
    CacheSound (as.foldl Machine.takeArrival s).sgc.sets := by
  induction as generalizing s with
  | nil => exact h
  | cons a as ih => exact ih (h.takeArrival a)

theorem CacheSound.takeWithin {s : State} (h : CacheSound s.sgc.sets) :
    CacheSound (takeWithin s).sgc.sets := by
  unfold Machine.takeWithin
  split
  · exact h
  · next now later _ => exact CacheSound.takeArrivals (s := s.setWithin later) h now

theorem CacheSound.steeringHeader {s : State} (h : CacheSound s.sgc.sets) (n : Nat) :
    CacheSound (steeringHeader s n).1.sgc.sets := h.takeWithin.lookupHeader true n

theorem CacheSound.steeringBlock {s : State} (h : CacheSound s.sgc.sets) (n : Nat) (k : Fin 8) :
    CacheSound (steeringBlock s n k).1.sgc.sets := h.takeWithin.lookupBlock n k

theorem CacheSound.walkerHeader {s : State} (h : CacheSound s.sgc.sets) (w : Walker) (n : Nat) :
    CacheSound (w.header s n).1.sgc.sets :=
  match w with
  | .segmentCache => h.lookupHeader false n
  | .beacon => h.lookupHeader true n
  | .steering => h.steeringHeader n

theorem CacheSound.walkFrom {s : State} (h : CacheSound s.sgc.sets) (w : Walker) (fuel : Nat)
    (place : Place) (segment off dist : Nat) (gone : Int) :
    CacheSound (walkFrom w fuel s place segment off dist gone).state.sgc.sets := by
  induction fuel generalizing s place segment off dist gone with
  | zero => exact h
  | succ fuel ih =>
    have looked := h.walkerHeader w segment
    unfold Machine.walkFrom
    dsimp only
    (repeat' split) <;> simp only [h, looked, ih]

theorem CacheSound.walk {s : State} (h : CacheSound s.sgc.sets) (w : Walker) (start : RoutePoint)
    (dist : Nat) : CacheSound (walk w s start dist).state.sgc.sets :=
  h.walkFrom w _ _ _ _ _ _

/-! ## The steering law -/

theorem CacheSound.readPoint {s : State} (h : CacheSound s.sgc.sets) (n x : Nat) :
    CacheSound (readPoint s n x).1.sgc.sets := by
  have looked := h.steeringHeader n
  simp only [Machine.readPoint]
  split
  · exact looked
  · split
    · exact looked
    · exact looked.steeringBlock _ _

theorem CacheSound.neighbour {s : State} (h : CacheSound s.sgc.sets) (pt : RoutePoint)
    (d : PointData) : CacheSound (neighbour s pt d).1.sgc.sets := by
  have walked := h.walk .steering pt (d.length - pt.offset)
  simp only [Machine.neighbour, neighbourBeyond]
  (repeat' split) <;> simp only [h, walked, CacheSound.steeringBlock]

theorem CacheSound.curvatureReading {s : State} (h : CacheSound s.sgc.sets) (pt : RoutePoint) :
    CacheSound (curvatureReading s pt).1.sgc.sets := by
  have read := h.readPoint pt.segment pt.offset
  simp only [Machine.curvatureReading]
  (repeat' split) <;> simp only [read, CacheSound.neighbour]

theorem CacheSound.channelCurvature {s : State} (h : CacheSound s.sgc.sets) (axle : RoutePoint)
    (distance : Nat) : CacheSound (channelCurvature s axle distance).1.sgc.sets := by
  have walked := h.walk .steering axle distance
  simp only [Machine.channelCurvature]
  cases (Machine.walk .steering s axle distance).stop with
  | none => dsimp only; split <;> simp only [walked, CacheSound.curvatureReading]
  | some p => dsimp only; (repeat' split) <;> simp only [walked, CacheSound.curvatureReading]

theorem CacheSound.computeChannel {s : State} (h : CacheSound s.sgc.sets) (c : ChannelId)
    (semi : Nat) (axle : RoutePoint) : CacheSound (computeChannel s c semi axle).1.sgc.sets := by
  have read := h.readPoint axle.segment axle.offset
  simp only [Machine.computeChannel]
  split <;> simp [read, CacheSound.channelCurvature]

theorem CacheSound.determine {s : State} (h : CacheSound s.sgc.sets) (b : BogieId) :
    CacheSound (determine s b).sgc.sets := by
  simp only [Machine.determine]
  (repeat' split) <;> simp [h, CacheSound.computeChannel]

/-! ## The position update -/

theorem RouteFit.enterLost {s : State} (h : RouteFit s) : RouteFit (enterLost s) :=
  h.of_parts (by simpa using h.cache) (by simpa [Machine.enterLost] using trailSound_nil) (by simp)

/-- An uncounted update keeps the trail or, with the position, gives it up (R22, R30). -/
theorem uncounted_trail (s : State) :
    (uncounted s).opu.trail = s.opu.trail ∨ (uncounted s).opu.trail = [] := by
  simp only [uncounted]
  (repeat' split) <;> simp [Machine.enterLost]

theorem odometryStage_trail (s : State) :
    (odometryStage s).opu.trail = s.opu.trail ∨ (odometryStage s).opu.trail = [] := by
  simp only [odometryStage]
  split
  · simp
  · simpa using uncounted_trail (s.setFlagIf (axleExcluded (increments s)) .axleExcluded)

theorem RouteFit.odometryStage {s : State} (h : RouteFit s) : RouteFit (odometryStage s) := by
  refine h.of_parts (by simpa using h.cache) ?_ (by simp)
  rcases odometryStage_trail s with ht | ht <;> rw [ht]
  · exact h.trail
  · exact trailSound_nil

theorem RouteFit.speedStage {s : State} (h : RouteFit s) : RouteFit (speedStage s) :=
  h.of_fields (by simp) (by simp [Machine.speedStage]) (by simp)

theorem RouteFit.lookupHeader {s : State} (h : RouteFit s) (needs : Bool) (n : Nat) :
    RouteFit (lookupHeader needs s n).1 :=
  h.of_parts (h.cache.lookupHeader needs n) (by simpa using h.trail) (by simp)

theorem leaveSegment_trail (s : State) (n : Nat) (h : Header) : (leaveSegment s n h).opu.trail =
    pushTrail s.opu.trail { segment := n, length := h.length } := by
  simp only [leaveSegment]
  (repeat' split) <;> simp

theorem RouteFit.leaveSegment {s : State} (h : RouteFit s) (n : Nat) {hd : Header}
    (hh : HeaderSound hd) : RouteFit (leaveSegment s n hd) := by
  refine h.of_parts (by simpa using h.cache) (fun e he => ?_) (by simp)
  rw [leaveSegment_trail] at he
  rcases List.mem_cons.mp (List.mem_of_mem_take he) with rfl | he
  · exact ⟨hh.1, hh.2.1⟩
  · exact h.trail e he

theorem RouteFit.reachEnd {s : State} (h : RouteFit s) (p : Located) (hd : Header) :
    RouteFit (reachEnd s p hd) := by
  simp only [Machine.reachEnd]
  split
  · exact h.enterLost
  · exact h.of_fields (by simp) (by simp) (by simp)

theorem RouteFit.advanceFrom {s : State} (h : RouteFit s) (fuel : Nat) :
    RouteFit (advanceFrom fuel s) := by
  induction fuel generalizing s with
  | zero => exact h
  | succ fuel ih =>
    unfold Machine.advanceFrom
    split
    · exact h
    · next p _ =>
      have looked := h.lookupHeader true p.segment
      dsimp only
      split
      · exact looked
      · next hd hl =>
        split
        · exact looked
        · split
          · exact looked.reachEnd p hd
          · exact ih ((looked.leaveSegment p.segment (h.cache.header hl)).of_fields
              (by simp) (by simp) (by simp))

theorem RouteFit.advanceStage {s : State} (h : RouteFit s) : RouteFit (advanceStage s) := by
  have moved (o : Opu) (ho : o.trail = s.opu.trail) : RouteFit (s.setOpu o) :=
    h.of_fields (by simp) (by simpa using ho) (by simp)
  simp only [Machine.advanceStage]
  split
  · exact h
  · split
    · exact (moved { s.opu with position := _ } rfl).of_fields (by simp) (by simp) (by simp)
    · have advanced (n : Nat) (p : Located) := RouteFit.advanceFrom
        (moved { s.opu with position := some p } rfl) n
      simp only [offsetOverflow]
      split
      · split
        · exact (advanced _ _).enterLost
        · exact advanced _ _
      · exact advanced _ _

theorem RouteFit.placementStage {s : State} (h : RouteFit s) : RouteFit (placementStage s) :=
  h.of_fields (by simp) (by simp [Machine.placementStage]) (by simp)

end Sys2Proof.Proofs

/-! SUPPORT. The position update and the reconciliation with a beacon (R45 to R52) leave what the trail and the
position hold sound. -/

namespace Sys2Proof.Proofs

open Sys2Proof.Machine

/-! ## Beacon reconciliation -/

theorem CacheSound.derivedPosition {s : State} (h : CacheSound s.sgc.sets) (n : Fin 2)
    (e : BeaconEntry) (latched : Int) :
    CacheSound (derivedPosition s n e latched).1.sgc.sets := by
  simp only [Machine.derivedPosition]
  (repeat' split) <;> simp only [h, CacheSound.walk]

/-- The search ahead leaves the cache sound, and gives sound headers of the segments passed (R47). -/
theorem CacheSound.searchAhead {s : State} (h : CacheSound s.sgc.sets) (fuel : Nat) (place : Place)
    (segment off dist : Nat) (gone : Int) (target : Nat) :
    CacheSound (searchAhead fuel s place segment off dist gone target).state.sgc.sets ∧
    ∀ m, (searchAhead fuel s place segment off dist gone target).met = some m →
      ∀ x ∈ m.2, HeaderSound x.2 := by
  induction fuel generalizing s place segment off dist gone with
  | zero => exact ⟨h, fun m hm => nomatch hm⟩
  | succ fuel ih =>
    have looked := h.lookupHeader true segment
    unfold Machine.searchAhead
    dsimp only
    split
    · exact ⟨looked, fun m hm => nomatch hm⟩
    · next hd hl =>
      have hsound := h.header hl
      split
      · exact ⟨looked, fun m hm => nomatch hm⟩
      · split
        · exact ⟨looked, fun m hm => nomatch hm⟩
        · split
          · refine ⟨looked, fun m hm x hx => ?_⟩
            cases hm
            cases List.mem_singleton.mp hx
            exact hsound
          · obtain ⟨hc, hm⟩ := ih looked _ _ 0 _ _
            refine ⟨hc, fun m hmap x hx => ?_⟩
            obtain ⟨m', hm', rfl⟩ := Option.map_eq_some_iff.mp hmap
            rcases List.mem_cons.mp hx with rfl | hx
            · exact hsound
            · exact hm m' hm' x hx

/-- Relating a derived position leaves the cache sound, and an agreement ahead passes sound headers
(R47). -/
theorem CacheSound.relate {s : State} (h : CacheSound s.sgc.sets) (p : Located) (d : Derived) :
    CacheSound (relate s p d).1.sgc.sets ∧
    ∀ e passed, (relate s p d).2 = .ahead e passed → ∀ x ∈ passed, HeaderSound x.2 := by
  have ahead := h.searchAhead (walkFuel (mm p.offset) s.tables.param.window) .current p.segment
    (mm p.offset) s.tables.param.window (-(p.offset : Int)) d.segment
  simp only [Machine.relate]
  split
  · exact ⟨h, fun _ _ hr => nomatch hr⟩
  · split
    · exact ⟨h, fun _ _ hr => nomatch hr⟩
    · split
      · next m hm =>
        refine ⟨ahead.1, fun e passed hr => ?_⟩
        cases hr
        exact ahead.2 m hm
      · exact ⟨ahead.1, fun _ _ hr => nomatch hr⟩

theorem RouteFit.leaveSegments {s : State} (h : RouteFit s) (passed : List (Nat × Header))
    (hp : ∀ x ∈ passed, HeaderSound x.2) : RouteFit (leaveSegments s passed) := by
  unfold Machine.leaveSegments
  induction passed generalizing s with
  | nil => exact h
  | cons x rest ih =>
    exact ih (h.leaveSegment x.1 (hp x List.mem_cons_self))
      fun y hy => hp y (List.mem_cons_of_mem _ hy)

theorem RouteFit.correct {s : State} (h : RouteFit s) (p : Located) (d : Derived) (r : Relation)
    (hr : ∀ e passed, r = .ahead e passed → ∀ x ∈ passed, HeaderSound x.2) :
    RouteFit (correct s p d r) := by
  cases r with
  | notFound => exact h
  | same e => exact h.of_fields rfl rfl rfl
  | behind e => exact h.of_fields rfl rfl rfl
  | ahead e passed =>
    exact (h.leaveSegments passed (hr e passed rfl)).of_fields rfl rfl rfl

theorem RouteFit.agree {s : State} (h : RouteFit s) (p : Located) (d : Derived) (r : Relation)
    (ident : Nat) (hr : ∀ e passed, r = .ahead e passed → ∀ x ∈ passed, HeaderSound x.2) :
    RouteFit (agree s p d r ident) :=
  (h.correct p d r hr).of_fields rfl rfl rfl

theorem RouteFit.adopt {s : State} (h : RouteFit s) (d : Derived) : RouteFit (adopt s d) :=
  h.of_parts h.cache trailSound_nil rfl

theorem RouteFit.disagree {s : State} (h : RouteFit s) (d : Option Derived) (error : Option Int)
    (ident : Nat) : RouteFit (disagree s d error ident) := by
  simp only [Machine.disagree]
  (repeat' split)
  · exact h.of_parts h.cache trailSound_nil rfl
  · exact h.of_fields rfl rfl rfl
  · exact h.of_fields rfl rfl rfl

theorem RouteFit.handleLost {s : State} (h : RouteFit s) (d : Option Derived) (ident : Nat) :
    RouteFit (handleLost s d ident) := by
  cases d with
  | none => exact h.of_fields rfl rfl rfl
  | some d => exact (h.adopt d).of_fields rfl rfl rfl

theorem RouteFit.handleKnown {s : State} (h : RouteFit s) (n : Fin 2) (e : BeaconEntry)
    (b : PendingBeacon) : RouteFit (handleKnown s n e b) := by
  have derived : RouteFit (derivedPosition s n e b.latched).1 :=
    h.of_parts (h.cache.derivedPosition n e b.latched) (by simpa using h.trail) (by simp)
  simp only [Machine.handleKnown]
  split
  · exact derived.handleLost _ _
  · next p _ =>
    split
    · exact derived.disagree _ _ _
    · next d _ =>
      obtain ⟨hc, hr⟩ := derived.cache.relate p d
      have related := derived.of_parts hc (by simpa using derived.trail) (by simp)
      split
      · exact related.agree p d _ _ hr
      · exact related.disagree _ _ _

theorem RouteFit.handleReader {s : State} (h : RouteFit s) (n : Fin 2) :
    RouteFit (handleReader s n) := by
  simp only [Machine.handleReader]
  (repeat' split)
  · exact h
  · exact h.of_fields rfl rfl rfl
  · next b _ _ e _ => exact (h.handleKnown n e b).of_fields rfl rfl rfl

theorem RouteFit.driftStage {s : State} (h : RouteFit s) : RouteFit (driftStage s) := by
  simp only [Machine.driftStage]
  split
  · exact h
  · exact h.of_fields rfl rfl rfl

theorem RouteFit.beaconStage {s : State} (h : RouteFit s) : RouteFit (beaconStage s) :=
  (h.driftStage.handleReader 0).handleReader 1

/-! ## The position update whole -/

theorem RouteFit.recomputeInUse {s : State} (h : RouteFit s) : RouteFit (recomputeInUse s) := by
  refine h.of_parts ?_ (by simpa using h.trail) (by simp)
  simp only [Machine.recomputeInUse]
  split
  · exact h.cache
  · exact h.cache.walk _ _ _

theorem RouteFit.windowReport {s : State} (h : RouteFit s) : RouteFit (windowReport s) := by
  refine h.of_fields ?_ (by simp) (by simp)
  simp only [Machine.windowReport]
  split <;> simp

theorem RouteFit.positionUpdate {s : State} (h : RouteFit s) : RouteFit (positionUpdate s) := by
  have begun : RouteFit (s.setOpu { s.opu with updateDue := false }) := h.of_fields rfl rfl rfl
  exact begun.odometryStage.speedStage.advanceStage.beaconStage.placementStage.recomputeInUse.windowReport

end Sys2Proof.Proofs

/-! SUPPORT. What every command leaves sound: the tables, and what the cache and the trail hold. -/

namespace Sys2Proof.Proofs

open Sys2Proof.Machine

/-! ## One relation for the three invariants -/

/-- Every channel entry (R105), every gain schedule entry (R82) and the parameter table in range. -/
structure EntriesInRange (t : Tables) : Prop where
  channel : ∀ i : Fin 8, t.channel[i].InRange
  gain : ∀ i : Fin 16, t.gain[i].lookAheadTime ≤ 500 ∧ t.gain[i].gain ≤ 4095
  param : t.param.InRange

theorem tablesInRange_iff (s : State) : TablesInRange s ↔
    EntriesInRange s.tables ∧ ∀ p, s.mrh.posted = some p → p.request.InRange :=
  ⟨fun ⟨hc, hg, hp, hr⟩ => ⟨⟨hc, hg, hp⟩, hr⟩, fun ⟨⟨hc, hg, hp⟩, hr⟩ => ⟨hc, hg, hp, hr⟩⟩

/-- What is sound in `s` is sound in `t`: no double in a table, entries in range, cache and trail. -/
structure StaysSound (s t : State) : Prop where
  unique : TablesUnique s.tables → TablesUnique t.tables
  inRange : TablesInRange s → TablesInRange t
  route : RouteFit s → RouteFit t

theorem StaysSound.refl (s : State) : StaysSound s s := ⟨id, id, id⟩

theorem StaysSound.trans {s t u : State} (h : StaysSound s t) (k : StaysSound t u) :
    StaysSound s u := ⟨k.unique ∘ h.unique, k.inRange ∘ h.inRange, k.route ∘ h.route⟩

/-- A state with the tables and the posted request of another is as sound as its route is. -/
theorem StaysSound.of_route {s t : State} (ht : t.tables = s.tables)
    (hp : t.mrh.posted = s.mrh.posted) (hr : RouteFit s → RouteFit t) : StaysSound s t := by
  refine ⟨by rw [ht]; exact id, ?_, hr⟩
  rw [tablesInRange_iff, tablesInRange_iff, ht, hp]
  exact id

/-- A state with the tables, the posted request and the trail of another is as sound as its cache is. -/
theorem StaysSound.of_cache {s t : State} (ht : t.tables = s.tables)
    (hp : t.mrh.posted = s.mrh.posted) (hl : t.opu.trail = s.opu.trail)
    (hc : CacheSound s.sgc.sets → CacheSound t.sgc.sets) : StaysSound s t :=
  .of_route ht hp fun h => h.of_parts (hc h.cache) (hl ▸ h.trail) hp

/-- A state that changes nothing of which soundness speaks. -/
theorem StaysSound.of_fields {s t : State} (ht : t.tables = s.tables)
    (hp : t.mrh.posted = s.mrh.posted) (hl : t.opu.trail = s.opu.trail)
    (hc : t.sgc.sets = s.sgc.sets) : StaysSound s t :=
  .of_cache ht hp hl fun h => hc ▸ h

theorem StaysSound.setFlag (s : State) (f : Flag) : StaysSound s (s.setFlag f) :=
  .of_fields (by simp) (by simp) (by simp) (by simp)

theorem StaysSound.setFlagIf (s : State) (c : Bool) (f : Flag) : StaysSound s (s.setFlagIf c f) :=
  .of_fields (by simp) (by simp) (by simp) (by simp)

theorem setRpu_staysSound (s : State) (x : Rpu) : StaysSound s (s.setRpu x) :=
  .of_fields rfl rfl rfl rfl
theorem setCsu_staysSound (s : State) (x : Csu) : StaysSound s (s.setCsu x) :=
  .of_fields rfl rfl rfl rfl
theorem setSdu_staysSound (s : State) (x : Sdu) : StaysSound s (s.setSdu x) :=
  .of_fields rfl rfl rfl rfl
theorem setPending_staysSound (s : State) (x : List Instr) : StaysSound s (s.setPending x) :=
  .of_fields rfl rfl rfl rfl

/-- The posted slot emptied. -/
theorem StaysSound.of_posted_none {s t : State} (ht : t.tables = s.tables)
    (hp : t.mrh.posted = none) (hl : t.opu.trail = s.opu.trail)
    (hc : t.sgc.sets = s.sgc.sets) : StaysSound s t := by
  refine ⟨by rw [ht]; exact id, ?_, fun h => ⟨hc ▸ h.cache, hl ▸ h.trail, by simp [hp]⟩⟩
  rw [tablesInRange_iff, tablesInRange_iff, ht, hp]
  exact fun h => ⟨h.1, by simp⟩

/-! ## Requests applied -/

/-- A request as the checks of its owner let it through. -/
def Fit (r : HeldRequest) : Prop := r.InRange ∧ RequestSound r

theorem applyRequest_unique (s : State) (r : HeldRequest) (h : TablesUnique s.tables) :
    TablesUnique (applyRequest s r).tables := by
  obtain ⟨hs, ha, hb, hg⟩ := h
  cases r with
  | source i new =>
    obtain ⟨after, hafter, ht⟩ := applySource_tables s i new
    rw [applyRequest, ht]
    exact ⟨pairwise_set SourceApart.symm _ i after hs hafter, ha, hb, hg⟩
  | axle i new =>
    obtain ⟨after, hafter, ht⟩ := applyAxle_tables s i new
    rw [applyRequest, ht]
    exact ⟨hs, pairwise_set AxleApart.symm _ i after ha hafter, hb, hg⟩
  | beacon i new =>
    obtain ⟨after, hafter, ht⟩ := applyBeacon_tables s i new
    rw [applyRequest, ht]
    exact ⟨hs, ha, pairwise_set BeaconApart.symm _ i after hb hafter, hg⟩
  | bogie i new =>
    obtain ⟨after, hafter, ht⟩ := applyBogie_tables s i new
    rw [applyRequest, ht]
    exact ⟨hs, ha, hb, pairwise_set BogieApart.symm _ i after hg hafter⟩
  | channel i new => rw [applyRequest, applyChannel_tables]; exact ⟨hs, ha, hb, hg⟩
  | gain | param | positionSet | invalidateAll => exact ⟨hs, ha, hb, hg⟩
  | invalidate => simpa [applyRequest] using ⟨hs, ha, hb, hg⟩

/-- The channel entry that an applied write leaves is in range, its fallback code with it (R107). -/
theorem appliedChannel_inRange (s : State) (i : Fin 8) (new : ChannelEntry)
    (hold : s.tables.channel[i].InRange) (hnew : new.InRange) :
    (appliedChannel s i new).InRange := by
  simp only [appliedChannel]
  split
  · exact hnew
  · obtain ⟨g, t0, t1, -, -, sl, -, -, th, tl, n0, n1⟩ := hnew
    obtain ⟨-, -, -, lo, hi, -⟩ := hold
    have into := limitNat_eq new.fallback lo.le
    refine ⟨g, t0, t1, lo, hi, sl, ?_, ?_, th, tl, n0, n1⟩ <;> dsimp only <;> omega

theorem applyRequest_inRange (s : State) (r : HeldRequest) (h : EntriesInRange s.tables)
    (hr : r.InRange) : EntriesInRange (applyRequest s r).tables := by
  obtain ⟨hc, hg, hp⟩ := h
  cases r with
  | source i new =>
    obtain ⟨after, -, ht⟩ := applySource_tables s i new
    rw [applyRequest, ht]; exact ⟨hc, hg, hp⟩
  | axle i new =>
    obtain ⟨after, -, ht⟩ := applyAxle_tables s i new
    rw [applyRequest, ht]; exact ⟨hc, hg, hp⟩
  | beacon i new =>
    obtain ⟨after, -, ht⟩ := applyBeacon_tables s i new
    rw [applyRequest, ht]; exact ⟨hc, hg, hp⟩
  | bogie i new =>
    obtain ⟨after, -, ht⟩ := applyBogie_tables s i new
    rw [applyRequest, ht]; exact ⟨hc, hg, hp⟩
  | channel i new =>
    rw [applyRequest, applyChannel_tables]
    refine ⟨fun j => ?_, hg, hp⟩
    simp only [Fin.getElem_fin, Vector.getElem_set]
    split
    · exact appliedChannel_inRange s i new (hc i) hr
    · exact hc j
  | gain i e =>
    refine ⟨hc, fun j => ?_, hp⟩
    simp only [applyRequest, State.setTables_tables, Fin.getElem_fin, Vector.getElem_set]
    split
    · exact hr
    · exact hg j
  | param e => exact ⟨hc, hg, hr⟩
  | positionSet segment offset trail => exact ⟨hc, hg, hp⟩
  | invalidate segment => simpa [applyRequest] using EntriesInRange.mk hc hg hp
  | invalidateAll => exact ⟨hc, hg, hp⟩

theorem RouteFit.applyRequest {s : State} (h : RouteFit s) (r : HeldRequest) (hr : RequestSound r) :
    RouteFit (applyRequest s r) := by
  cases r with
  | source | axle | bogie | channel | beacon =>
    exact h.of_fields (by simp [Machine.applyRequest]) (by simp [Machine.applyRequest]) (by simp)
  | gain | param => exact h.of_fields rfl rfl rfl
  | positionSet segment offset trail =>
    exact h.of_parts h.cache (hr segment offset trail rfl) rfl
  | invalidate segment =>
    exact h.of_parts (h.cache.invalidateSegment segment)
      (by simpa [Machine.applyRequest] using h.trail) (by simp)
  | invalidateAll => exact h.of_parts h.cache.invalidateAll h.trail rfl

theorem applyRequest_staysSound (s : State) (r : HeldRequest) (hr : Fit r) :
    StaysSound s (applyRequest s r) where
  unique := applyRequest_unique s r
  inRange h := by
    obtain ⟨he, hp⟩ := (tablesInRange_iff s).mp h
    exact (tablesInRange_iff _).mpr ⟨applyRequest_inRange s r he hr.1, by simpa using hp⟩
  route h := h.applyRequest r hr.2

/-- A posted request is applied as it was let through (R184). -/
theorem applyPosted_staysSound (s : State) : StaysSound s (applyPosted s) := by
  have emptied : StaysSound s (s.setMrh { s.mrh with posted := none }) :=
    .of_posted_none rfl rfl rfl rfl
  unfold applyPosted
  split
  · exact .refl s
  · next p hp =>
    refine ⟨fun h => applyRequest_unique _ _ (emptied.unique h), fun h => ?_, fun h => ?_⟩
    · obtain ⟨he, hr⟩ := (tablesInRange_iff s).mp h
      exact (tablesInRange_iff _).mpr
        ⟨applyRequest_inRange _ p.request he (hr p hp), by simp⟩
    · exact (emptied.route h).applyRequest p.request (h.posted p hp)

end Sys2Proof.Proofs

/-! SUPPORT. What the owners' checks let through fits the ranges, and every request handled leaves sound what
is (R82, R105, R183 to R187). -/

namespace Sys2Proof.Proofs

open Sys2Proof.Machine

/-! ## What the owners' checks let through -/

theorem fit_of_inRange {r : HeldRequest} (h : r.InRange)
    (hr : ∀ segment offset trail, r ≠ .positionSet segment offset trail) : Fit r :=
  ⟨h, fun segment offset trail heq => absurd heq (hr segment offset trail)⟩

theorem fit_source (i : Fin 24) (e : Option SourceEntry) : Fit (.source i e) :=
  fit_of_inRange trivial nofun
theorem fit_axle (i : Fin 8) (e : Option AxleEntry) : Fit (.axle i e) := fit_of_inRange trivial nofun
theorem fit_bogie (i : Fin 4) (e : BogieEntry) : Fit (.bogie i e) := fit_of_inRange trivial nofun
theorem fit_beacon (i : Fin 64) (e : Option BeaconEntry) : Fit (.beacon i e) :=
  fit_of_inRange trivial nofun
theorem fit_channel (i : Fin 8) {e : ChannelEntry} (h : e.InRange) : Fit (.channel i e) :=
  fit_of_inRange h nofun
theorem fit_gain (i : Fin 16) {e : GainEntry} (h : e.lookAheadTime ≤ 500 ∧ e.gain ≤ 4095) :
    Fit (.gain i e) := fit_of_inRange h nofun
theorem fit_param {e : ParamEntry} (h : e.InRange) : Fit (.param e) := fit_of_inRange h nofun
theorem fit_invalidate (n : Nat) : Fit (.invalidate n) := fit_of_inRange trivial nofun
theorem fit_invalidateAll : Fit .invalidateAll := fit_of_inRange trivial nofun

/-- A verdict that accepts nothing but what fits. -/
def VerdictFit : Verdict → Prop
  | .accepted r _ => Fit r
  | .refusedState | .refusedRange => True

@[simp] theorem verdictFit_refusedState : VerdictFit .refusedState := trivial
@[simp] theorem verdictFit_refusedRange : VerdictFit .refusedRange := trivial
@[simp] theorem verdictFit_accepted (r : HeldRequest) (limited : Bool) :
    VerdictFit (.accepted r limited) ↔ Fit r := .rfl

theorem checkSource_fit (s : State) (index : Nat) (f : SourceFields) :
    VerdictFit (checkSource s index f) := by
  simp only [checkSource]
  (repeat' split) <;> simp [fit_source]

theorem checkAxle_fit (s : State) (index um slot : Nat) (odometry : Bool) :
    VerdictFit (checkAxle s index um slot odometry) := by
  simp only [checkAxle]
  (repeat' split) <;> simp [fit_axle]

theorem checkBogie_fit (s : State) (index : Nat) (e : BogieEntry) :
    VerdictFit (checkBogie s index e) := by
  simp only [checkBogie]
  (repeat' split) <;> simp [fit_bogie]

theorem checkBeacon_fit (s : State) (index : Nat) (f : BeaconFields) :
    VerdictFit (checkBeacon s index f) := by
  simp only [checkBeacon]
  (repeat' split) <;> simp [fit_beacon]

theorem limitNat_bounds {lo hi : Nat} (x : Nat) (h : lo ≤ hi) :
    lo ≤ limitNat lo hi x ∧ limitNat lo hi x ≤ hi := by
  rw [limitNat_eq x h]; omega

/-- A channel entry of 16-bit words is in range once it is checked and limited (R105, R106). -/
theorem limitChannel_inRange (e : ChannelEntry) (hg : e.gain ≤ 65535) (ht : -2048 ≤ e.trim)
    (ht' : e.trim ≤ 2047) (hlo : e.codeMin < e.codeMax) (hhi : e.codeMax ≤ 65535)
    (hl : e.trackLimit ≤ 65535) : (limitChannel e).InRange := by
  have theta := limitNat_bounds (lo := 0) (hi := 100000) e.thetaMax (by decide)
  have slew := limitNat_bounds (lo := 0) (hi := 4095) e.slew (by decide)
  have count := limitNat_bounds (lo := 1) (hi := 15) e.trackCount (by decide)
  have fallback := limitNat_bounds e.fallback hlo.le
  exact ⟨hg, ht, ht', hlo, hhi, slew.2, fallback.1, fallback.2, theta.2, hl, count.1, count.2⟩

theorem checkChannel_fit (s : State) (index : Nat) {entry : List Word} {e : ChannelEntry}
    (he : ChannelEntry.ofWords entry = some e) : VerdictFit (checkChannel s index e) := by
  have words : e.gain ≤ 65535 ∧ e.codeMax ≤ 65535 ∧ e.trackLimit ≤ 65535 := by
    unfold ChannelEntry.ofWords at he
    split at he
    · cases he; dsimp only; omega
    · cases he
  simp only [checkChannel]
  split
  · simp
  · next i _ =>
    split
    · simp
    · next ht =>
      split
      · simp
      · next hc =>
        split
        · simp only [Bool.not_eq_true', Bool.not_eq_false, Bool.and_eq_true,
            decide_eq_true_eq] at ht hc
          exact (verdictFit_accepted _ _).mpr (fit_channel i
            (limitChannel_inRange e words.1 ht.1 ht.2 hc words.2.1 words.2.2))
        · simp

theorem limitGain_inRange (e : GainEntry) :
    (limitGain e).lookAheadTime ≤ 500 ∧ (limitGain e).gain ≤ 4095 :=
  ⟨(limitNat_bounds (lo := 0) _ (Nat.zero_le _)).2, (limitNat_bounds (lo := 0) _ (Nat.zero_le _)).2⟩

theorem checkGain_fit (index : Nat) (e : GainEntry) : VerdictFit (checkGain index e) := by
  simp only [checkGain]
  split
  · simp
  · next i _ => exact (verdictFit_accepted _ _).mpr (fit_gain i (limitGain_inRange e))

/-- The parameter table is in range once it is checked and limited (R187). -/
theorem paramEntry_inRange (f : ParamFields) (h : paramRangeOk f = true) :
    (paramEntry (limitParam f)).InRange := by
  simp only [paramRangeOk, Bool.and_eq_true, decide_eq_true_eq] at h
  obtain ⟨⟨⟨⟨⟨⟨⟨h0, h1⟩, -⟩, -⟩, t1⟩, t3⟩, t12⟩, t23⟩ := h
  have period := limitNat_bounds (lo := 2) (hi := 10) f.period (by decide)
  have timeout := limitNat_bounds (lo := 10) (hi := 250) f.timeout (by decide)
  have still := limitNat_bounds (lo := 0) (hi := 1000) f.standstill (by decide)
  have window := limitNat_bounds (lo := 100) (hi := 5000) f.window (by decide)
  have drift := limitNat_bounds (lo := 50) (hi := 2000) f.drift (by decide)
  have horizon := limitNat_bounds (lo := 0) (hi := 60000) f.horizon (by decide)
  have step := limitNat_bounds (lo := 0) (hi := 4095) f.fallbackStep (by decide)
  have echo := limitNat_bounds (lo := 1) (hi := 4) f.echoTimeout (by decide)
  have offsets : ∀ n : Fin 2, (paramEntry (limitParam f)).readerOffset[n] ≤ 40000
    | 0 => h0
    | 1 => h1
  exact ⟨period.1, period.2, timeout.1, timeout.2, still.2, offsets, window.1, window.2, drift.1,
    drift.2, t1, t12, t23, t3, horizon.2, step.2, echo.1, echo.2⟩

theorem checkParam_fit (index : Nat) (f : ParamFields) : VerdictFit (checkParam index f) := by
  simp only [checkParam]
  (repeat' split)
  · simp
  · next h => exact (verdictFit_accepted _ _).mpr (fit_param (paramEntry_inRange f h))
  · simp

/-! ## Requests -/

/-- A request posted as it was let through (R183). -/
theorem post_staysSound (s : State) (r : HeldRequest) (sender : Addr) (hr : Fit r) :
    StaysSound s (s.setMrh { s.mrh with posted := some { request := r, sender := sender } }) where
  unique := id
  inRange h := by
    obtain ⟨he, -⟩ := (tablesInRange_iff s).mp h
    exact (tablesInRange_iff _).mpr ⟨he, fun p hp => by cases hp; exact hr.1⟩
  route h := ⟨h.cache, h.trail, fun p hp => by cases hp; exact hr.2⟩

/-- An accepted request is applied at once, posted, or left out as NOT_READY (R183). -/
theorem applyOrPost_cases (s : State) (o : Origin) (r : HeldRequest) (limited tableWrite : Bool) :
    (applyOrPost s o r limited tableWrite).1 = applyRequest (s.setFlagIf limited .valueClamp) r ∨
    (applyOrPost s o r limited tableWrite).1 =
      (s.setMrh { s.mrh with posted := some { request := r, sender := o.source } }).setFlagIf limited
        .valueClamp ∨
    (applyOrPost s o r limited tableWrite).1 = s := by
  by_cases hc : s.sdu.part = .config
  · exact .inl (by simp [applyOrPost, hc])
  · by_cases hp : s.mrh.posted = none
    · exact .inr (.inl (by simp [applyOrPost, hc, hp]))
    · exact .inr (.inr (by simp [applyOrPost, hc, hp]))

theorem applyOrPost_staysSound (s : State) (o : Origin) (r : HeldRequest) (limited tableWrite : Bool)
    (hr : Fit r) : StaysSound s (applyOrPost s o r limited tableWrite).1 := by
  rcases applyOrPost_cases s o r limited tableWrite with h | h | h <;> rw [h]
  · exact (StaysSound.setFlagIf s _ _).trans (applyRequest_staysSound _ r hr)
  · exact (post_staysSound s r o.source hr).trans (.setFlagIf _ _ _)
  · exact .refl s

theorem answerWrite_staysSound (s : State) (o : Origin) (v : Verdict) (hv : VerdictFit v) :
    StaysSound s (answerWrite s o v).1 := by
  cases v with
  | refusedState => exact .refl s
  | refusedRange => exact .refl s
  | accepted r limited => exact applyOrPost_staysSound s o r limited true hv

/-- A request's handling that leaves sound what is. -/
def HandlerSound (g : State → State × Reply) : Prop := ∀ s, StaysSound s (g s).1

theorem writeSource_sound (o : Origin) (index : Nat) (entry : List Word) :
    HandlerSound (writeSource o index entry) := by
  intro s
  unfold writeSource
  split
  · exact answerWrite_staysSound s o _ (checkSource_fit ..)
  · exact .refl s

theorem writeAxle_sound (o : Origin) (index : Nat) (entry : List Word) :
    HandlerSound (writeAxle o index entry) := by
  intro s
  unfold writeAxle
  split
  · exact answerWrite_staysSound s o _ (checkAxle_fit ..)
  · exact .refl s

theorem writeBogie_sound (o : Origin) (index : Nat) (entry : List Word) :
    HandlerSound (writeBogie o index entry) := by
  intro s
  unfold writeBogie
  split
  · exact answerWrite_staysSound s o _ (checkBogie_fit ..)
  · exact .refl s

theorem writeChannelEntry_sound (o : Origin) (index : Nat) (entry : List Word) :
    HandlerSound (writeChannelEntry o index entry) := by
  intro s
  unfold writeChannelEntry
  split
  · next e he => exact answerWrite_staysSound s o _ (checkChannel_fit s index he)
  · exact .refl s

theorem writeGain_sound (o : Origin) (index : Nat) (entry : List Word) :
    HandlerSound (writeGain o index entry) := by
  intro s
  unfold writeGain
  split
  · exact answerWrite_staysSound s o _ (checkGain_fit ..)
  · exact .refl s

theorem writeBeacon_sound (o : Origin) (index : Nat) (entry : List Word) :
    HandlerSound (writeBeacon o index entry) := by
  intro s
  unfold writeBeacon
  split
  · exact answerWrite_staysSound s o _ (checkBeacon_fit ..)
  · exact .refl s

theorem writeParam_sound (o : Origin) (index : Nat) (entry : List Word) :
    HandlerSound (writeParam o index entry) := by
  intro s
  unfold writeParam
  split
  · exact answerWrite_staysSound s o _ (checkParam_fit ..)
  · exact .refl s

theorem writeTable_sound (o : Origin) (table index : Nat) (entry : List Word) :
    HandlerSound (writeTable o table index entry) := by
  intro s
  unfold writeTable
  split
  · exact writeSource_sound o index entry s
  split
  · exact writeAxle_sound o index entry s
  split
  · exact writeBogie_sound o index entry s
  split
  · exact writeChannelEntry_sound o index entry s
  split
  · exact writeGain_sound o index entry s
  split
  · exact writeBeacon_sound o index entry s
  split
  · exact writeParam_sound o index entry s
  · exact .refl s

theorem answerRead_fst (s : State) (data : Option (List Word)) : (answerRead s data).1 = s := by
  cases data <;> rfl

theorem readStatus_fst (page : Nat) (data : List Word) (s : State) :
    (readStatus page data s).1 = s := by
  unfold readStatus
  split
  · exact answerRead_fst ..
  · rfl

theorem readTable_fst (table index : Nat) (data : List Word) (s : State) :
    (readTable table index data s).1 = s := by
  unfold readTable
  split
  · exact answerRead_fst ..
  · rfl

theorem readChannel_fst (part bogie : Nat) (data : List Word) (s : State) :
    (readChannel part bogie data s).1 = s := by
  unfold readChannel
  split
  · exact answerRead_fst ..
  · rfl

theorem readCache_fst (data : List Word) (s : State) : (readCache data s).1 = s := by
  unfold readCache
  split
  · exact answerRead_fst ..
  · rfl

/-- A handler that leaves the state as it stands. -/
theorem HandlerSound.of_fst {g : State → State × Reply} (h : ∀ s, (g s).1 = s) : HandlerSound g :=
  fun s => (h s).symm ▸ .refl s

theorem withoutData_sound {g : State → State × Reply} (hg : HandlerSound g) (data : List Word) :
    HandlerSound (withoutData g data) := by
  intro s
  unfold withoutData
  split
  · exact hg s
  · exact .refl s

/-! ## Part states -/

@[simp] theorem endLookupsIfLeft_sets (s : State) (was : PartState) :
    (endLookupsIfLeft was s).sgc.sets = s.sgc.sets := by
  unfold endLookupsIfLeft
  split <;> simp

theorem enterConfig_staysSound (s : State) : StaysSound s (enterConfig s) :=
  .of_fields (by simp) (by simp) (by simp) (by simp [enterConfig])

theorem enterStandby_staysSound (s : State) : StaysSound s (enterStandby s) :=
  .of_fields (by simp) (by simp) (by simp) (by simp [enterStandby])

theorem enterFallback_staysSound (s : State) : StaysSound s (enterFallback s) :=
  .of_fields (by simp) (by simp) (by simp) (by simp [enterFallback])

theorem testSupervision_staysSound (s : State) : StaysSound s (testSupervision s) := by
  unfold testSupervision
  split
  · exact enterFallback_staysSound s
  · exact .refl s

theorem stateSetConfig_sound : HandlerSound stateSetConfig := by
  intro s
  unfold stateSetConfig
  split
  case h_1 => exact .refl s
  all_goals exact enterConfig_staysSound s

theorem checkedStandby_sound : HandlerSound checkedStandby := by
  intro s
  unfold checkedStandby
  split
  · exact enterStandby_staysSound s
  · exact setSdu_staysSound s _

theorem stateSetStandby_sound : HandlerSound stateSetStandby := by
  intro s
  unfold stateSetStandby
  split
  · exact checkedStandby_sound s
  · exact setSdu_staysSound s _
  · exact enterStandby_staysSound s
  · split
    · exact checkedStandby_sound s
    · exact setSdu_staysSound s _

theorem stateSetActive_sound (data : List Word) : HandlerSound (stateSetActive data) := by
  intro s
  rcases stateSetActive_cases data s with ⟨-, h⟩ | ⟨-, -, -, h⟩ | ⟨-, -, h⟩ | ⟨-, reason, h, -⟩ <;> rw [h]
  · exact setSdu_staysSound s _
  · exact setSdu_staysSound s _
  · exact .refl s
  · exact (setSdu_staysSound s _).trans (setSdu_staysSound _ _)

theorem stateSet_sound (target : Nat) (data : List Word) : HandlerSound (stateSet target data) := by
  intro s
  unfold stateSet
  split
  · exact withoutData_sound stateSetConfig_sound data s
  split
  · exact withoutData_sound stateSetStandby_sound data s
  split
  · exact stateSetActive_sound data s
  · exact .refl s

/-! ## Position, route, acknowledgement, invalidation, reset exchange -/

theorem wordPairs_length (ws : List Word) : (wordPairs ws).length = ws.length / 2 := by
  fun_induction wordPairs ws with
  | case1 a b rest ih => simp only [List.length_cons, ih]; omega
  | case2 ws h =>
    match ws, h with
    | [], _ => simp
    | [_], _ => simp
    | a :: b :: rest, h => exact absurd rfl (h a b rest)

theorem setPosition_sound (o : Origin) (count : Nat) (data : List Word) :
    HandlerSound (setPosition o count data) := by
  intro s
  unfold setPosition
  split
  · next segment offset rest =>
    split
    · next h =>
      simp only [Bool.and_eq_true, decide_eq_true_eq, List.all_eq_true] at h
      obtain ⟨⟨⟨hlen, -⟩, hcount⟩, htrail⟩ := h
      refine applyOrPost_staysSound s o _ _ _ ⟨?_, fun _ _ trail heq => ?_⟩
      · show List.length _ ≤ 4
        rw [List.length_map, wordPairs_length]
        omega
      · cases heq
        intro e he
        obtain ⟨p, hp, rfl⟩ := List.mem_map.mp he
        have ok := htrail p hp
        simp only [trailEntryOk, Bool.and_eq_true, decide_eq_true_eq] at ok
        exact ⟨ok.1.2, ok.2⟩
    · exact .refl s
  · exact .refl s

theorem appendRoute_sound (count : Nat) (data : List Word) : HandlerSound (appendRoute count data) :=
  fun s => .of_fields (by simp) (by simp) (by simp) (by simp)

theorem clearRoute_sound : HandlerSound clearRoute :=
  fun s => .of_fields (by simp) (by simp) (by simp) (by simp)

theorem acknowledge_staysSound (s : State) (mask : BitVec 32) : StaysSound s (acknowledge s mask) := by
  unfold acknowledge
  dsimp only
  (repeat' split) <;> exact .of_fields rfl rfl rfl rfl

theorem ackFlags_sound (data : List Word) : HandlerSound (ackFlags data) := by
  intro s
  unfold ackFlags
  split
  · exact acknowledge_staysSound s _
  · exact .refl s

theorem invalidateOne_sound (o : Origin) (data : List Word) : HandlerSound (invalidateOne o data) := by
  intro s
  unfold invalidateOne
  split
  · split
    · exact applyOrPost_staysSound s o _ _ _ (fit_invalidate _)
    · exact .refl s
  · exact .refl s

theorem invalidateEvery_sound (o : Origin) (data : List Word) :
    HandlerSound (invalidateEvery o data) := by
  intro s
  unfold invalidateEvery
  split
  · exact applyOrPost_staysSound s o _ _ _ fit_invalidateAll
  · exact .refl s

theorem prepareReset_sound (o : Origin) (data : List Word) : HandlerSound (prepareReset o data) := by
  intro s
  unfold prepareReset
  split
  · exact .of_fields rfl rfl rfl rfl
  · exact .refl s

theorem confirmReset_sound (held : Option Prepare) (straps : Addr) (o : Origin) (data : List Word) :
    HandlerSound (confirmReset held straps o data) := by
  intro s
  unfold confirmReset
  (repeat' split)
  all_goals exact .of_fields rfl rfl rfl rfl

theorem HandlerSound.ite (c : Prop) [Decidable c] {g h : State → State × Reply}
    (hg : HandlerSound g) (hh : HandlerSound h) : HandlerSound (if c then g else h) := by
  split
  · exact hg
  · exact hh

theorem handlerOf_sound (u : State) (straps : Addr) (o : Origin) (function a b : Nat)
    (data : List Word) : HandlerSound (handlerOf u straps o function a b data) :=
  .ite _ (.of_fst (readStatus_fst b data)) <|
  .ite _ (writeTable_sound o a b data) <|
  .ite _ (.of_fst (readTable_fst a b data)) <|
  .ite _ (stateSet_sound b data) <|
  .ite _ (setPosition_sound o b data) <|
  .ite _ (appendRoute_sound b data) <|
  .ite _ (withoutData_sound clearRoute_sound data) <|
  .ite _ (ackFlags_sound data) <|
  .ite _ (.ite _ (invalidateEvery_sound o data) (invalidateOne_sound o data)) <|
  .ite _ (.of_fst (readCache_fst data)) <|
  .ite _ (.of_fst (readChannel_fst a b data)) <|
  .ite _ (prepareReset_sound o data) <|
  .ite _ (confirmReset_sound u.mrh.prepare straps o data) (.of_fst fun _ => rfl)

/-! ## Resets, and the path of a request -/

theorem reset_staysSound (s : State) (straps : Addr) (cause : ResetCause) {tables : Tables}
    (hu : TablesUnique s.tables → TablesUnique tables)
    (hr : EntriesInRange s.tables → EntriesInRange tables) :
    StaysSound s (resetPart s straps cause tables) where
  unique h := by simpa using hu h
  inRange h := (tablesInRange_iff _).mpr
    ⟨by simpa using hr ((tablesInRange_iff s).mp h).1, by simp [Mrh.initial]⟩
  route _ := ⟨by simpa using cacheSound_initial, by simpa [Opu.initial] using trailSound_nil,
    by simp [Mrh.initial]⟩

theorem keyReset_staysSound (s : State) (straps : Addr) : StaysSound s (keyReset s straps) :=
  reset_staysSound s straps .key id id

theorem tablesUnique_initial : TablesUnique Tables.initial := by
  refine ⟨fun i j _ a b h => ?_, fun i j _ a b h => ?_, fun i j _ a b h => ?_, fun i j _ h => ?_⟩
  · simp [Tables.initial] at h
  · simp [Tables.initial] at h
  · simp [Tables.initial] at h
  · simp [Tables.initial, BogieEntry.initial] at h

theorem entriesInRange_initial : EntriesInRange Tables.initial where
  channel i := by simp [Tables.initial, ChannelEntry.initial, ChannelEntry.InRange]
  gain i := by simp [Tables.initial]
  param := by unfold ParamEntry.InRange; decide

/-- A reset to the initial tables (R172). -/
theorem fullReset_staysSound (s : State) (straps : Addr) (cause : ResetCause) :
    StaysSound s (resetPart s straps cause Tables.initial) :=
  reset_staysSound s straps cause (fun _ => tablesUnique_initial) fun _ => entriesInRange_initial

theorem offerOther_staysSound (s : State) (f : OtherFrame) : StaysSound s (offerOther s f) :=
  .of_fields (by simp) (by simp) (by simp) (by simp)

theorem sendReply_staysSound (s : State) (o : Origin) (function : Nat) (r : Reply) :
    StaysSound s (sendReply s o function r) := by
  have offered := offerOther_staysSound s (.reply (replyFrame s o function r))
  simp only [sendReply]
  (repeat' split)
  · exact .refl s
  · exact offered
  · exact offered.trans (keyReset_staysSound _ _)
  · exact offered

theorem managementKeepAlive_staysSound (s : State) : StaysSound s (managementKeepAlive s) :=
  .of_fields (by simp) (by simp) (by simp) (by simp)

theorem manage_staysSound (s : State) (o : Origin) (function : Nat) {g : State → State × Reply}
    (hg : HandlerSound g) : StaysSound s (manage s o function g) := by
  have cancelled : StaysSound s (cancelPrepare s) :=
    .of_fields (by simp) (by simp) (by simp) (by simp)
  unfold manage
  split
  · exact cancelled.trans ((hg _).trans
      ((sendReply_staysSound _ o function _).trans (managementKeepAlive_staysSound _)))
  · exact .refl s

theorem handleManage_staysSound (s : State) (straps : Addr) (o : Origin) (payload : List Word) :
    StaysSound s (handleManage s straps o payload) := by
  unfold handleManage
  split
  · split
    · exact .refl s
    · exact .setFlag s _
  · exact manage_staysSound s o _ (handlerOf_sound s straps o _ _ _ _)

end Sys2Proof.Proofs

/-! SUPPORT. The cycle and the frames handled, and then every command: no step brings a double into a table or
leaves a range. -/

namespace Sys2Proof.Proofs

open Sys2Proof.Machine

/-! ## The cycle -/

theorem takeDeferred_staysSound (s : State) : StaysSound s (takeDeferred s) :=
  .of_fields (by simp) (by simp) (by simp) (by simp)

theorem closeCycle_staysSound (s : State) : StaysSound s (closeCycle s) := by
  have idle : StaysSound s (becomeIdle s) := .of_fields (by simp) (by simp) (by simp) (by simp)
  exact idle.trans ((applyPosted_staysSound _).trans
    ((testSupervision_staysSound _).trans (takeDeferred_staysSound _)))

theorem closeIfDue_staysSound (s : State) : StaysSound s (closeIfDue s) := by
  unfold closeIfDue
  split
  · exact closeCycle_staysSound s
  · exact .refl s

theorem endWork_staysSound (s : State) : StaysSound s (endWork s) := by
  have made : StaysSound s ((makeHeldNeeds (s.setSlu { s.slu with next := none })).setCsu
      { (makeHeldNeeds (s.setSlu { s.slu with next := none })).csu with endReport := true }) :=
    .of_fields (by simp) (by simp) (by simp) (by simp)
  exact made.trans (closeIfDue_staysSound _)

theorem determineNext_staysSound (s : State) (b : BogieId) : StaysSound s (determineNext s b) := by
  have handed : StaysSound s (handOn (determine s b) b) :=
    .of_cache (by simp) (by simp) (by simp) (by simpa using fun h => h.determine b)
  unfold determineNext
  dsimp only
  split
  · exact handed.trans (.of_fields rfl rfl rfl rfl)
  · exact handed.trans (endWork_staysSound _)

theorem shapeNext_staysSound (s : State) : StaysSound s (shapeNext s) := by
  unfold shapeNext
  split
  · exact .refl s
  · next r rest _ =>
    have offered : StaysSound s
        (takeOffer (shapeResult (s.setOsu { s.osu with results := rest }) r).1 r.bogie
          (shapeResult (s.setOsu { s.osu with results := rest }) r).2) :=
      .of_fields (by simp) (by simp) (by simp) (by simp)
    exact offered.trans ((setCsu_staysSound _ _).trans (closeIfDue_staysSound _))

theorem takeMark_staysSound (s : State) : StaysSound s (takeMark s) :=
  .of_fields (by simp) (by simp) (by simp [takeMark]) (by simp [takeMark])

theorem handleCycle_staysSound (s : State) (payload : List Word) :
    StaysSound s (handleCycle s payload) := by
  unfold handleCycle
  split
  · next number =>
    have heard : StaysSound s (hearCycle s number.toNat) :=
      .of_fields (by simp) (by simp) (by simp) (by simp)
    dsimp only
    split
    · exact heard.trans (.setFlag _ _)
    · exact heard.trans (takeMark_staysSound _)
  · exact .setFlag s _

theorem expireSubstitute_staysSound (s : State) : StaysSound s (expireSubstitute s) := by
  have reloaded : StaysSound s (reloadSubstitute s (2 * s.tables.param.period)) :=
    .of_fields rfl rfl rfl rfl
  unfold expireSubstitute
  dsimp only
  split
  · exact reloaded.trans (.setFlag _ _)
  · exact reloaded.trans ((takeMark_staysSound _).trans
      ((StaysSound.setFlag _ .cycleSubst).trans (.of_fields rfl rfl rfl rfl)))

theorem tickSubstitute_staysSound (s : State) : StaysSound s (tickSubstitute s) := by
  unfold tickSubstitute
  split
  · exact .refl s
  · split
    · exact expireSubstitute_staysSound s
    · exact .of_fields rfl rfl rfl rfl

theorem tickSupervision_staysSound (s : State) : StaysSound s (tickSupervision s) := by
  unfold tickSupervision
  split
  · exact (setCsu_staysSound s _).trans (testSupervision_staysSound _)
  · exact .refl s

theorem tick_staysSound (s : State) : StaysSound s (tick s) :=
  (setRpu_staysSound s _).trans
    ((tickSubstitute_staysSound _).trans (tickSupervision_staysSound _))

/-! ## Delivered frames -/

theorem handleSegment_staysSound (s : State) (payload : List Word) :
    StaysSound s (handleSegment s payload) :=
  .of_cache (by simp) (by simp) (by simp) fun h => h.handleSegment payload

theorem handleSample_staysSound (s : State) (source : Addr) (payload : List Word) :
    StaysSound s (handleSample s source payload) :=
  .of_fields (by simp) (by simp) (by simp) (by simp)

theorem handleAnswer_staysSound (s : State) (source : Addr) (tag : Tag) (e : Echo) :
    StaysSound s (handleAnswer s source tag e) :=
  .of_fields (by simp) (by simp) (by simp) (by simp)

theorem handleNotice_staysSound (s : State) (source : Addr) (e : Echo) :
    StaysSound s (handleNotice s source e) :=
  .of_fields (by simp) (by simp) (by simp) (by simp)

theorem handleEcho_staysSound (s : State) (source : Addr) (tag : Tag) (payload : List Word) :
    StaysSound s (handleEcho s source tag payload) := by
  unfold handleEcho
  split
  · exact handleAnswer_staysSound ..
  · exact handleNotice_staysSound ..
  · exact .setFlag s _

theorem handleReturnedCommand_staysSound (s : State) (d : Addr) :
    StaysSound s (handleReturnedCommand s d) :=
  .of_fields (by simp) (by simp) (by simp) (by simp)

theorem handleReturnedFetch_staysSound (s : State) (n : Option Nat) :
    StaysSound s (handleReturnedFetch s n) :=
  .of_fields (by simp) (by simp) (by simp) (by simp)

theorem handleReturned_staysSound (s : State) (f : ValidFrame) : StaysSound s (handleReturned s f) := by
  unfold handleReturned
  split
  · exact handleReturnedCommand_staysSound ..
  · exact handleReturnedFetch_staysSound ..
  all_goals exact .setFlag s _

theorem deliver_staysSound (s : State) (straps : Addr) (f : ValidFrame) (broadcast : Bool) :
    StaysSound s (deliver s straps f broadcast) := by
  have refused : StaysSound s (if broadcast then s else s.setFlag .rxReject) := by
    split
    · exact .refl s
    · exact .setFlag s _
  unfold deliver
  cases f.header.cls with
  | sample => exact handleSample_staysSound ..
  | echo => exact handleEcho_staysSound ..
  | segment => exact handleSegment_staysSound ..
  | cycle => exact handleCycle_staysSound ..
  | manage => exact handleManage_staysSound ..
  | command | fetch | reply => exact refused

theorem forwardFrame_staysSound (s : State) (bytes : List Byte) :
    StaysSound s (forwardFrame s bytes) := by
  rcases forwardFrame_cases s bytes with ⟨-, h⟩ | ⟨-, h⟩ <;> rw [h]
  · exact .of_fields rfl rfl rfl rfl
  · exact .setFlag s _

theorem dispose_staysSound (s : State) (straps : Addr) (f : ValidFrame) :
    StaysSound s (dispose s straps f) := by
  unfold dispose
  split; · exact forwardFrame_staysSound s _
  split; · exact handleReturned_staysSound s f
  split; · exact deliver_staysSound s straps f false
  split
  · exact (forwardFrame_staysSound s _).trans (deliver_staysSound _ straps f true)
  · exact forwardFrame_staysSound s _

theorem receiveBurst_staysSound (s : State) (burst : List Byte) (straps : Addr) :
    StaysSound s (receiveBurst s burst straps) := by
  have emptied (a b : Assembler) : StaysSound s ((s.setAssembler a).setAssembler b) :=
    .of_fields rfl rfl rfl rfl
  unfold receiveBurst closeFrame
  dsimp only
  split
  · exact (emptied _ _).trans (dispose_staysSound _ _ _)
  · exact (emptied _ _).trans (.setFlag _ _)

/-! ## The OUT port -/

theorem issueFrame_staysSound (s : State) (f : CommandFrame) : StaysSound s (issueFrame s f) :=
  .of_fields (by simp) (by simp) (by simp) (by simp)

theorem startSending_staysSound (s : State) (x : Selection) : StaysSound s (startSending s x) :=
  match x with
  | .forwarded .. => setRpu_staysSound s _
  | .command f _ => (setRpu_staysSound s _).trans (issueFrame_staysSound _ f)
  | .other .. => setRpu_staysSound s _

theorem selectNext_staysSound (s : State) : StaysSound s (selectNext s) := by
  unfold selectNext
  split
  · exact startSending_staysSound s _
  · exact .refl s

theorem endSending_staysSound (s : State) : StaysSound s (endSending s) := .of_fields rfl rfl rfl rfl

theorem replyLeft_staysSound (s : State) (straps : Addr) : StaysSound s (replyLeft s straps) := by
  unfold replyLeft
  split
  · split
    · exact (endSending_staysSound s).trans (keyReset_staysSound _ straps)
    · exact endSending_staysSound s
  · exact .refl s

theorem transmissionEnded_staysSound (s : State) : StaysSound s (transmissionEnded s) := by
  unfold transmissionEnded
  split
  · exact .refl s
  · exact .refl s
  · exact endSending_staysSound s

/-! ## Every command -/

/-- An event that is left out by a test. -/
theorem StaysSound.ite_self {s t : State} (c : Prop) [Decidable c] (h : StaysSound s t) :
    StaysSound s (if c then t else s) := by
  split
  · exact h
  · exact .refl s

theorem StaysSound.ite_self_left {s t : State} (c : Prop) [Decidable c] (h : StaysSound s t) :
    StaysSound s (if c then s else t) := by
  split
  · exact .refl s
  · exact h

/-- Every command leaves sound what is. -/
theorem exec_staysSound (c : Instr) (s t : State) (h : exec c s = .next t) : StaysSound s t := by
  cases c <;> cases h
  case powerOnReset straps => exact fullReset_staysSound s straps .powerOn
  case resetLine straps => exact fullReset_staysSound s straps .resetLine
  case frameClose burst => exact .ite_self_left _ (receiveBurst_staysSound s _ _)
  case sample d => exact .ite_self_left _ (handleSample_staysSound s _ _)
  case answer source tag e => exact .ite_self_left _ (handleAnswer_staysSound s _ _ _)
  case notice source tag e => exact .ite_self_left _ (handleNotice_staysSound s _ _)
  case segment d => exact .ite_self_left _ (handleSegment_staysSound s _)
  case cycle d => exact .ite_self_left _ (handleCycle_staysSound s _)
  case returnedCommand d tag => exact .ite_self_left _ (handleReturnedCommand_staysSound s _)
  case returnedFetch n => exact .ite_self_left _ (handleReturnedFetch_staysSound s _)
  case returnedReply => exact .ite_self_left _ (.setFlag s _)
  case substituteTimerExpiry => exact .ite_self _ (expireSubstitute_staysSound s)
  case sampleExpired n => exact .of_fields (by simp) (by simp) (by simp) (by simp)
  case fetchTimeout n => exact .of_fields (by simp) (by simp) (by simp) (by simp)
  case echoTimeout b => exact .of_fields (by simp) (by simp) (by simp) (by simp)
  case positionUpdate =>
    exact .ite_self _ (.of_route (by simp) (by simp) fun h => h.positionUpdate)
  case bogieDetermination =>
    split
    · exact determineNext_staysSound s _
    · exact .refl s
  case shaping => exact shapeNext_staysSound s
  case supervisionExpiry =>
    exact .ite_self _ ((setCsu_staysSound s _).trans (enterFallback_staysSound _))
  case outSelection => exact selectNext_staysSound s
  case replyLeftOut straps => exact replyLeft_staysSound s straps
  case statusRead o page data => exact manage_staysSound s o 1 (.of_fst (readStatus_fst _ data))
  case tableRead o n i data => exact manage_staysSound s o 3 (.of_fst (readTable_fst _ _ data))
  case tableWriteSource o i entry => exact manage_staysSound s o 2 (writeSource_sound o _ entry)
  case tableWriteAxle o i entry => exact manage_staysSound s o 2 (writeAxle_sound o _ entry)
  case tableWriteBogie o i entry => exact manage_staysSound s o 2 (writeBogie_sound o _ entry)
  case tableWriteChannel o i entry => exact manage_staysSound s o 2 (writeChannelEntry_sound o _ entry)
  case tableWriteGainSchedule o i entry => exact manage_staysSound s o 2 (writeGain_sound o _ entry)
  case tableWriteBeacon o i entry => exact manage_staysSound s o 2 (writeBeacon_sound o _ entry)
  case tableWriteParameter o i entry => exact manage_staysSound s o 2 (writeParam_sound o _ entry)
  case stateSetConfig o data =>
    exact manage_staysSound s o 4 (withoutData_sound stateSetConfig_sound data)
  case stateSetStandby o data =>
    exact manage_staysSound s o 4 (withoutData_sound stateSetStandby_sound data)
  case stateSetActive o data => exact manage_staysSound s o 4 (stateSetActive_sound data)
  case positionSet o n data => exact manage_staysSound s o 5 (setPosition_sound o _ data)
  case routeAppend o n data => exact manage_staysSound s o 6 (appendRoute_sound _ data)
  case routeClear o data => exact manage_staysSound s o 7 (withoutData_sound clearRoute_sound data)
  case diagAck o data => exact manage_staysSound s o 8 (ackFlags_sound data)
  case cacheInvalidate o data => exact manage_staysSound s o 9 (invalidateOne_sound o data)
  case cacheInvalidateAll o data => exact manage_staysSound s o 9 (invalidateEvery_sound o data)
  case cacheRead o data => exact manage_staysSound s o 10 (.of_fst (readCache_fst data))
  case channelRead o part b data => exact manage_staysSound s o 11 (.of_fst (readChannel_fst _ _ data))
  case resetPrepare o data => exact manage_staysSound s o 12 (prepareReset_sound o data)
  case resetConfirm o data => exact manage_staysSound s o 13 (confirmReset_sound _ _ o _)
  case refusedFunction o f data =>
    exact .ite_self _ (manage_staysSound s o _ (.of_fst fun _ => rfl))
  case lineIdle => exact .of_fields rfl rfl rfl rfl
  case frameTransmissionEnd => exact transmissionEnded_staysSound s

theorem step_staysSound (s t : State) (h : step s = .next t) : StaysSound s t := by
  unfold step at h
  split at h
  · cases h; exact tick_staysSound s
  · next c rest _ =>
    exact (setPending_staysSound s rest).trans (exec_staysSound c _ t h)

/-- Settles O55: what every command leaves sound, a step does. -/
theorem tablesStaySound : Obligations.TablesStaySound :=
  ⟨fun s t hs h => (step_staysSound s t h).unique hs,
   fun s t hs h => (step_staysSound s t h).inRange hs,
   fun s t hs h => (routeSound_iff t).mpr ((step_staysSound s t h).route ((routeSound_iff s).mp hs))⟩

end Sys2Proof.Proofs

/-! SUPPORT. The Sample Intake: the length of a SAMPLE frame, its items one by one, and the expiries as commands
of their own (R6 to R12, R44, R74, R130). -/

namespace Sys2Proof.Proofs

open Sys2Proof.Machine

/-! ## SAMPLE frames -/

theorem exec_sample (d : Delivery) (s : State) (h : forwardOnly s = false) :
    exec (.sample d) s = .next (handleSample s d.source d.payload) := by
  simp [exec, execSample, h]

theorem sampleLengthOk_iff (payload : List Word) : sampleLengthOk payload = true ↔
    2 ≤ payload.length ∧ payload.length ≤ 24 ∧ payload.length % 2 = 0 := by
  simp only [sampleLengthOk, Bool.and_eq_true, decide_eq_true_eq, beq_iff_eq, and_assoc]
  exact .rfl

theorem handleSample_of_length {s : State} {source : Addr} {payload : List Word}
    (h : 2 ≤ payload.length ∧ payload.length ≤ 24 ∧ payload.length % 2 = 0) :
    handleSample s source payload = (itemsOf payload).foldl (handleItem source.toNat) s :=
  if_pos ((sampleLengthOk_iff payload).mpr h)

theorem handleSample_of_not_length {s : State} {source : Addr} {payload : List Word}
    (h : ¬ (2 ≤ payload.length ∧ payload.length ≤ 24 ∧ payload.length % 2 = 0)) :
    handleSample s source payload = s.setFlag .rxReject :=
  if_neg (mt (sampleLengthOk_iff payload).mp h)

/-- Settles O15: the length check of R6 in its two outcomes; the handling does not see the tag. -/
theorem sampleLength : Obligations.SampleLength := by
  intro d tag s hs
  refine ⟨fun hbad => ?_, fun h2 h24 heven => ?_, ?_⟩
  · rw [exec_sample d s hs, handleSample_of_not_length (by omega)]
  · rw [exec_sample d s hs, handleSample_of_length ⟨h2, h24, heven⟩]
  · rw [exec_sample _ s hs, exec_sample d s hs]

/-! ## Items -/

theorem field_high (w : Word) : field w 12 4 = w.toNat / 4096 := by
  have := w.isLt
  simp only [field]
  omega

theorem field_low (w : Word) : field w 0 12 = w.toNat % 4096 := by simp [field]

/-- A frame of one item is that item (R7). -/
theorem exec_sample_item (d : Delivery) (head value : Word) (s : State) (h : forwardOnly s = false)
    (hd : d.payload = [head, value]) : exec (.sample d) s = .next (handleItem d.source.toNat s
      { item := head.toNat / 4096, info := head.toNat % 4096, value := value }) := by
  rw [exec_sample d s h, handleSample_of_length (by simp [hd]), hd, ← field_high, ← field_low]
  rfl

section Items

variable {node : Nat} {s : State} {i : SampleItem}

theorem handleItem_unknown (h : sourceFor s.tables.source node i.item = none) :
    handleItem node s i = s := by
  simp [handleItem, h]

theorem handleItem_pulse {e : SourceEntry} {n : Fin 8}
    (h : sourceFor s.tables.source node i.item = some e) (ht : e.target = .pulse n) :
    handleItem node s i = if i.info = 0 then
      s.setPulse n (s.sit.pulse[n].store (i.value.toNat : Int) s.csu.cycle) else s := by
  simp [handleItem, h, ht]

theorem handleItem_gap {e : SourceEntry} {n : Fin 8}
    (h : sourceFor s.tables.source node i.item = some e) (ht : e.target = .gap n) :
    handleItem node s i = if i.info = 0 then s.setGap n (s.sit.gap[n].store
      (limitInt (-Config.gapLimit) Config.gapLimit i.value.toInt) s.csu.cycle) else s := by
  simp [handleItem, h, ht]

theorem handleItem_beacon {e : SourceEntry} {n : Fin 2}
    (h : sourceFor s.tables.source node i.item = some e) (ht : e.target = .beacon n) :
    handleItem node s i = if i.info = 0 then s else handBeacon s n i.info (i.value.toNat : Int) := by
  simp [handleItem, h, ht]

end Items

theorem handBeacon_clear {s : State} {n : Fin 2} (h : s.bru.reader[n] = none) (ident : Nat)
    (latched : Int) : handBeacon s n ident latched = s.setBru { s.bru with
      reader := s.bru.reader.set n.val (some { ident := ident, latched := latched }) } := by
  unfold handBeacon
  rw [h]

theorem handBeacon_pending {s : State} {n : Fin 2} (h : s.bru.reader[n] ≠ none) (ident : Nat)
    (latched : Int) : handBeacon s n ident latched = s.setFlag .beaconOverrun := by
  unfold handBeacon
  split
  · next hn => exact absurd hn h
  · rfl

theorem limitInt_gap (x : Int) :
    limitInt (-Config.gapLimit) Config.gapLimit x = max (-200) (min 200 x) := by
  rw [limitInt_eq x (by decide), min_comm]
  rfl

/-- Settles O16: one item by the kind of the slot that its entry names. -/
theorem sampleItems : Obligations.SampleItems := by
  intro d head value s hs hd
  rw [exec_sample_item d head value s hs hd]
  refine ⟨fun hnone => ?_, fun e n he ht => ?_, fun e n he ht => ?_, fun e n he ht => ?_⟩
  · rw [handleItem_unknown hnone]
  · rw [handleItem_pulse he ht]
    rfl
  · rw [handleItem_gap he ht, limitInt_gap]
    rfl
  · rw [handleItem_beacon he ht]
    refine ⟨fun h0 => by rw [if_pos h0], fun h0 hn => ?_, fun h0 hn => ?_⟩
    · rw [if_neg h0, handBeacon_clear hn]
    · rw [if_neg h0, handBeacon_pending hn]

/-! ## Expiries as commands of their own -/

theorem tooOld_iff (x : Slot) (maxAge : Option Nat) (cycle : Nat) : x.tooOld maxAge cycle = true ↔
    x.expired = false ∧ x.state ≠ .fresh ∧
      ∃ r limit, x.latest = some r ∧ maxAge = some limit ∧ limit < recordAge cycle r := by
  unfold Slot.tooOld
  cases x.latest <;> cases maxAge <;> simp [and_assoc]

theorem expire_eq {x : Slot} {r : Stamped} (h : x.latest = some r) :
    x.expire = { latest := some r, expired := true, view := some r, state := .stale } := by
  simp [Slot.expire, h]

theorem timeoutFetch_due {s : State} {n : Nat} {e : FetchEntry} (h : outstandingFor s n = some e)
    (hage : 8 ≤ e.age) : timeoutFetch s n = (freeFetch s n).setFlag .fetchTimeout := by
  simp [timeoutFetch, h, Config.fetchTimeout, hage]

theorem timeoutFetch_not_due {s : State} {n : Nat}
    (h : ∀ e, outstandingFor s n = some e → e.age < 8) : timeoutFetch s n = s := by
  unfold timeoutFetch
  split
  · next e he => exact if_neg (Nat.not_le.mpr (h e he))
  · rfl

theorem timeoutLink_due {s : State} {b : BogieId} {o : Outstanding} {limit : Nat}
    (ho : s.als[b].outstanding = some o) (hl : s.csu.echoLimit = some limit) (hage : limit ≤ o.age) :
    timeoutLink s b = (s.setLink b { s.als[b] with outstanding := none }).setFlag .echoTimeout := by
  unfold timeoutLink
  rw [ho, hl]
  exact if_pos hage

theorem timeoutLink_not_due {s : State} {b : BogieId} (h : ∀ o limit,
    s.als[b].outstanding = some o → s.csu.echoLimit = some limit → o.age < limit) :
    timeoutLink s b = s := by
  unfold timeoutLink
  split
  · next o limit ho hl => exact if_neg (Nat.not_le.mpr (h o limit ho hl))
  · rfl

/-- Settles O17: each of the three commands acts on the one element it names, and only when it is due. -/
theorem singleExpiries : Obligations.SingleExpiries := by
  refine ⟨fun n s => ⟨?_, ?_, ?_, ?_⟩, fun s => ⟨?_, ?_, ?_, ?_⟩⟩
  · intro r limit hr hl hexp hst hage
    have due := (tooOld_iff _ _ s.csu.cycle).mpr ⟨hexp, hst, r, limit, hr, hl, hage⟩
    simp only [exec, execSampleExpired, expireSlot, due, if_true, expire_eq hr]
    rfl
  · intro r limit hr hl hexp hst hage
    have due := (tooOld_iff _ _ s.csu.cycle).mpr ⟨hexp, hst, r, limit, hr, hl, hage⟩
    simp only [exec, execSampleExpired, expireSlot, due, if_true, expire_eq hr]
    rfl
  · intro h
    exact congrArg _ (if_neg (mt (tooOld_iff _ _ _).mp h))
  · intro h
    exact congrArg _ (if_neg (mt (tooOld_iff _ _ _).mp h))
  · intro segment e he hage
    exact congrArg _ (timeoutFetch_due he hage)
  · intro segment h
    exact congrArg _ (timeoutFetch_not_due h)
  · intro b o limit ho hl hage
    exact congrArg _ (timeoutLink_due ho hl hage)
  · intro b h
    exact congrArg _ (timeoutLink_not_due h)

end Sys2Proof.Proofs

/-! SUPPORT. A taken mark (R11, R12, R74, R130): what it leaves in every slot, every outstanding fetch entry and
every link. -/

namespace Sys2Proof.Proofs

open Sys2Proof.Machine

/-! ## Slots (R11, R12) -/

@[simp] theorem evaluate_latest (x : Slot) (maxAge : Option Nat) (cycle : Nat) :
    (x.evaluate maxAge cycle).latest = x.latest := by
  unfold Slot.evaluate
  (repeat' split) <;> simp_all [Slot.expire]

theorem evaluate_empty {x : Slot} (h : x.latest = none) (maxAge : Option Nat) (cycle : Nat) :
    (x.evaluate maxAge cycle).view = none ∧ (x.evaluate maxAge cycle).state = .empty := by
  simp [Slot.evaluate, h]

/-- A slot with a record that is not expired and not older than its max age is evaluated FRESH. -/
theorem evaluate_fresh {x : Slot} {r : Stamped} {cycle limit : Nat} (h : x.latest = some r)
    (he : x.expired = false) (ha : recordAge cycle r ≤ limit) :
    x.evaluate (some limit) cycle = { x with view := some r, state := .fresh } := by
  simp [Slot.evaluate, h, he, ha]

/-- Any other slot with a record is evaluated STALE, and its record is expired. -/
theorem evaluate_stale {x : Slot} {r : Stamped} {maxAge : Option Nat} {cycle : Nat}
    (h : x.latest = some r)
    (hn : ¬ (x.expired = false ∧ ∃ limit, maxAge = some limit ∧ recordAge cycle r ≤ limit)) :
    x.evaluate maxAge cycle = { x with view := some r, state := .stale, expired := true } := by
  cases maxAge with
  | none => simp [Slot.evaluate, h, Slot.expire]
  | some limit =>
    cases he : x.expired with
    | true => simp [Slot.evaluate, h, he]
    | false =>
      have old : ¬ recordAge cycle r ≤ limit := fun ha => hn ⟨he, limit, rfl, ha⟩
      simp [Slot.evaluate, h, he, old, Slot.expire]

/-- The evaluation of a slot at a mark (R11). -/
theorem evaluate_spec (x : Slot) (maxAge : Option Nat) (cycle : Nat) :
    (x.evaluate maxAge cycle).latest = x.latest ∧
    (x.latest = none → (x.evaluate maxAge cycle).view = none ∧
      (x.evaluate maxAge cycle).state = .empty) ∧
    ∀ r, x.latest = some r → (x.evaluate maxAge cycle).view = some r ∧
      ((x.evaluate maxAge cycle).state = .fresh ↔
        x.expired = false ∧ ∃ limit, maxAge = some limit ∧ recordAge cycle r ≤ limit) ∧
      ((x.evaluate maxAge cycle).state ≠ .fresh → (x.evaluate maxAge cycle).state = .stale ∧
        (x.evaluate maxAge cycle).expired = true) ∧
      ((x.evaluate maxAge cycle).state = .fresh → (x.evaluate maxAge cycle).expired = false) := by
  refine ⟨evaluate_latest x maxAge cycle, fun h => evaluate_empty h maxAge cycle, fun r h => ?_⟩
  by_cases hf : x.expired = false ∧ ∃ limit, maxAge = some limit ∧ recordAge cycle r ≤ limit
  · obtain ⟨he, limit, rfl, ha⟩ := hf
    rw [evaluate_fresh h he ha]
    simp [he, ha]
  · rw [evaluate_stale h hf]
    simp [hf]

theorem evaluateSlots_pulse (s : State) (n : Fin 8) : (evaluateSlots s).sit.pulse[n] =
    s.sit.pulse[n].evaluate (maxAgeOf s.tables.source (.pulse n)) s.csu.cycle := by
  simp [evaluateSlots]

theorem evaluateSlots_gap (s : State) (n : Fin 8) : (evaluateSlots s).sit.gap[n] =
    s.sit.gap[n].evaluate (maxAgeOf s.tables.source (.gap n)) s.csu.cycle := by
  simp [evaluateSlots]

@[simp] theorem evaluateSlots_previous (s : State) :
    (evaluateSlots s).sit.previous = s.sit.previous := by
  simp [evaluateSlots]

theorem sampleStaleCondition_iff (s : State) : sampleStaleCondition s = true ↔ ∃ n : Fin 8,
    (slotConfigured s.tables.source (.pulse n) = true ∧ s.sit.pulse[n].state ≠ .fresh) ∨
    (slotConfigured s.tables.source (.gap n) = true ∧ s.sit.gap[n].state ≠ .fresh) := by
  simp [sampleStaleCondition]

/-- The evaluation sets SAMPLE_STALE while its condition holds (R12). -/
theorem evaluateSlots_flag (s : State) (h : sampleStaleCondition (evaluateSlots s) = true) :
    (evaluateSlots s).flag .sampleStale = true := by
  simp only [evaluateSlots] at h ⊢
  simpa [sampleStaleCondition] using Or.inr h

/-! ## Fetch entries (R74) -/

theorem timeoutFetch_flag_mono {s : State} {f : Flag} (n : Nat) (h : s.flag f = true) :
    (timeoutFetch s n).flag f = true := by
  have freed : (freeFetch s n).flag f = true := h
  unfold timeoutFetch
  (repeat' split) <;> simp [h, freed]

theorem timeoutFetches_flag_mono {s : State} {f : Flag} (es : List FetchEntry) (h : s.flag f = true) :
    (es.foldl (fun t e => timeoutFetch t e.segment) s).flag f = true := by
  induction es generalizing s with
  | nil => exact h
  | cons e es ih => exact ih (timeoutFetch_flag_mono e.segment h)

/-- No segment has two outstanding entries (R71). -/
def FetchesUnique (s : State) : Prop := (s.sgc.outstanding.map FetchEntry.segment).Nodup

theorem outstandingFor_of_mem {s : State} (hs : FetchesUnique s) {e : FetchEntry}
    (he : e ∈ s.sgc.outstanding) : outstandingFor s e.segment = some e := by
  unfold outstandingFor
  cases hf : s.sgc.outstanding.find? (fun x => x.segment == e.segment) with
  | none => simpa using List.find?_eq_none.mp hf e he
  | some x =>
    have hseg : x.segment = e.segment := by simpa using List.find?_some hf
    rw [List.inj_on_of_nodup_map hs (List.mem_of_find?_eq_some hf) he hseg]

theorem timeoutFetch_sublist (s : State) (n : Nat) :
    (timeoutFetch s n).sgc.outstanding.Sublist s.sgc.outstanding := by
  unfold timeoutFetch
  (repeat' split) <;> simp [freeFetch]

theorem FetchesUnique.timeoutFetch {s : State} (hs : FetchesUnique s) (n : Nat) :
    FetchesUnique (timeoutFetch s n) := hs.sublist ((timeoutFetch_sublist s n).map _)

/-- The entry of a segment is freed when its age has reached 8 (R74). -/
theorem mem_timeoutFetch {s : State} (hs : FetchesUnique s) (n : Nat) (e : FetchEntry) :
    e ∈ (timeoutFetch s n).sgc.outstanding ↔
      e ∈ s.sgc.outstanding ∧ ¬ (e.segment = n ∧ 8 ≤ e.age) := by
  by_cases hdue : ∃ x, outstandingFor s n = some x ∧ 8 ≤ x.age
  · obtain ⟨x, hx, hage⟩ := hdue
    have hxm := List.mem_of_find?_eq_some hx
    have hxn : x.segment = n := by simpa using List.find?_some hx
    rw [timeoutFetch_due hx hage]
    simp only [State.setFlag_keeps, freeFetch, State.setSgc_sgc, List.mem_filter, decide_eq_true_eq]
    refine and_congr_right fun he => not_congr ⟨fun hen => ⟨hen, ?_⟩, And.left⟩
    rwa [List.inj_on_of_nodup_map hs he hxm (hen.trans hxn.symm)]
  · have young : ∀ x, outstandingFor s n = some x → x.age < 8 :=
      fun x hx => Nat.not_le.mp fun hage => hdue ⟨x, hx, hage⟩
    rw [timeoutFetch_not_due young]
    refine ⟨fun he => ⟨he, fun ⟨hen, hage⟩ => ?_⟩, And.left⟩
    exact absurd (young e (hen ▸ outstandingFor_of_mem hs he)) (Nat.not_lt.mpr hage)

theorem mem_timeoutFetches {s : State} (hs : FetchesUnique s) (es : List FetchEntry)
    (e : FetchEntry) : e ∈ (es.foldl (fun t x => timeoutFetch t x.segment) s).sgc.outstanding ↔
      e ∈ s.sgc.outstanding ∧ ¬ (e.segment ∈ es.map FetchEntry.segment ∧ 8 ≤ e.age) := by
  induction es generalizing s with
  | nil => simp
  | cons x es ih =>
    rw [List.foldl_cons, ih (hs.timeoutFetch x.segment), mem_timeoutFetch hs]
    simp only [List.map_cons, List.mem_cons]
    tauto

/-- FETCH_TIMEOUT is set when an entry among those looked at is due (R74). -/
theorem timeoutFetches_flag {s : State} (hs : FetchesUnique s) (es : List FetchEntry)
    {e : FetchEntry} (he : e ∈ s.sgc.outstanding) (hseg : e.segment ∈ es.map FetchEntry.segment)
    (hage : 8 ≤ e.age) :
    (es.foldl (fun t x => timeoutFetch t x.segment) s).flag .fetchTimeout = true := by
  induction es generalizing s with
  | nil => cases hseg
  | cons x es ih =>
    by_cases hx : e.segment = x.segment
    · refine timeoutFetches_flag_mono es ?_
      dsimp only
      rw [← hx, timeoutFetch_due (outstandingFor_of_mem hs he) hage]
      simp
    · exact ih (hs.timeoutFetch x.segment) ((mem_timeoutFetch hs _ _).mpr ⟨he, fun h => hx h.1⟩)
        ((List.mem_cons.mp hseg).resolve_left hx)

/-- Every outstanding entry one cycle older. -/
def agedFetches (s : State) : State :=
  s.setSgc { s.sgc with outstanding := s.sgc.outstanding.map fun e => { e with age := e.age + 1 } }

theorem ageFetches_eq (s : State) : ageFetches s = (agedFetches s).sgc.outstanding.foldl
    (fun t e => timeoutFetch t e.segment) (agedFetches s) := rfl

theorem FetchesUnique.aged {s : State} (hs : FetchesUnique s) : FetchesUnique (agedFetches s) := by
  simpa [FetchesUnique, agedFetches, Function.comp_def] using hs

/-- The ageing of a mark: every entry one cycle older, those that reach 8 freed (R74). -/
theorem mem_ageFetches {s : State} (hs : FetchesUnique s) (e : FetchEntry) :
    e ∈ (ageFetches s).sgc.outstanding ↔
      ∃ old ∈ s.sgc.outstanding, e = { old with age := old.age + 1 } ∧ old.age + 1 < 8 := by
  rw [ageFetches_eq, mem_timeoutFetches hs.aged]
  constructor
  · rintro ⟨he, hn⟩
    have young : e.age < 8 := Nat.not_le.mp fun h => hn ⟨List.mem_map_of_mem he, h⟩
    obtain ⟨old, hold, rfl⟩ := List.mem_map.mp he
    exact ⟨old, hold, rfl, young⟩
  · rintro ⟨old, hold, rfl, hage⟩
    exact ⟨List.mem_map_of_mem hold, fun h => absurd hage (Nat.not_lt.mpr h.2)⟩

theorem ageFetches_flag {s : State} (hs : FetchesUnique s)
    (h : ∃ e ∈ s.sgc.outstanding, 8 ≤ e.age + 1) : (ageFetches s).flag .fetchTimeout = true := by
  obtain ⟨e, he, hage⟩ := h
  have aged : ({ e with age := e.age + 1 } : FetchEntry) ∈ (agedFetches s).sgc.outstanding :=
    List.mem_map_of_mem he
  exact timeoutFetches_flag hs.aged _ aged (List.mem_map_of_mem aged) hage

theorem ageFetches_flag_mono {s : State} {f : Flag} (h : s.flag f = true) :
    (ageFetches s).flag f = true :=
  timeoutFetches_flag_mono (s := agedFetches s) _ h

/-! ## Links (R130) -/

theorem timeoutLink_flag_mono {s : State} {f : Flag} (b : BogieId) (h : s.flag f = true) :
    (timeoutLink s b).flag f = true := by
  have ended (l : Link) : (s.setLink b l).flag f = true := h
  unfold timeoutLink
  (repeat' split) <;> simp [h, ended]

theorem timeoutLinks_flag_mono {s : State} {f : Flag} (bs : List BogieId) (h : s.flag f = true) :
    (bs.foldl timeoutLink s).flag f = true := by
  induction bs generalizing s with
  | nil => exact h
  | cons b bs ih => exact ih (timeoutLink_flag_mono b h)

theorem timeoutLink_other (s : State) {b c : BogieId} (h : c ≠ b) :
    (timeoutLink s b).als[c] = s.als[c] := by
  have hv : b.val ≠ c.val := fun hv => h (Fin.ext hv.symm)
  unfold timeoutLink
  (repeat' split) <;> simp [State.setLink, hv]

/-- A link of whose command none has reached the limit. -/
def LinkYoung (s : State) (b : BogieId) : Prop :=
  ∀ o limit, s.als[b].outstanding = some o → s.csu.echoLimit = some limit → o.age < limit

theorem timeoutLinks_young {s : State} {b : BogieId} (bs : List BogieId) (h : LinkYoung s b) :
    (bs.foldl timeoutLink s).als[b] = s.als[b] := by
  induction bs generalizing s with
  | nil => rfl
  | cons c bs ih =>
    rw [List.foldl_cons]
    by_cases hc : b = c
    · subst hc
      rw [timeoutLink_not_due h, ih h]
    · have kept := timeoutLink_other s hc
      rw [ih (fun o limit ho hl => h o limit (kept ▸ ho) (by simpa using hl)), kept]

theorem timeoutLinks_due {s : State} {b : BogieId} (bs : List BogieId) (hb : b ∈ bs) {o : Outstanding}
    {limit : Nat} (ho : s.als[b].outstanding = some o) (hl : s.csu.echoLimit = some limit)
    (hage : limit ≤ o.age) :
    (bs.foldl timeoutLink s).als[b] = { s.als[b] with outstanding := none } ∧
    (bs.foldl timeoutLink s).flag .echoTimeout = true := by
  induction bs generalizing s with
  | nil => cases hb
  | cons c bs ih =>
    rw [List.foldl_cons]
    by_cases hc : b = c
    · subst hc
      have ended : (timeoutLink s b).als[b] = { s.als[b] with outstanding := none } := by
        rw [timeoutLink_due ho hl hage]
        simp [State.setLink]
      refine ⟨?_, timeoutLinks_flag_mono bs (by rw [timeoutLink_due ho hl hage]; simp)⟩
      rw [timeoutLinks_young bs (fun o' limit' ho' _ => by rw [ended] at ho'; cases ho'), ended]
    · have kept := timeoutLink_other s hc
      have rest := ih (s := timeoutLink s c) ((List.mem_cons.mp hb).resolve_left hc)
        (by rw [kept, ho]) (by simpa using hl)
      rwa [kept] at rest

/-- Every outstanding command one mark older (R130). -/
def agedLinks (s : State) : State := s.setAls (s.als.map Link.older)

theorem agedLinks_at (s : State) (b : BogieId) : (agedLinks s).als[b] = s.als[b].older := by
  simp [agedLinks]

theorem ageLinks_none {s : State} {b : BogieId} (h : s.als[b].outstanding = none) :
    (ageLinks s).als[b] = s.als[b] := by
  have same : (agedLinks s).als[b] = s.als[b] := by
    rw [agedLinks_at, Link.older, h, Option.map_none, ← h]
  exact (timeoutLinks_young (s := agedLinks s) _
    (fun o _ ho => by rw [same, h] at ho; cases ho)).trans same

theorem agedLinks_some {s : State} {b : BogieId} {o : Outstanding}
    (h : s.als[b].outstanding = some o) :
    (agedLinks s).als[b] = { s.als[b] with outstanding := some { o with age := o.age + 1 } } := by
  rw [agedLinks_at, Link.older, h]
  rfl

theorem ageLinks_young {s : State} {b : BogieId} {o : Outstanding} {limit : Nat}
    (ho : s.als[b].outstanding = some o) (hl : s.csu.echoLimit = some limit)
    (hage : o.age + 1 < limit) :
    (ageLinks s).als[b] = { s.als[b] with outstanding := some { o with age := o.age + 1 } } := by
  have aged := agedLinks_some ho
  refine (timeoutLinks_young (s := agedLinks s) _ fun o' limit' ho' hl' => ?_).trans aged
  rw [aged] at ho'
  cases ho'
  cases hl.symm.trans hl'
  exact hage

theorem ageLinks_due {s : State} {b : BogieId} {o : Outstanding} {limit : Nat}
    (ho : s.als[b].outstanding = some o) (hl : s.csu.echoLimit = some limit)
    (hage : limit ≤ o.age + 1) :
    (ageLinks s).als[b] = { s.als[b] with outstanding := none } ∧
    (ageLinks s).flag .echoTimeout = true := by
  have aged := agedLinks_some ho
  have due := timeoutLinks_due (s := agedLinks s) (List.finRange 4) (List.mem_finRange b)
    (o := { o with age := o.age + 1 }) (by rw [aged]) hl hage
  rwa [aged] at due

theorem ageLinks_flag_mono {s : State} {f : Flag} (h : s.flag f = true) :
    (ageLinks s).flag f = true :=
  timeoutLinks_flag_mono (s := agedLinks s) _ h

/-! ## The mark whole -/

/-- What a mark found, and what it left: the evaluation of the slots, the ageing of fetch entries and of
outstanding commands (R11, R12, R74, R123, R130, R142). -/
structure Marked (s t : State) : Prop where
  cycle : t.csu.cycle = nextCycle s.csu.cycle
  echoLimit : t.csu.echoLimit = some s.tables.param.echoTimeout
  pulse : ∀ n : Fin 8, t.sit.pulse[n] =
    s.sit.pulse[n].evaluate (maxAgeOf s.tables.source (.pulse n)) (nextCycle s.csu.cycle)
  gap : ∀ n : Fin 8, t.sit.gap[n] =
    s.sit.gap[n].evaluate (maxAgeOf s.tables.source (.gap n)) (nextCycle s.csu.cycle)
  previous : t.sit.previous = s.sit.previous
  stale : ∀ n : Fin 8,
    (slotConfigured s.tables.source (.pulse n) = true ∧ t.sit.pulse[n].state ≠ .fresh) ∨
    (slotConfigured s.tables.source (.gap n) = true ∧ t.sit.gap[n].state ≠ .fresh) →
    t.flag .sampleStale = true
  fetches : FetchesUnique s → ∀ e, e ∈ t.sgc.outstanding ↔
    ∃ old ∈ s.sgc.outstanding, e = { old with age := old.age + 1 } ∧ old.age + 1 < 8
  fetchFlag : FetchesUnique s → (∃ e ∈ s.sgc.outstanding, 8 ≤ e.age + 1) →
    t.flag .fetchTimeout = true
  idle : ∀ b : BogieId, s.als[b].outstanding = none → t.als[b] = s.als[b]
  young : ∀ (b : BogieId) o, s.als[b].outstanding = some o → o.age + 1 < s.tables.param.echoTimeout →
    t.als[b] = { s.als[b] with outstanding := some { o with age := o.age + 1 } }
  due : ∀ (b : BogieId) o, s.als[b].outstanding = some o → s.tables.param.echoTimeout ≤ o.age + 1 →
    t.als[b] = { s.als[b] with outstanding := none } ∧ t.flag .echoTimeout = true

theorem takeMark_marked (s : State) : Marked s (takeMark s) := by
  have begun : ∃ u, takeMark s = (ageLinks (ageFetches (evaluateSlots u))).setOpu
      { (ageLinks (ageFetches (evaluateSlots u))).opu with updateDue := true } ∧ u = beginCycle s :=
    ⟨_, rfl, rfl⟩
  obtain ⟨u, hm, hu⟩ := begun
  have cycle : u.csu.cycle = nextCycle s.csu.cycle := by rw [hu]; rfl
  have limit : u.csu.echoLimit = some s.tables.param.echoTimeout := by rw [hu]; rfl
  have tables : u.tables = s.tables := by simp [hu]
  have sit : u.sit = s.sit := by simp [hu]
  have sgc : (evaluateSlots u).sgc = s.sgc := by simp [hu]
  have als : (ageFetches (evaluateSlots u)).als = s.als := by simp [hu]
  have flags (f : Flag) : (takeMark s).flag f = (ageLinks (ageFetches (evaluateSlots u))).flag f := by
    rw [hm]; rfl
  have links (b : BogieId) :
      (takeMark s).als[b] = (ageLinks (ageFetches (evaluateSlots u))).als[b] := by
    rw [hm]; rfl
  have unique (h : FetchesUnique s) : FetchesUnique (evaluateSlots u) := by
    rwa [FetchesUnique, sgc]
  have limit' : (ageFetches (evaluateSlots u)).csu.echoLimit = some s.tables.param.echoTimeout := by
    simpa using limit
  refine ⟨by simp [hm, cycle], by simp [hm, limit], fun n => ?_, fun n => ?_, by simp [hm, sit],
    fun n h => ?_, fun h e => ?_, fun h he => ?_, fun b h => ?_, fun b o ho hage => ?_,
    fun b o ho hage => ?_⟩
  · rw [← cycle, ← sit, ← tables, ← evaluateSlots_pulse]; simp [hm]
  · rw [← cycle, ← sit, ← tables, ← evaluateSlots_gap]; simp [hm]
  · rw [flags]
    refine ageLinks_flag_mono (ageFetches_flag_mono (evaluateSlots_flag u ?_))
    rw [sampleStaleCondition_iff]
    exact ⟨n, by simpa [hm, tables] using h⟩
  · rw [← sgc, ← mem_ageFetches (unique h)]; simp [hm]
  · rw [flags]
    exact ageLinks_flag_mono (ageFetches_flag (unique h) (by rwa [sgc]))
  · have kept := ageLinks_none (s := ageFetches (evaluateSlots u)) (b := b)
    rw [als] at kept
    exact (links b).trans (kept h)
  · have grown := ageLinks_young (s := ageFetches (evaluateSlots u)) (b := b) (o := o)
      (limit := s.tables.param.echoTimeout)
    rw [als] at grown
    exact (links b).trans (grown ho limit' hage)
  · have ended := ageLinks_due (s := ageFetches (evaluateSlots u)) (b := b) (o := o)
      (limit := s.tables.param.echoTimeout)
    rw [als] at ended
    obtain ⟨link, flag⟩ := ended ho limit' hage
    exact ⟨(links b).trans link, (flags _).trans flag⟩

/-- What the mark found needs only the counter, the tables, the slots, the fetch entries and the links. -/
theorem Marked.found {s u t : State} (h : Marked u t) (cycle : u.csu.cycle = s.csu.cycle)
    (tables : u.tables = s.tables) (sit : u.sit = s.sit) (sgc : u.sgc = s.sgc)
    (als : u.als = s.als) : Marked s t := by
  obtain ⟨h1, h2, h3, h4, h5, h6, h7, h8, h9, h10, h11⟩ := h
  simp only [FetchesUnique, cycle, tables, sit, sgc, als] at h1 h2 h3 h4 h5 h6 h7 h8 h9 h10 h11
  exact ⟨h1, h2, h3, h4, h5, h6, h7, h8, h9, h10, h11⟩

/-- What the mark left stays while the counter, the limit, the slots, the entries, the links and every flag
set stay. -/
theorem Marked.left {s t u : State} (h : Marked s t) (cycle : u.csu.cycle = t.csu.cycle)
    (limit : u.csu.echoLimit = t.csu.echoLimit) (sit : u.sit = t.sit) (sgc : u.sgc = t.sgc)
    (als : u.als = t.als) (flags : ∀ f, t.flag f = true → u.flag f = true) : Marked s u where
  cycle := cycle.trans h.cycle
  echoLimit := limit.trans h.echoLimit
  pulse n := by rw [sit]; exact h.pulse n
  gap n := by rw [sit]; exact h.gap n
  previous := by rw [sit]; exact h.previous
  stale n := by rw [sit]; exact fun hn => flags _ (h.stale n hn)
  fetches := by rw [sgc]; exact h.fetches
  fetchFlag hu he := flags _ (h.fetchFlag hu he)
  idle := by rw [als]; exact h.idle
  young := by rw [als]; exact h.young
  due b o ho hage := by
    obtain ⟨link, flag⟩ := h.due b o ho hage
    rw [als]
    exact ⟨link, flags _ flag⟩

/-! ## The two origins of a mark -/

theorem hearCycle_csu (s : State) (n : Nat) : (hearCycle s n).csu.cycle = s.csu.cycle ∧
    (hearCycle s n).csu.running = s.csu.running := by
  simp only [hearCycle, reloadSubstitute, keepAlive]
  (repeat' split) <;> simp

theorem exec_cycle_taken {s : State} {d : Delivery} {number : Word} (hw : forwardOnly s = false)
    (hp : d.payload = [number]) (hr : s.csu.running = false) :
    exec (.cycle d) s = .next (takeMark (hearCycle s number.toNat)) := by
  have idle : (hearCycle s number.toNat).csu.running = false := (hearCycle_csu s _).2.trans hr
  show execCycle d s = _
  simp [execCycle, hw, hp, handleCycle, idle]

/-- A mark of the substitute timer, its flag and its counter apart. -/
def substituteMark (s : State) : State := takeMark (reloadSubstitute s (2 * s.tables.param.period))

theorem exec_substitute_taken {s : State} (ht : s.csu.substTimer ≠ none)
    (hr : s.csu.running = false) : exec .substituteTimerExpiry s =
      .next (((substituteMark s).setFlag .cycleSubst).setCsu
        { (substituteMark s).csu with
          substitutes := raisedSubstitutes (substituteMark s).csu.substitutes }) := by
  have idle : (reloadSubstitute s (2 * s.tables.param.period)).csu.running = false := hr
  have counts : s.csu.substTimer.isSome = true := Option.isSome_iff_ne_none.mpr ht
  show execSubstituteTimerExpiry s = _
  simp [execSubstituteTimerExpiry, counts, expireSubstitute, idle, substituteMark]

theorem cycle_marked {s : State} {d : Delivery} {number : Word} {t : State}
    (hw : forwardOnly s = false) (hp : d.payload = [number]) (hr : s.csu.running = false)
    (h : exec (.cycle d) s = .next t) : Marked s t := by
  rw [exec_cycle_taken hw hp hr] at h
  cases h
  exact (takeMark_marked _).found (hearCycle_csu s _).1 (by simp) (by simp) (by simp) (by simp)

theorem substitute_marked {s t : State} (ht : s.csu.substTimer ≠ none)
    (hr : s.csu.running = false) (h : exec .substituteTimerExpiry s = .next t) : Marked s t := by
  rw [exec_substitute_taken ht hr] at h
  cases h
  have marked : Marked s (substituteMark s) :=
    (takeMark_marked _).found rfl rfl rfl rfl rfl
  have flags (f : Flag) (hf : (substituteMark s).flag f = true) :
      ((substituteMark s).setFlag .cycleSubst).flag f = true := by simp [hf]
  exact marked.left rfl rfl (by simp) (by simp) (by simp) flags

/-- Settles O21: at a taken mark of either origin the slots are evaluated, and fetch entries and outstanding
commands age. -/
theorem markEvaluatesAndAges : Obligations.MarkEvaluatesAndAges := by
  unfold Obligations.MarkEvaluatesAndAges
  intro c s t hr origin h
  have m : Marked s t := by
    rcases origin with ⟨rfl, ht⟩ | ⟨d, number, rfl, hp, hw⟩
    · exact substitute_marked ht hr h
    · exact cycle_marked hw hp hr h
  refine ⟨m.cycle, m.echoLimit, fun n => ⟨?_, ?_, fun hc hs => m.stale n (.inl ⟨hc, hs⟩),
    fun hc hs => m.stale n (.inr ⟨hc, hs⟩)⟩, m.previous,
    fun hu => ⟨m.fetches hu, m.fetchFlag hu⟩, fun b => ⟨m.idle b, m.young b, m.due b⟩⟩
  · rw [m.pulse n, m.cycle]
    exact evaluate_spec _ _ _
  · rw [m.gap n, m.cycle]
    exact evaluate_spec _ _ _

end Sys2Proof.Proofs

/-! SUPPORT. The checks of the tables' owners (R3, R16, R17, R42, R82, R105, R106, R121, R187): for each table
what makes a write fit, said as a proposition, and the verdict by it. -/

namespace Sys2Proof.Proofs

open Sys2Proof.Machine

/-! ## Indices and limits -/

@[simp] theorem indexIn_val {n : Nat} (i : Fin n) : indexIn n i.val = some i := dif_pos i.isLt

theorem indexIn_of_le {n i : Nat} (h : n ≤ i) : indexIn n i = none := dif_neg (Nat.not_lt.mpr h)

theorem limitNat_eq_self {lo hi x : Nat} (h : lo ≤ hi) : limitNat lo hi x = x ↔ lo ≤ x ∧ x ≤ hi := by
  rw [limitNat_eq x h]
  omega

/-- A limit whose lower end is 0 (R1). -/
theorem limitNat_zero (hi x : Nat) : limitNat 0 hi x = min x hi := by
  rw [limitNat_eq x (Nat.zero_le hi), Nat.zero_max]

/-! ## A new entry beside another -/

theorem sourceApart_some_iff (x : Option SourceEntry) (b : SourceEntry) : SourceApart x (some b) ↔
    ∀ a, x = some a → (a.node ≠ b.node ∨ a.item ≠ b.item) ∧ a.target ≠ b.target :=
  ⟨fun h a ha => h a b ha rfl, fun h a _ ha hb => by cases hb; exact h a ha⟩

theorem axleApart_some_iff (x : Option AxleEntry) (b : AxleEntry) :
    AxleApart x (some b) ↔ ∀ a, x = some a → a.slot ≠ b.slot :=
  ⟨fun h a ha => h a b ha rfl, fun h a _ ha hb => by cases hb; exact h a ha⟩

theorem beaconApart_some_iff (x : Option BeaconEntry) (b : BeaconEntry) :
    BeaconApart x (some b) ↔ ∀ a, x = some a → a.ident ≠ b.ident :=
  ⟨fun h a ha => h a b ha rfl, fun h a _ ha hb => by cases hb; exact h a ha⟩

/-! ## Source Table (R3) -/

/-- Where a Source Table entry's kind and slot send an item (R3). -/
theorem target_iff (f : SourceFields) (n : SlotTarget) : f.target = some n ↔
    (f.kind = 1 ∧ n = .pulse (Fin.ofNat 8 f.slot)) ∨ (f.kind = 2 ∧ n = .gap (Fin.ofNat 8 f.slot)) ∨
    (f.kind = 3 ∧ f.slot ≤ 1 ∧ n = .beacon (Fin.ofNat 2 f.slot)) := by
  unfold SourceFields.target
  split_ifs with pulse gap beacon
  · simp [pulse, eq_comm]
  · simp [gap, eq_comm]
  · simp [beacon, eq_comm]
  · refine iff_of_false nofun ?_
    rintro (h | h | ⟨kind, slot, -⟩)
    · exact pulse h.1
    · exact gap h.1
    · exact beacon ⟨kind, slot⟩

/-- What the node, the max age and the other entries ask of a Source Table write to a slot (R3). -/
def SourceFits (s : State) (i : Fin 24) (f : SourceFields) (n : SlotTarget) : Prop :=
  1 ≤ f.node ∧ f.node ≤ 62 ∧ f.node ≠ s.rpu.own.toNat ∧ (1 ≤ f.maxAge ∨ f.kind = 3) ∧
  ∀ (j : Fin 24) x, j ≠ i → s.tables.source[j] = some x →
    (x.node ≠ f.node ∨ x.item ≠ f.item) ∧ x.target ≠ n

theorem sourceChecks_iff (s : State) (i : Fin 24) (f : SourceFields) (n : SlotTarget) :
    (decide (1 ≤ f.node) && decide (f.node ≤ 62) && decide (f.node ≠ s.rpu.own.toNat) &&
      (decide (1 ≤ f.maxAge) || decide (f.kind = 3)) &&
      sourceKeyFree s.tables.source i ⟨f.node, f.item, n, f.maxAge⟩ &&
      sourceSlotFree s.tables.source i ⟨f.node, f.item, n, f.maxAge⟩) = true ↔
      SourceFits s i f n := by
  have free := sourceFree_iff s.tables.source i ⟨f.node, f.item, n, f.maxAge⟩
  rw [Bool.and_assoc _ (sourceKeyFree ..), Bool.and_eq_true, free]
  simp only [Bool.and_eq_true, Bool.or_eq_true, decide_eq_true_eq, and_assoc, SourceFits,
    sourceApart_some_iff]
  refine and_congr_right' (and_congr_right' (and_congr_right' (and_congr_right' ?_)))
  exact forall_congr' fun j => forall_comm

section Source
variable {s : State} (idle : s.sdu.part ≠ .active)
include idle

theorem checkSource_outside {i : Nat} (f : SourceFields) (h : 24 ≤ i) :
    checkSource s i f = .refusedRange := by
  simp [checkSource, idle, indexIn_of_le h]

theorem checkSource_unused (i : Fin 24) {f : SourceFields} (h : f.valid = false) :
    checkSource s i.val f = .accepted (.source i none) false := by
  simp [checkSource, idle, h]

theorem checkSource_fits {i : Fin 24} {f : SourceFields} {n : SlotTarget} (hv : f.valid = true)
    (ht : f.target = some n) (h : SourceFits s i f n) :
    checkSource s i.val f = .accepted (.source i (some
      { node := f.node, item := f.item, target := n, maxAge := f.maxAge })) false := by
  simp only [checkSource, if_neg idle, indexIn_val, hv, ht]
  exact if_pos ((sourceChecks_iff s i f n).mpr h)

theorem checkSource_unfit {i : Fin 24} {f : SourceFields} (hv : f.valid = true)
    (h : ∀ n, f.target = some n → ¬ SourceFits s i f n) :
    checkSource s i.val f = .refusedRange := by
  simp only [checkSource, if_neg idle, indexIn_val, hv]
  cases ht : f.target with
  | none => rfl
  | some n => exact if_neg (mt (sourceChecks_iff s i f n).mp (h n ht))

end Source

/-! ## Axle table (R16) -/

/-- What an axle table write asks of the distance and of the pulse slots of the other entries (R16). -/
def AxleFits (s : State) (i : Fin 8) (um : Nat) (n : Fin 8) : Prop :=
  5000 ≤ um ∧ um ≤ 40000 ∧ ∀ (j : Fin 8) x, j ≠ i → s.tables.axle[j] = some x → x.slot ≠ n

theorem axleChecks_iff (s : State) (i : Fin 8) (um : Nat) (n : Fin 8) (odometry : Bool) :
    (decide (5000 ≤ um) && decide (um ≤ 40000) && axleSlotFree s.tables.axle i ⟨um, n, odometry⟩) =
      true ↔ AxleFits s i um n := by
  simp only [Bool.and_eq_true, decide_eq_true_eq, axleSlotFree_iff, and_assoc, AxleFits,
    axleApart_some_iff]
  refine and_congr_right' (and_congr_right' ?_)
  exact forall_congr' fun j => forall_comm

section Axle
variable {s : State} (idle : s.sdu.part ≠ .active)
include idle

theorem checkAxle_outside {i : Nat} (um slot : Nat) (odometry : Bool) (h : 8 ≤ i) :
    checkAxle s i um slot odometry = .refusedRange := by
  simp [checkAxle, idle, indexIn_of_le h]

theorem checkAxle_unused (i : Fin 8) (slot : Nat) (odometry : Bool) :
    checkAxle s i.val 0 slot odometry = .accepted (.axle i none) false := by
  simp [checkAxle, idle]

theorem checkAxle_fits {i : Fin 8} {um : Nat} {n : Fin 8} (odometry : Bool) (h : AxleFits s i um n) :
    checkAxle s i.val um n.val odometry =
      .accepted (.axle i (some { umPerPulse := um, slot := n, odometry := odometry })) false := by
  have used : um ≠ 0 := Nat.ne_of_gt (Nat.lt_of_lt_of_le (by decide) h.1)
  simp only [checkAxle, if_neg idle, indexIn_val, if_neg used]
  exact if_pos ((axleChecks_iff s i um n odometry).mpr h)

theorem checkAxle_unfit {i : Fin 8} {um slot : Nat} (odometry : Bool) (used : um ≠ 0)
    (h : ∀ n : Fin 8, slot = n.val → ¬ AxleFits s i um n) :
    checkAxle s i.val um slot odometry = .refusedRange := by
  simp only [checkAxle, if_neg idle, indexIn_val, if_neg used]
  by_cases hs : slot < 8
  · have found : indexIn 8 slot = some ⟨slot, hs⟩ := dif_pos hs
    rw [found]
    exact if_neg (mt (axleChecks_iff s i um ⟨slot, hs⟩ odometry).mp (h ⟨slot, hs⟩ rfl))
  · rw [indexIn_of_le (Nat.not_lt.mp hs)]

end Axle

/-! ## Bogie table (R17, R121) -/

/-- What an enabled bogie's write asks of its actuator address, of the other enabled entries, and of its
geometry (R17, R121). -/
def BogieFits (s : State) (i : Fin 4) (e : BogieEntry) : Prop :=
  1 ≤ e.actuator ∧ e.actuator ≤ 62 ∧ e.actuator ≠ s.rpu.own.toNat ∧
  (∀ j : Fin 4, j ≠ i → s.tables.bogie[j].enabled = true →
    s.tables.bogie[j].actuator ≠ e.actuator) ∧
  400 ≤ e.semi ∧ e.semi ≤ 1500 ∧ e.pivot ≤ 40000 ∧ e.semi ≤ e.pivot ∧ e.pivot + e.semi ≤ 40000

theorem bogieChecks_iff (s : State) (i : Fin 4) (e : BogieEntry) :
    (actuatorOk s.rpu.own e && actuatorFree s.tables.bogie i e && geometryOk e) = true ↔
      BogieFits s i e := by
  simp only [Bool.and_eq_true, actuatorFree_iff, actuatorOk, geometryOk, decide_eq_true_eq, and_assoc,
    BogieFits]

section Bogie
variable {s : State} (idle : s.sdu.part ≠ .active)
include idle

theorem checkBogie_outside {i : Nat} (e : BogieEntry) (h : 4 ≤ i) :
    checkBogie s i e = .refusedRange := by
  simp [checkBogie, idle, indexIn_of_le h]

theorem checkBogie_fits {i : Fin 4} {e : BogieEntry} (h : e.enabled = false ∨ BogieFits s i e) :
    checkBogie s i.val e = .accepted (.bogie i e) false := by
  simp only [checkBogie, if_neg idle, indexIn_val]
  refine if_pos ?_
  rw [Bool.or_eq_true, bogieChecks_iff, Bool.not_eq_true']
  exact h

theorem checkBogie_unfit {i : Fin 4} {e : BogieEntry} (he : e.enabled = true)
    (h : ¬ BogieFits s i e) : checkBogie s i.val e = .refusedRange := by
  simp only [checkBogie, if_neg idle, indexIn_val]
  refine if_neg ?_
  rw [Bool.or_eq_true, bogieChecks_iff, Bool.not_eq_true', he]
  simpa using h

end Bogie

/-! ## The lock in ACTIVE (R3, R16, R121) -/

theorem checks_locked {s : State} (h : s.sdu.part = .active) (i : Nat) (f : SourceFields)
    (um slot : Nat) (odometry : Bool) (e : BogieEntry) : checkSource s i f = .refusedState ∧
      checkAxle s i um slot odometry = .refusedState ∧ checkBogie s i e = .refusedState :=
  ⟨if_pos h, if_pos h, if_pos h⟩

/-! ## Channel table (R105, R106) -/

/-- A channel entry's fields limited, as the ranges of Table 6.1 give them (R106). -/
theorem limitChannel_eq {e : ChannelEntry} (h : e.codeMin < e.codeMax) : limitChannel e = { e with
    thetaMax := min e.thetaMax 100000
    slew := min e.slew 4095
    trackCount := max 1 (min e.trackCount 15)
    fallback := max e.codeMin (min e.fallback e.codeMax) } := by
  simp only [limitChannel, limitNat_zero, limitNat_eq e.trackCount (show 1 ≤ 15 by decide),
    limitNat_eq e.fallback h.le]

theorem limitChannel_ne_iff {e : ChannelEntry} (h : e.codeMin < e.codeMax) : limitChannel e ≠ e ↔
    100000 < e.thetaMax ∨ 4095 < e.slew ∨ e.trackCount < 1 ∨ 15 < e.trackCount ∨
      e.fallback < e.codeMin ∨ e.codeMax < e.fallback := by
  obtain ⟨gain, trim, codeMin, codeMax, slew, fallback, thetaMax, trackLimit, trackCount⟩ := e
  have range : codeMin ≤ codeMax := Nat.le_of_lt h
  simp only [limitChannel, ne_eq, ChannelEntry.mk.injEq, true_and,
    limitNat_eq_self (Nat.zero_le _), limitNat_eq_self (show 1 ≤ 15 by decide),
    limitNat_eq_self range]
  omega

/-- A channel write outside CONFIG that gives another code range (R105). -/
def MovesRange (s : State) (i : Fin 8) (e : ChannelEntry) : Prop :=
  s.sdu.part ≠ .config ∧
    (e.codeMin ≠ s.tables.channel[i].codeMin ∨ e.codeMax ≠ s.tables.channel[i].codeMax)

theorem rangeKept_iff (s : State) (i : Fin 8) (e : ChannelEntry) :
    (decide (s.sdu.part = .config) || (decide (e.codeMin = s.tables.channel[i].codeMin) &&
      decide (e.codeMax = s.tables.channel[i].codeMax))) = true ↔ ¬ MovesRange s i e := by
  simp only [Bool.or_eq_true, Bool.and_eq_true, decide_eq_true_eq, MovesRange]
  tauto

theorem checkChannel_outside (s : State) {i : Nat} (e : ChannelEntry) (h : 8 ≤ i) :
    checkChannel s i e = .refusedRange := by
  simp [checkChannel, indexIn_of_le h]

theorem checkChannel_bad (s : State) (i : Fin 8) {e : ChannelEntry}
    (h : e.trim < -2048 ∨ 2047 < e.trim ∨ e.codeMax ≤ e.codeMin) :
    checkChannel s i.val e = .refusedRange := by
  simp only [checkChannel, indexIn_val]
  by_cases ht : -2048 ≤ e.trim ∧ e.trim ≤ 2047
  · have range : ¬ e.codeMin < e.codeMax := by omega
    simp [ht, range]
  · refine if_pos ?_
    rwa [Bool.not_eq_true', ← Bool.not_eq_true, Bool.and_eq_true, decide_eq_true_eq,
      decide_eq_true_eq]

section Channel
variable {s : State} {i : Fin 8} {e : ChannelEntry} (low : -2048 ≤ e.trim) (high : e.trim ≤ 2047)
  (range : e.codeMin < e.codeMax)
include low high range

theorem checkChannel_good : checkChannel s i.val e =
    if decide (s.sdu.part = .config) || (decide (e.codeMin = s.tables.channel[i].codeMin) &&
      decide (e.codeMax = s.tables.channel[i].codeMax)) then
      .accepted (.channel i (limitChannel e)) (decide (limitChannel e ≠ e))
    else .refusedState := by
  simp only [checkChannel, indexIn_val, decide_eq_true low, decide_eq_true high,
    decide_eq_true range]
  rfl

theorem checkChannel_moves (h : MovesRange s i e) : checkChannel s i.val e = .refusedState := by
  rw [checkChannel_good low high range]
  exact if_neg fun kept => (rangeKept_iff s i e).mp kept h

theorem checkChannel_keeps (h : ¬ MovesRange s i e) : checkChannel s i.val e =
    .accepted (.channel i { e with
      thetaMax := min e.thetaMax 100000
      slew := min e.slew 4095
      trackCount := max 1 (min e.trackCount 15)
      fallback := max e.codeMin (min e.fallback e.codeMax) })
    (decide (100000 < e.thetaMax ∨ 4095 < e.slew ∨ e.trackCount < 1 ∨ 15 < e.trackCount ∨
      e.fallback < e.codeMin ∨ e.codeMax < e.fallback)) := by
  rw [checkChannel_good low high range, if_pos ((rangeKept_iff s i e).mpr h),
    decide_eq_decide.mpr (limitChannel_ne_iff range), limitChannel_eq range]

end Channel

/-! ## Gain schedule (R82) -/

theorem limitGain_ne_iff (e : GainEntry) :
    limitGain e ≠ e ↔ 500 < e.lookAheadTime ∨ 4095 < e.gain := by
  cases e
  simp only [limitGain, ne_eq, GainEntry.mk.injEq, limitNat_eq_self (Nat.zero_le _)]
  omega

theorem checkGain_outside {i : Nat} (e : GainEntry) (h : 16 ≤ i) : checkGain i e = .refusedRange := by
  simp [checkGain, indexIn_of_le h]

theorem checkGain_eq (i : Fin 16) (e : GainEntry) : checkGain i.val e = .accepted
    (.gain i { lookAheadTime := min e.lookAheadTime 500, gain := min e.gain 4095 })
    (decide (500 < e.lookAheadTime ∨ 4095 < e.gain)) := by
  simp only [checkGain, indexIn_val, decide_eq_decide.mpr (limitGain_ne_iff e)]
  simp only [limitGain, limitNat_zero]

/-! ## Beacon table (R42) -/

/-- What a valid beacon's write asks of its fields and of the other identifiers (R42). -/
def BeaconFits (s : State) (i : Fin 64) (e : BeaconEntry) : Prop :=
  1 ≤ e.ident ∧ e.ident ≤ 4095 ∧ e.segment ≠ 0 ∧ e.segment ≠ 65535 ∧ e.offset ≤ 59999 ∧
  ∀ (j : Fin 64) x, j ≠ i → s.tables.beacon[j] = some x → x.ident ≠ e.ident

theorem beaconChecks_iff (s : State) (i : Fin 64) (e : BeaconEntry) :
    (decide (1 ≤ e.ident) && decide (e.ident ≤ 4095) && decide (e.segment ≠ 0) &&
      decide (e.segment ≠ 65535) && decide (e.offset ≤ 59999) &&
      beaconIdentFree s.tables.beacon i e) = true ↔ BeaconFits s i e := by
  simp only [Bool.and_eq_true, decide_eq_true_eq, beaconIdentFree_iff, and_assoc, BeaconFits,
    beaconApart_some_iff]
  refine and_congr_right' (and_congr_right' (and_congr_right' (and_congr_right'
    (and_congr_right' ?_))))
  exact forall_congr' fun j => forall_comm

theorem checkBeacon_outside (s : State) {i : Nat} (f : BeaconFields) (h : 64 ≤ i) :
    checkBeacon s i f = .refusedRange := by
  simp [checkBeacon, indexIn_of_le h]

theorem checkBeacon_unused (s : State) (i : Fin 64) {f : BeaconFields} (h : f.valid = false) :
    checkBeacon s i.val f = .accepted (.beacon i none) false := by
  simp [checkBeacon, h]

theorem checkBeacon_fits {s : State} {i : Fin 64} {f : BeaconFields} (hv : f.valid = true)
    (h : BeaconFits s i f.entry) :
    checkBeacon s i.val f = .accepted (.beacon i (some f.entry)) false := by
  simp only [checkBeacon, indexIn_val, hv]
  exact if_pos ((beaconChecks_iff s i f.entry).mpr h)

theorem checkBeacon_unfit {s : State} {i : Fin 64} {f : BeaconFields} (hv : f.valid = true)
    (h : ¬ BeaconFits s i f.entry) : checkBeacon s i.val f = .refusedRange := by
  simp only [checkBeacon, indexIn_val, hv]
  exact if_neg (mt (beaconChecks_iff s i f.entry).mp h)

/-! ## Parameter table (R187, R18, R43, R69, R83, R108, R123, R140) -/

/-- What a parameter write asks of the reader offsets and the thresholds (R43, R83). -/
def ParamFits (f : ParamFields) : Prop :=
  f.offset0 ≤ 40000 ∧ f.offset1 ≤ 40000 ∧ 1 ≤ f.threshold1 ∧ f.threshold1 < f.threshold2 ∧
  f.threshold2 < f.threshold3 ∧ f.threshold3 ≤ 30000

theorem paramRangeOk_iff (f : ParamFields) :
    paramRangeOk f = true ↔ f.axle0 < 8 ∧ f.axle1 < 8 ∧ ParamFits f := by
  simp only [paramRangeOk, Bool.and_eq_true, decide_eq_true_eq, ParamFits, Nat.lt_succ_iff]
  tauto

theorem limitParam_ne_iff (f : ParamFields) : limitParam f ≠ f ↔
    f.period < 2 ∨ 10 < f.period ∨ f.timeout < 10 ∨ 250 < f.timeout ∨ 1000 < f.standstill ∨
    f.window < 100 ∨ 5000 < f.window ∨ f.drift < 50 ∨ 2000 < f.drift ∨ 60000 < f.horizon ∨
    4095 < f.fallbackStep ∨ f.echoTimeout < 1 ∨ 4 < f.echoTimeout := by
  cases f
  simp only [limitParam, ne_eq, ParamFields.mk.injEq, true_and,
    limitNat_eq_self (Nat.zero_le _), limitNat_eq_self (show 2 ≤ 10 by decide),
    limitNat_eq_self (show 10 ≤ 250 by decide), limitNat_eq_self (show 100 ≤ 5000 by decide),
    limitNat_eq_self (show 50 ≤ 2000 by decide), limitNat_eq_self (show 1 ≤ 4 by decide)]
  omega

theorem checkParam_outside {i : Nat} (f : ParamFields) (h : i ≠ 0) :
    checkParam i f = .refusedRange := if_pos h

theorem checkParam_unfit {f : ParamFields} (h : 8 ≤ f.axle0 ∨ 8 ≤ f.axle1 ∨ ¬ ParamFits f) :
    checkParam 0 f = .refusedRange := by
  have bad : ¬ paramRangeOk f = true := by
    rw [paramRangeOk_iff]
    rintro ⟨h0, h1, hf⟩
    rcases h with h | h | h
    · exact absurd h0 (Nat.not_lt.mpr h)
    · exact absurd h1 (Nat.not_lt.mpr h)
    · exact h hf
  simp [checkParam, bad]

theorem checkParam_fits {f : ParamFields} (h0 : f.axle0 < 8) (h1 : f.axle1 < 8) (h : ParamFits f) :
    checkParam 0 f =
      .accepted (.param (paramEntry (limitParam f))) (decide (limitParam f ≠ f)) := by
  have good : paramRangeOk f = true := (paramRangeOk_iff f).mpr ⟨h0, h1, h⟩
  simp [checkParam, good]

/-- The stored entry of a limited parameter write. -/
theorem paramEntry_limitParam {f : ParamFields} {a0 a1 : Fin 8} (h0 : f.axle0 = a0.val)
    (h1 : f.axle1 = a1.val) : paramEntry (limitParam f) = {
      period := max 2 (min f.period 10), timeout := max 10 (min f.timeout 250)
      keepAlive := f.keepAlive, standstill := max 0 (min f.standstill 1000)
      readerOffset := #v[f.offset0, f.offset1], readerAxle := #v[a0, a1]
      window := max 100 (min f.window 5000), drift := max 50 (min f.drift 2000)
      threshold1 := f.threshold1, threshold2 := f.threshold2, threshold3 := f.threshold3
      horizon := max 0 (min f.horizon 60000), fallbackStep := max 0 (min f.fallbackStep 4095)
      echoTimeout := max 1 (min f.echoTimeout 4) } := by
  have axle (a : Fin 8) : Fin.ofNat 8 a.val = a := Fin.ofNat_val_eq_self a
  simp only [paramEntry, limitParam, h0, h1, axle, limitNat_eq _ (Nat.zero_le _),
    limitNat_eq _ (show 2 ≤ 10 by decide), limitNat_eq _ (show 10 ≤ 250 by decide),
    limitNat_eq _ (show 100 ≤ 5000 by decide), limitNat_eq _ (show 50 ≤ 2000 by decide),
    limitNat_eq _ (show 1 ≤ 4 by decide)]

/-- Settles O47, table by table. -/
theorem tableChecks : Obligations.TableChecks := by
  unfold Obligations.TableChecks
  intro s
  refine ⟨fun locked i f um slot odometry e => checks_locked locked i f um slot odometry e,
    fun idle f _ _ => ⟨fun i hi => checkSource_outside idle f hi, fun i => ?_⟩,
    fun idle um slot odometry => ⟨fun i hi => checkAxle_outside idle um slot odometry hi,
      fun i => ?_⟩,
    fun idle e => ⟨fun i hi => checkBogie_outside idle e hi,
      fun i => ⟨checkBogie_fits idle, checkBogie_unfit idle⟩⟩,
    fun e => ⟨fun i hi => checkChannel_outside s e hi, fun i => ⟨checkChannel_bad s i,
      fun low high range => ⟨checkChannel_moves low high range, checkChannel_keeps low high range⟩⟩⟩,
    fun e => ⟨fun i hi => checkGain_outside e hi, fun i => checkGain_eq i e⟩,
    fun f => ⟨fun i hi => checkBeacon_outside s f hi,
      fun i => ⟨checkBeacon_unused s i, checkBeacon_fits, checkBeacon_unfit⟩⟩,
    fun f => ⟨fun i hi => checkParam_outside f hi, checkParam_unfit, fun a0 a1 h0 h1 h => ?_⟩⟩
  · refine ⟨checkSource_unused idle i, fun n hv ⟨sends, fits⟩ =>
      checkSource_fits idle hv ((target_iff f n).mpr sends) fits, fun hv unfit => ?_⟩
    exact checkSource_unfit idle hv fun n ht fits => unfit n ⟨(target_iff f n).mp ht, fits⟩
  · refine ⟨fun h => ?_, fun n ⟨low, high, hn, free⟩ => ?_, fun used unfit => ?_⟩
    · rw [h]
      exact checkAxle_unused idle i slot odometry
    · rw [hn]
      exact checkAxle_fits idle odometry ⟨low, high, free⟩
    · exact checkAxle_unfit idle odometry used fun n hn ⟨low, high, free⟩ =>
        unfit n ⟨low, high, hn, free⟩
  · rw [checkParam_fits (h0 ▸ a0.isLt) (h1 ▸ a1.isLt) h, paramEntry_limitParam h0 h1,
      decide_eq_decide.mpr (limitParam_ne_iff f)]

end Sys2Proof.Proofs

/-! SUPPORT. What a table write leaves (R182 to R186): the answer by its verdict, the slots that a Source Table
write empties (R4), the link that a bogie write restarts (R122), and the channel entry kept in its range
(R107). -/

namespace Sys2Proof.Proofs

open Sys2Proof.Machine

/-! ## The answer to a write (R182, R183, R186) -/

theorem answerWrite_config {s : State} (o : Origin) (r : HeldRequest) (limited : Bool)
    (h : s.sdu.part = .config) : answerWrite s o (.accepted r limited) =
      (applyRequest (if limited then s.setFlag .valueClamp else s) r,
        { result := if limited then .clamped else .done, reason := 0, data := [0],
          confirms := none }) := by
  simp [answerWrite, applyOrPost, h, State.setFlagIf]

theorem answerWrite_posted {s : State} (o : Origin) (r : HeldRequest) (limited : Bool)
    (h : s.sdu.part ≠ .config) (free : s.mrh.posted = none) :
    answerWrite s o (.accepted r limited) =
      ((s.setMrh { s.mrh with posted := some { request := r, sender := o.source } }).setFlagIf
          limited .valueClamp,
        { result := if limited then .clamped else .posted, reason := 0, data := [1],
          confirms := none }) := by
  simp [answerWrite, applyOrPost, h, free]

theorem answerWrite_notReady {s : State} (o : Origin) (r : HeldRequest) (limited : Bool)
    (h : s.sdu.part ≠ .config) (full : s.mrh.posted ≠ none) :
    answerWrite s o (.accepted r limited) = (s, .plain .notReady) := by
  simp [answerWrite, applyOrPost, h, full]

theorem manage_addressed {s : State} {o : Origin} (h : Addressed s o)
    (g : State → State × Reply) : manage s o 2 g =
      finish (g (cancelPrepare s)).1 o 2 (g (cancelPrepare s)).2 := by
  obtain ⟨works, open_, single⟩ := h
  exact manage_accepted s o 2 g (by simp [accepts, works, open_, single])

/-! ## Emptied slots (R4) -/

/-- A Source Table entry that sends items to a slot. -/
def SendsTo (e : Option SourceEntry) (n : SlotTarget) : Prop := ∃ a, e = some a ∧ a.target = n

/-- A Source Table write that leaves node, item, kind and slot of a valid entry (R4). -/
def KeepsSource (old new : Option SourceEntry) : Prop :=
  ∃ a c, old = some a ∧ new = some c ∧ a.node = c.node ∧ a.item = c.item ∧ a.target = c.target

/-- Of the pulse and gap slots exactly those of `P` are emptied, a pulse slot's previous count with it. -/
structure EmptiesExactly (P : SlotTarget → Prop) (s t : State) : Prop where
  pulse : ∀ n : Fin 8, P (.pulse n) → t.sit.pulse[n] = Slot.emptied ∧ t.sit.previous[n] = none
  pulseKept : ∀ n : Fin 8, ¬ P (.pulse n) →
    t.sit.pulse[n] = s.sit.pulse[n] ∧ t.sit.previous[n] = s.sit.previous[n]
  gap : ∀ n : Fin 8, P (.gap n) → t.sit.gap[n] = Slot.emptied
  gapKept : ∀ n : Fin 8, ¬ P (.gap n) → t.sit.gap[n] = s.sit.gap[n]

theorem EmptiesExactly.of_sit {P : SlotTarget → Prop} {s t : State} (h : t.sit = s.sit)
    (none : ∀ n, ¬ P n) : EmptiesExactly P s t :=
  ⟨fun n hn => absurd hn (none _), fun _ _ => by rw [h]; exact ⟨rfl, rfl⟩,
    fun n hn => absurd hn (none _), fun _ _ => by rw [h]⟩

theorem EmptiesExactly.congr {P Q : SlotTarget → Prop} {s s' t t' : State}
    (h : EmptiesExactly P s t) (hs : s'.sit = s.sit) (ht : t'.sit = t.sit) (hPQ : ∀ n, Q n ↔ P n) :
    EmptiesExactly Q s' t' := by
  obtain ⟨pulse, pulseKept, gap, gapKept⟩ := h
  simp only [← hPQ, ← hs, ← ht] at pulse pulseKept gap gapKept
  exact ⟨pulse, pulseKept, gap, gapKept⟩

theorem EmptiesExactly.trans {P Q : SlotTarget → Prop} {s t u : State}
    (first : EmptiesExactly P s t) (second : EmptiesExactly Q t u) :
    EmptiesExactly (fun n => P n ∨ Q n) s u where
  pulse n h := by
    by_cases hq : Q (.pulse n)
    · exact second.pulse n hq
    · rw [(second.pulseKept n hq).1, (second.pulseKept n hq).2]
      exact first.pulse n (h.resolve_right hq)
  pulseKept n h := by
    rw [(second.pulseKept n fun hq => h (.inr hq)).1, (second.pulseKept n fun hq => h (.inr hq)).2]
    exact first.pulseKept n fun hp => h (.inl hp)
  gap n h := by
    by_cases hq : Q (.gap n)
    · exact second.gap n hq
    · rw [second.gapKept n hq]
      exact first.gap n (h.resolve_right hq)
  gapKept n h := by
    rw [second.gapKept n fun hq => h (.inr hq)]
    exact first.gapKept n fun hp => h (.inl hp)

theorem emptySlot_empties (s : State) (target : SlotTarget) :
    EmptiesExactly (target = ·) s (emptySlot s target) := by
  have get {α : Type} (v : Vector α 8) (x : α) (m n : Fin 8) (h : m ≠ n) :
      (v.set m.val x)[n] = v[n] := Vector.getElem_set_ne _ _ fun hv => h (Fin.ext hv)
  cases target with
  | pulse m =>
    refine ⟨fun n h => ?_, fun n h => ?_, fun n h => (nomatch h), fun _ _ => rfl⟩
    · cases h
      simp [emptySlot]
    · have other : m ≠ n := fun hm => h (by rw [hm])
      exact ⟨get _ _ m n other, get _ _ m n other⟩
  | gap m =>
    refine ⟨fun n h => (nomatch h), fun _ _ => ⟨rfl, rfl⟩, fun n h => ?_, fun n h => ?_⟩
    · cases h
      simp [emptySlot]
    · exact get _ _ m n fun hm => h (by rw [hm])
  | beacon m =>
    exact ⟨fun n h => (nomatch h), fun _ _ => ⟨rfl, rfl⟩, fun n h => (nomatch h), fun _ _ => rfl⟩

theorem emptySlotOf_empties (s : State) (e : Option SourceEntry) :
    EmptiesExactly (SendsTo e) s (emptySlotOf s e) := by
  cases e with
  | none => exact .of_sit rfl fun _ ⟨_, h, _⟩ => nomatch h
  | some e =>
    refine (emptySlot_empties s e.target).congr rfl rfl fun n => ?_
    exact ⟨fun ⟨_, ha, ht⟩ => by cases ha; exact ht, fun h => ⟨e, rfl, h⟩⟩

/-- A write that changes no slot assignment: the same assignment, or no entry before and after. -/
theorem sameSource_iff (old new : Option SourceEntry) :
    sameSource old new = true ↔ KeepsSource old new ∨ (old = none ∧ new = none) := by
  cases old <;> cases new <;> simp [sameSource, KeepsSource]

/-- A stored Source Table entry empties the slots of the old and of the new entry, unless it leaves the
assignment as it was (R4). -/
theorem storeSource_empties (s : State) (i : Fin 24) (new : Option SourceEntry) :
    EmptiesExactly (fun n => ¬ KeepsSource s.tables.source[i] new ∧
      (SendsTo s.tables.source[i] n ∨ SendsTo new n)) s (storeSource s i new) := by
  by_cases same : sameSource s.tables.source[i] new = true
  · refine .of_sit (by simp only [storeSource, if_pos same, State.setFlagIf_keeps]; rfl) fun n ⟨changed, sends⟩ => ?_
    obtain ⟨old, gone⟩ := ((sameSource_iff _ _).mp same).resolve_left changed
    rcases sends with ⟨_, ha, _⟩ | ⟨_, ha, _⟩
    · exact nomatch old.symm.trans ha
    · exact nomatch gone.symm.trans ha
  · have changed : ¬ KeepsSource s.tables.source[i] new := fun h =>
      same ((sameSource_iff _ _).mpr (.inl h))
    refine ((emptySlotOf_empties _ s.tables.source[i]).trans (emptySlotOf_empties _ new)).congr
      (s := s.setTables { s.tables with source := s.tables.source.set i.val new }) rfl
      (by simp only [storeSource, if_neg same, State.setFlagIf_keeps]) fun n => ?_
    exact and_iff_right changed

/-! ## What an applied write finds among the other entries (R185, R121) -/

theorem sourceClash_iff (t : Vector (Option SourceEntry) 24) (i : Fin 24)
    (new : Option SourceEntry) :
    (∃ e, new = some e ∧ ∃ (j : Fin 24) (x : SourceEntry), j ≠ i ∧ t[j] = some x ∧
      ((x.node = e.node ∧ x.item = e.item) ∨ x.target = e.target)) ↔
      ¬ ∀ j : Fin 24, j ≠ i → SourceApart t[j] new := by
  constructor
  · rintro ⟨e, he, j, x, hj, hx, same⟩ apart
    obtain ⟨key, slot⟩ := apart j hj x e hx he
    rcases same with ⟨node, item⟩ | target
    · exact key.elim (absurd node) (absurd item)
    · exact slot target
  · intro h
    simp only [SourceApart, not_forall] at h
    obtain ⟨j, hj, x, e, hx, he, same⟩ := h
    exact ⟨e, he, j, x, hj, hx, by tauto⟩

theorem axleClash_iff (t : Vector (Option AxleEntry) 8) (i : Fin 8) (new : Option AxleEntry) :
    (∃ e, new = some e ∧ ∃ (j : Fin 8) (x : AxleEntry), j ≠ i ∧ t[j] = some x ∧ x.slot = e.slot) ↔
      ¬ ∀ j : Fin 8, j ≠ i → AxleApart t[j] new := by
  simp only [AxleApart, not_forall, not_not, exists_prop]
  exact ⟨fun ⟨e, he, j, x, hj, hx, same⟩ => ⟨j, hj, x, e, hx, he, same⟩,
    fun ⟨j, hj, x, e, hx, he, same⟩ => ⟨e, he, j, x, hj, hx, same⟩⟩

theorem beaconClash_iff (t : Vector (Option BeaconEntry) 64) (i : Fin 64)
    (new : Option BeaconEntry) :
    (∃ e, new = some e ∧ ∃ (j : Fin 64) (x : BeaconEntry), j ≠ i ∧ t[j] = some x ∧
      x.ident = e.ident) ↔ ¬ ∀ j : Fin 64, j ≠ i → BeaconApart t[j] new := by
  simp only [BeaconApart, not_forall, not_not, exists_prop]
  exact ⟨fun ⟨e, he, j, x, hj, hx, same⟩ => ⟨j, hj, x, e, hx, he, same⟩,
    fun ⟨j, hj, x, e, hx, he, same⟩ => ⟨e, he, j, x, hj, hx, same⟩⟩

theorem bogieClash_iff (t : Vector BogieEntry 4) (i : Fin 4) (new : BogieEntry) :
    (new.enabled = true ∧ ∃ j : Fin 4, j ≠ i ∧ t[j].enabled = true ∧
      t[j].actuator = new.actuator) ↔ ¬ ∀ j : Fin 4, j ≠ i → BogieApart t[j] new := by
  simp only [BogieApart, not_forall, ne_eq, not_not, exists_prop]
  exact ⟨fun ⟨he, j, hj, hx, same⟩ => ⟨j, hj, hx, he, same⟩,
    fun ⟨j, hj, hx, he, same⟩ => ⟨he, j, hj, hx, same⟩⟩

/-! ## The link of a bogie write (R122) -/

theorem linkFieldsDiffer_iff (old new : BogieEntry) : linkFieldsDiffer old new = true ↔
    old.enabled ≠ new.enabled ∨ old.actuator ≠ new.actuator ∨ old.echoCompare ≠ new.echoCompare := by
  simp only [linkFieldsDiffer, Bool.or_eq_true, decide_eq_true_eq, or_assoc]

theorem restartLink_at (s : State) (b : BogieId) :
    (restartLink s b).als[b] = { Link.initial with excluded := s.als[b].excluded } ∧
    (restartLink s b).rpu = { s.rpu with
      commands := s.rpu.commands.filter fun w => w.bogie ≠ b } := by
  simp [restartLink, withdrawBogie, State.setLink, Link.restarted]

theorem restartLink_other (s : State) {b c : BogieId} (h : c ≠ b) :
    (restartLink s b).als[c] = s.als[c] := by
  have hv : b.val ≠ c.val := fun hv => h (Fin.ext hv.symm)
  simp [restartLink, withdrawBogie, State.setLink, hv]

/-- What a stored bogie entry leaves of the links and of the transmit queues (R122). -/
structure LinkAfter (s t : State) (i : Fin 4) (old new : BogieEntry) : Prop where
  restarted : old.enabled ≠ new.enabled ∨ old.actuator ≠ new.actuator ∨
    old.echoCompare ≠ new.echoCompare →
    t.als[i] = { Link.initial with excluded := s.als[i].excluded } ∧
    t.rpu = { s.rpu with commands := s.rpu.commands.filter fun w => w.bogie ≠ i }
  kept : old.enabled = new.enabled → old.actuator = new.actuator →
    old.echoCompare = new.echoCompare → t.als = s.als ∧ t.rpu = s.rpu
  others : ∀ b : BogieId, b ≠ i → t.als[b] = s.als[b]

theorem storeBogie_link (s : State) (i : Fin 4) (new : BogieEntry) :
    LinkAfter s (storeBogie s i new) i s.tables.bogie[i] new := by
  have differ := linkFieldsDiffer_iff s.tables.bogie[i] new
  by_cases h : linkFieldsDiffer s.tables.bogie[i] new = true
  · have stored : storeBogie s i new = restartLink
        (s.setTables { s.tables with bogie := s.tables.bogie.set i.val new }) i := if_pos h
    rw [stored]
    refine ⟨fun _ => restartLink_at _ i, fun he ha hc => ?_, fun b hb => restartLink_other _ hb⟩
    rcases differ.mp h with n | n | n
    · exact absurd he n
    · exact absurd ha n
    · exact absurd hc n
  · have stored : storeBogie s i new =
        s.setTables { s.tables with bogie := s.tables.bogie.set i.val new } := if_neg h
    rw [stored]
    exact ⟨fun hd => absurd (differ.mpr hd) h, fun _ _ _ => ⟨rfl, rfl⟩, fun _ _ => rfl⟩

/-! ## The channel entry (R107) -/

theorem appliedChannel_kept {s : State} {i : Fin 8} {new : ChannelEntry}
    (h : s.sdu.part = .config ∨ (s.tables.channel[i].codeMin = new.codeMin ∧
      s.tables.channel[i].codeMax = new.codeMax)) : appliedChannel s i new = new := if_pos h

theorem applyChannel_whole {s : State} {i : Fin 8} {new : ChannelEntry}
    (h : s.sdu.part = .config ∨ (s.tables.channel[i].codeMin = new.codeMin ∧
      s.tables.channel[i].codeMax = new.codeMax)) :
    applyChannel s i new =
      s.setTables { s.tables with channel := s.tables.channel.set i.val new } := by
  simp [applyChannel, appliedChannel_kept h, State.setFlagIf]

/-- The entry that a channel write outside CONFIG leaves where its code range differs (R107). -/
def rangeKept (old new : ChannelEntry) : ChannelEntry :=
  { new with
    codeMin := old.codeMin
    codeMax := old.codeMax
    fallback := limitNat old.codeMin old.codeMax new.fallback }

theorem applyChannel_rangeKept {s : State} {i : Fin 8} {new : ChannelEntry}
    (run : s.sdu.part ≠ .config) (moved : ¬ (s.tables.channel[i].codeMin = new.codeMin ∧
      s.tables.channel[i].codeMax = new.codeMax)) :
    applyChannel s i new = (s.setTables { s.tables with
        channel := s.tables.channel.set i.val (rangeKept s.tables.channel[i] new) }).setFlagIf
      (decide ((rangeKept s.tables.channel[i] new).fallback ≠ new.fallback)) .valueClamp := by
  have entry : appliedChannel s i new = rangeKept s.tables.channel[i] new :=
    if_neg fun h => h.elim run moved
  simp only [applyChannel, entry]

/-! ## Answers and stored entries put together -/

/-- An accepted write whose handler answers by a verdict ends with that answer (R186). -/
theorem write_answered {s : State} {o : Origin} (h : Addressed s o) (v : Verdict)
    (g : State → State × Reply) (hg : g (cancelPrepare s) = answerWrite (cancelPrepare s) o v) :
    manage s o 2 g = finish (answerWrite (cancelPrepare s) o v).1 o 2
      (answerWrite (cancelPrepare s) o v).2 := by
  rw [manage_addressed h, hg]

/-- What an applied Source Table write stores and empties (R4, R185). -/
theorem applySource_stored (s : State) (i : Fin 24) (new : Option SourceEntry) :
    ∃ after, ((¬ ∀ j : Fin 24, j ≠ i → SourceApart s.tables.source[j] new) →
        after = none ∧ (applySource s i new).flag .valueClamp = true) ∧
      ((∀ j : Fin 24, j ≠ i → SourceApart s.tables.source[j] new) → after = new) ∧
      (applySource s i new).tables = { s.tables with source := s.tables.source.set i.val after } ∧
      EmptiesExactly (fun n => ¬ KeepsSource s.tables.source[i] after ∧
        (SendsTo s.tables.source[i] n ∨ SendsTo after n)) s (applySource s i new) := by
  by_cases apart : ∀ j : Fin 24, j ≠ i → SourceApart s.tables.source[j] new
  · rw [applySource_of_apart s i new apart]
    exact ⟨new, fun h => absurd apart h, fun _ => rfl, by simp, storeSource_empties s i new⟩
  · rw [applySource_of_clash s i new apart]
    exact ⟨none, fun _ => ⟨rfl, by simp⟩, fun h => absurd h apart, by simp,
      (storeSource_empties s i none).congr rfl (by simp) fun _ => Iff.rfl⟩

/-- What an applied bogie write stores, and what it leaves of the links (R121, R122, R185). -/
theorem applyBogie_stored (s : State) (i : Fin 4) (new : BogieEntry) :
    ∃ after, ((¬ ∀ j : Fin 4, j ≠ i → BogieApart s.tables.bogie[j] new) →
        after = { new with enabled := false } ∧ (applyBogie s i new).flag .valueClamp = true) ∧
      ((∀ j : Fin 4, j ≠ i → BogieApart s.tables.bogie[j] new) → after = new) ∧
      (applyBogie s i new).tables = { s.tables with bogie := s.tables.bogie.set i.val after } ∧
      LinkAfter s (applyBogie s i new) i s.tables.bogie[i] after := by
  by_cases apart : ∀ j : Fin 4, j ≠ i → BogieApart s.tables.bogie[j] new
  · rw [applyBogie_of_apart s i new apart]
    exact ⟨new, fun h => absurd apart h, fun _ => rfl, by simp, storeBogie_link s i new⟩
  · rw [applyBogie_of_clash s i new apart]
    have link := storeBogie_link s i { new with enabled := false }
    exact ⟨{ new with enabled := false }, fun _ => ⟨rfl, by simp⟩, fun h => absurd h apart,
      by simp, link.restarted, link.kept, link.others⟩

/-- Settles O46: each write is answered by the verdict of its owner's checks, and an applied one replaces its
entry. -/
theorem tableWritesAnswered : Obligations.TableWritesAnswered := by
  unfold Obligations.TableWritesAnswered
  constructor
  · intro o index s h u i answered
    have answer (v : Verdict) (g : State → State × Reply) (hg : g u = answerWrite u o v) :
        Host.Outcome.next (manage s o 2 g) =
          (.next (answered v) : Host.Outcome State Fault Refusal) := by
      rw [write_answered h v g hg]
      cases v with
      | refusedState => rfl
      | refusedRange => rfl
      | accepted r limited =>
        have part : u.sdu.part = s.sdu.part := rfl
        have posted : u.mrh.posted = s.mrh.posted := rfl
        by_cases config : s.sdu.part = .config
        · rw [answerWrite_config o r limited (part.trans config)]
          simp only [answered, if_pos config]
        · by_cases free : s.mrh.posted = none
          · rw [answerWrite_posted o r limited (part ▸ config) (posted.trans free)]
            simp only [answered, if_neg config, if_pos free]
            cases limited <;> rfl
          · rw [answerWrite_notReady o r limited (part ▸ config) (posted ▸ free)]
            simp only [answered, if_neg config, if_neg free]
            rfl
    refine ⟨fun w0 w1 => answer _ _ rfl, fun w0 w1 => answer _ _ rfl,
      fun w0 w1 w2 => answer _ _ rfl, fun entry e he => answer _ _ ?_,
      fun w0 w1 => answer _ _ rfl, fun w0 w1 w2 => answer _ _ rfl,
      fun entry f hf => answer _ _ ?_⟩
    · simp only [writeChannelEntry, he]
      rfl
    · simp only [writeParam, hf]
      rfl
  · intro s
    refine ⟨fun i new => ?_, fun i new => ?_, fun i new => ?_, fun i new => ?_, fun i new => ?_,
      fun _ _ => rfl, fun _ => rfl⟩
    · obtain ⟨after, clash, apart, tables, slots⟩ := applySource_stored s i new
      refine ⟨after, fun h => clash ((sourceClash_iff _ i new).mp h),
        fun h => apart (not_not.mp (mt (sourceClash_iff _ i new).mpr h)), tables,
        fun n => ⟨slots.pulse n, slots.pulseKept n, slots.gap n, slots.gapKept n⟩, ?_⟩
      simp [applyRequest]
    · exact ⟨fun h => applyAxle_of_apart s i new (not_not.mp (mt (axleClash_iff _ i new).mpr h)),
        fun h => applyAxle_of_clash s i new ((axleClash_iff _ i new).mp h)⟩
    · exact ⟨fun h => applyBeacon_of_apart s i new
          (not_not.mp (mt (beaconClash_iff _ i new).mpr h)),
        fun h => applyBeacon_of_clash s i new ((beaconClash_iff _ i new).mp h)⟩
    · obtain ⟨after, clash, apart, tables, link⟩ := applyBogie_stored s i new
      refine ⟨after, fun h => clash ((bogieClash_iff _ i new).mp h),
        fun h => apart (not_not.mp (mt (bogieClash_iff _ i new).mpr h)), tables,
        link.restarted, link.kept, link.others, ?_⟩
      simp [applyRequest]
    · refine ⟨applyChannel_whole, fun run moved => ⟨fun same => ?_, fun limited => ?_⟩⟩
      · refine (applyChannel_rangeKept run moved).trans ?_
        have unlimited : ¬ (rangeKept s.tables.channel[i] new).fallback ≠ new.fallback :=
          not_not.mpr same
        rw [decide_eq_false unlimited]
        rfl
      · refine (applyChannel_rangeKept run moved).trans ?_
        have changed : (rangeKept s.tables.channel[i] new).fallback ≠ new.fallback := limited
        rw [decide_eq_true changed]
        rfl

end Sys2Proof.Proofs

/-! SUPPORT. The sizes of the buffers, queues, lists and counters (R22, R24, R31, R32, R71, R154, R159, R160,
R163): one relation between two states, and the operations of the transmit queue and the Segment Cache that
stand in it. -/

namespace Sys2Proof.Proofs

open Sys2Proof.Machine

/-! ## One relation for the two invariants -/

/-- The Ring Port Unit's buffers and queues within their sizes, one COMMAND at most for a bogie (R154, R159,
R160, R163). -/
structure RingFit (r : Rpu) : Prop where
  forward : r.forward.length ≤ 4
  queue : queueLength r ≤ 12
  bogies : (r.commands.map CommandFrame.bogie).Nodup
  count : r.forwardCount ≤ 2
  kept : r.assembler.kept.length ≤ 53

/-- The outstanding fetch table within its size, one entry at most for a segment (R71). -/
structure FetchesFit (es : List FetchEntry) : Prop where
  size : es.length ≤ 4
  segments : (es.map FetchEntry.segment).Nodup

/-- The hold counter, the history, the trail and the route queue within their ranges (R22, R24, R31, R32). -/
structure PositionFit (o : Opu) : Prop where
  hold : o.hold ≤ 9
  history : o.history.length ≤ 8
  trail : o.trail.length ≤ 8
  route : o.route.length ≤ 16

/-- A request whose trail, if it sets the position, is no longer than the trail list. -/
def RequestShort (r : HeldRequest) : Prop :=
  ∀ segment offset trail, r = .positionSet segment offset trail → trail.length ≤ 8

/-- A posted request with a trail that the list can hold. -/
def PostedFit (posted : Option Posted) : Prop := ∀ p, posted = some p → RequestShort p.request

/-- The counts of the reconciliation within their ranges (R48, R49). -/
def ReconciliationFit (b : Bru) : Prop := b.agreement ≤ 2 ∧ b.disagreement ≤ 2

/-- The counts of a link within their ranges (R129, R134, R135). -/
structure LinkFit (l : Link) : Prop where
  mismatch : l.mismatch ≤ 3
  notices : l.notices ≤ 6
  trackLead : l.trackLead ≤ 15
  trackTrail : l.trackTrail ≤ 15

/-- Every link's counts within their ranges. -/
def LinksFit (als : Vector Link 4) : Prop := ∀ b : BogieId, LinkFit als[b]

/-- The cycle counter and the substitute counter within their ranges (R142, R144). -/
def CountersFit (cycle substitutes : Nat) : Prop := cycle ≤ 65535 ∧ substitutes ≤ 65535

theorem queuesBounded_iff (s : State) :
    QueuesBounded s ↔ RingFit s.rpu ∧ FetchesFit s.sgc.outstanding :=
  ⟨fun ⟨h1, h2, h3, h4, h5, h6, h7⟩ => ⟨⟨h1, h2, h3, h4, h5⟩, h6, h7⟩,
   fun ⟨⟨h1, h2, h3, h4, h5⟩, h6, h7⟩ => ⟨h1, h2, h3, h4, h5, h6, h7⟩⟩

theorem countsBounded_iff (s : State) : CountsBounded s ↔
    PositionFit s.opu ∧ ReconciliationFit s.bru ∧ PostedFit s.mrh.posted ∧ LinksFit s.als ∧
    CountersFit s.csu.cycle s.csu.substitutes := by
  constructor
  · rintro ⟨h1, h2, h3, h4, h5, h6, hp, hl, hc⟩
    exact ⟨⟨h1, h2, h3, h4⟩, ⟨h5, h6⟩, fun p hs n o trail hr => hp p n o trail hs hr,
      fun b => have ⟨l1, l2, l3, l4⟩ := hl b; ⟨l1, l2, l3, l4⟩, hc⟩
  · rintro ⟨⟨h1, h2, h3, h4⟩, ⟨h5, h6⟩, hp, hl, hc⟩
    exact ⟨h1, h2, h3, h4, h5, h6, fun p n o trail hs hr => hp p hs n o trail hr,
      fun b => have ⟨l1, l2, l3, l4⟩ := hl b; ⟨l1, l2, l3, l4⟩, hc⟩

/-- What is within its size in `s` is so in `t`, part by part. A part that an operation leaves as it stands
is left to the frame lemmas. -/
structure StaysBounded (s t : State) : Prop where
  ring : RingFit s.rpu → RingFit t.rpu := by simp
  fetches : FetchesFit s.sgc.outstanding → FetchesFit t.sgc.outstanding := by simp
  posted : PostedFit s.mrh.posted → PostedFit t.mrh.posted := by simp
  position : PostedFit s.mrh.posted → PositionFit s.opu → PositionFit t.opu := by simp
  reconciliation : ReconciliationFit s.bru → ReconciliationFit t.bru := by simp
  links : LinksFit s.als → LinksFit t.als := by simp
  counters : CountersFit s.csu.cycle s.csu.substitutes →
    CountersFit t.csu.cycle t.csu.substitutes := by simp

theorem StaysBounded.refl (s : State) : StaysBounded s s := {}

theorem StaysBounded.trans {s t u : State} (h : StaysBounded s t) (k : StaysBounded t u) :
    StaysBounded s u where
  ring := k.ring ∘ h.ring
  fetches := k.fetches ∘ h.fetches
  posted := k.posted ∘ h.posted
  position hp := k.position (h.posted hp) ∘ h.position hp
  reconciliation := k.reconciliation ∘ h.reconciliation
  links := k.links ∘ h.links
  counters := k.counters ∘ h.counters

theorem StaysBounded.queuesBounded {s t : State} (h : StaysBounded s t) (hs : QueuesBounded s) :
    QueuesBounded t := by
  obtain ⟨hr, hf⟩ := (queuesBounded_iff s).mp hs
  exact (queuesBounded_iff t).mpr ⟨h.ring hr, h.fetches hf⟩

theorem StaysBounded.countsBounded {s t : State} (h : StaysBounded s t) (hs : CountsBounded s) :
    CountsBounded t := by
  obtain ⟨ho, hb, hp, hl, hc⟩ := (countsBounded_iff s).mp hs
  exact (countsBounded_iff t).mpr
    ⟨h.position hp ho, h.reconciliation hb, h.posted hp, h.links hl, h.counters hc⟩

/-- An operation that is left out by a test. -/
theorem StaysBounded.ite {s t u : State} (c : Prop) [Decidable c] (ht : StaysBounded s t)
    (hu : StaysBounded s u) : StaysBounded s (if c then t else u) := by
  split
  · exact ht
  · exact hu

theorem setFlag_staysBounded (s : State) (f : Flag) : StaysBounded s (s.setFlag f) := {}

theorem setFlagIf_staysBounded (s : State) (c : Bool) (f : Flag) : StaysBounded s (s.setFlagIf c f) := {}

theorem setSdu_staysBounded (s : State) (x : Sdu) : StaysBounded s (s.setSdu x) := {}

theorem setTables_staysBounded (s : State) (x : Tables) : StaysBounded s (s.setTables x) := {}

theorem setSit_staysBounded (s : State) (x : Sit) : StaysBounded s (s.setSit x) := {}

theorem setSlu_staysBounded (s : State) (x : Slu) : StaysBounded s (s.setSlu x) := {}

theorem setOsu_staysBounded (s : State) (x : Osu) : StaysBounded s (s.setOsu x) := {}

/-- The Ring Port Unit replaced by one within its sizes. -/
theorem setRpu_staysBounded (s : State) {x : Rpu} (h : RingFit s.rpu → RingFit x) :
    StaysBounded s (s.setRpu x) where
  ring := h

/-- The fetch table replaced by one within its size. -/
theorem setSgc_staysBounded (s : State) {x : Sgc}
    (h : FetchesFit s.sgc.outstanding → FetchesFit x.outstanding) : StaysBounded s (s.setSgc x) where
  fetches := h

theorem setCsu_staysBounded (s : State) {x : Csu}
    (h : CountersFit s.csu.cycle s.csu.substitutes → CountersFit x.cycle x.substitutes) :
    StaysBounded s (s.setCsu x) where
  counters := h

theorem setOpu_staysBounded (s : State) {x : Opu} (h : PositionFit s.opu → PositionFit x) :
    StaysBounded s (s.setOpu x) where
  position _ := h

theorem setBru_staysBounded (s : State) {x : Bru} (h : ReconciliationFit s.bru → ReconciliationFit x) :
    StaysBounded s (s.setBru x) where
  reconciliation := h

theorem setMrh_staysBounded (s : State) {x : Mrh} (h : PostedFit s.mrh.posted → PostedFit x.posted) :
    StaysBounded s (s.setMrh x) where
  posted := h

theorem LinksFit.set {als : Vector Link 4} (h : LinksFit als) (b : BogieId) {l : Link} (hl : LinkFit l) :
    LinksFit (als.set b.val l) := by
  intro c
  simp only [Fin.getElem_fin, Vector.getElem_set]
  split
  · exact hl
  · exact h c

theorem setLink_staysBounded (s : State) (b : BogieId) {l : Link} (h : LinkFit s.als[b] → LinkFit l) :
    StaysBounded s (s.setLink b l) where
  links hs := hs.set b (h (hs b))

/-! ## The transmit queue (R160 to R162) -/

theorem offerOther_staysBounded (s : State) (f : OtherFrame) : StaysBounded s (offerOther s f) := by
  by_cases room : queueLength s.rpu < 12
  · rw [offerOther_room s f room]
    refine setRpu_staysBounded s fun h => ⟨h.forward, ?_, h.bogies, h.count, h.kept⟩
    simp only [queueLength, List.length_append, List.length_singleton] at room ⊢
    omega
  · rw [offerOther_full s f (Nat.not_lt.mp room)]
    exact setFlag_staysBounded s _

/-- A COMMAND that takes the place of its bogie's waiting one leaves the bogies of the group as they are. -/
theorem replaced_bogies (commands : List CommandFrame) (c : CommandFrame) :
    (commands.map fun w => if w.bogie = c.bogie then c else w).map CommandFrame.bogie =
      commands.map CommandFrame.bogie := by
  rw [List.map_map]
  refine List.map_congr_left fun w _ => ?_
  simp only [Function.comp_apply]
  split
  · next same => exact same.symm
  · rfl

theorem offerCommand_staysBounded (s : State) (c : CommandFrame) :
    StaysBounded s (offerCommand s c) := by
  cases waits : commandWaits s c.bogie with
  | true =>
    rw [offerCommand_waits s c waits]
    exact setRpu_staysBounded s fun h =>
      ⟨h.forward, by simpa [queueLength] using h.queue, by rw [replaced_bogies]; exact h.bogies,
        h.count, h.kept⟩
  | false =>
    by_cases room : queueLength s.rpu < 12
    · rw [offerCommand_room s c waits room]
      refine setRpu_staysBounded s fun h => ⟨h.forward, ?_, ?_, h.count, h.kept⟩
      · simp only [queueLength, List.length_append, List.length_singleton] at room ⊢
        omega
      · have absent : ∀ w ∈ s.rpu.commands, w.bogie ≠ c.bogie := by
          simpa [commandWaits] using waits
        simpa [List.nodup_append] using ⟨h.bogies, absent⟩
    · rw [offerCommand_full s c waits (Nat.not_lt.mp room)]
      exact setFlag_staysBounded s _

/-- A withdrawal leaves some of the waiting COMMAND frames (R162). -/
theorem RingFit.withdraw {r : Rpu} (h : RingFit r) {commands : List CommandFrame}
    (hc : commands.Sublist r.commands) : RingFit { r with commands := commands } := by
  refine ⟨h.forward, ?_, h.bogies.sublist (hc.map _), h.count, h.kept⟩
  have shorter := hc.length_le
  have held := h.queue
  simp only [queueLength] at held ⊢
  omega

theorem withdrawAll_staysBounded (s : State) : StaysBounded s (withdrawAll s) :=
  setRpu_staysBounded s fun h => h.withdraw (List.nil_sublist _)

theorem withdrawBogie_staysBounded (s : State) (b : BogieId) : StaysBounded s (withdrawBogie s b) :=
  setRpu_staysBounded s fun h => h.withdraw List.filter_sublist

/-! ## Needs (R71 to R73) -/

theorem FetchesFit.sublist {es fs : List FetchEntry} (h : FetchesFit es) (hs : fs.Sublist es) :
    FetchesFit fs :=
  ⟨hs.length_le.trans h.size, h.segments.sublist (hs.map _)⟩

/-- Entries changed in place, each for the segment it was for. -/
theorem FetchesFit.map {es : List FetchEntry} (h : FetchesFit es) {g : FetchEntry → FetchEntry}
    (hg : ∀ e, (g e).segment = e.segment) : FetchesFit (es.map g) := by
  have segments : (es.map g).map FetchEntry.segment = es.map FetchEntry.segment := by
    rw [List.map_map]
    exact List.map_congr_left fun e _ => hg e
  exact ⟨by simpa using h.size, segments ▸ h.segments⟩

theorem freeFetch_staysBounded (s : State) (n : Nat) : StaysBounded s (freeFetch s n) :=
  setSgc_staysBounded s fun h => h.sublist List.filter_sublist

theorem offerFetch_staysBounded (s : State) (n : Need) : StaysBounded s (offerFetch s n) :=
  .ite _ (offerOther_staysBounded s _)
    ((offerOther_staysBounded s _).trans (freeFetch_staysBounded _ _))

theorem mergeFetch_segment (n : Need) (e : FetchEntry) : (mergeFetch n e).segment = e.segment := by
  unfold mergeFetch
  split <;> rfl

theorem outstandingFor_none {s : State} {n : Nat} (h : outstandingFor s n = none) :
    ∀ e ∈ s.sgc.outstanding, e.segment ≠ n := by
  simpa [outstandingFor] using h

/-- A need is merged into its segment's entry, or its entry joins a table of fewer than 4 (R72). -/
theorem makeNeed_staysBounded (s : State) (n : Need) : StaysBounded s (makeNeed s n) := by
  unfold makeNeed
  split
  · next e _ =>
    have merged := setSgc_staysBounded s
      (x := { s.sgc with outstanding := s.sgc.outstanding.map (mergeFetch n) })
      fun h => h.map (mergeFetch_segment n)
    exact .ite _ (.refl s) (merged.trans (offerFetch_staysBounded _ _))
  · next absent =>
    split
    · next room =>
      have created := setSgc_staysBounded s
        (x := { s.sgc with outstanding := s.sgc.outstanding ++
          [{ segment := n.segment, header := n.header, blocks := n.blocks, age := 0 }] })
        fun h => ⟨by simpa [Config.fetchCapacity] using room, by
          simpa [List.nodup_append] using ⟨h.segments, outstandingFor_none absent⟩⟩
      exact created.trans (offerFetch_staysBounded _ n)
    · exact .refl s

theorem makeNeeds_staysBounded (s : State) (ns : List Need) : StaysBounded s (makeNeeds s ns) := by
  unfold makeNeeds
  induction ns generalizing s with
  | nil => exact .refl s
  | cons n ns ih => exact (makeNeed_staysBounded s n).trans (ih _)

theorem makeHeldNeeds_staysBounded (s : State) : StaysBounded s (makeHeldNeeds s) :=
  (makeNeeds_staysBounded s _).trans (setSgc_staysBounded _ id)

/-! ## The Segment Cache -/

@[simp] theorem setCacheSet_outstanding (s : State) (i : Fin 64) (c : CacheSet) :
    (s.setCacheSet i c).sgc.outstanding = s.sgc.outstanding := rfl

@[simp] theorem touchSegment_outstanding (s : State) (n : Nat) :
    (touchSegment s n).sgc.outstanding = s.sgc.outstanding := by
  unfold touchSegment
  split <;> simp

theorem setCacheSet_staysBounded (s : State) (i : Fin 64) (c : CacheSet) :
    StaysBounded s (s.setCacheSet i c) := {}

theorem touchSegment_staysBounded (s : State) (n : Nat) : StaysBounded s (touchSegment s n) := {}

theorem lookupHeader_staysBounded (s : State) (needs : Bool) (n : Nat) :
    StaysBounded s (lookupHeader needs s n).1 := by
  have touched := touchSegment_staysBounded s n
  simp only [lookupHeader]
  split
  · exact touched
  · exact .ite _ (touched.trans (makeNeed_staysBounded _ _)) touched

theorem lookupBlock_staysBounded (s : State) (n : Nat) (k : Fin 8) :
    StaysBounded s (lookupBlock s n k).1 := by
  have touched := touchSegment_staysBounded s n
  have missed (need : Need) := touched.trans (makeNeed_staysBounded _ need)
  simp only [lookupBlock]
  split
  · split
    · exact touched
    · exact missed _
  · exact missed _

theorem deliverItems_staysBounded (s : State) (n : Nat) (mask : BitVec 8) :
    StaysBounded s (deliverItems s n mask) := by
  refine setSgc_staysBounded s fun h => (h.map fun e => ?_).sublist List.filter_sublist
  split <;> rfl

theorem writeLine_staysBounded (s : State) (i : Fin 64) (w : Fin 2) (l : Line) :
    StaysBounded s (writeLine s i w l) := setCacheSet_staysBounded s i _

theorem handleSegment_staysBounded (s : State) (payload : List Word) :
    StaysBounded s (handleSegment s payload) := by
  have clamped (f : SegmentFill) := setFlagIf_staysBounded s f.clamped .valueClamp
  unfold handleSegment
  split
  · exact setFlag_staysBounded s _
  · next f _ =>
    refine (clamped f).trans ?_
    simp only [placeFill]
    split
    · exact (writeLine_staysBounded _ _ _ _).trans
        ((setFlagIf_staysBounded _ _ _).trans (deliverItems_staysBounded _ _ _))
    · unfold fillAbsent
      split
      · exact (writeLine_staysBounded _ _ _ _).trans (deliverItems_staysBounded _ _ _)
      · exact setFlag_staysBounded _ _

theorem timeoutFetch_staysBounded (s : State) (n : Nat) : StaysBounded s (timeoutFetch s n) where
  fetches h := h.sublist (timeoutFetch_sublist s n)

theorem ageFetches_staysBounded (s : State) : StaysBounded s (ageFetches s) := by
  have aged : StaysBounded s (agedFetches s) := setSgc_staysBounded s fun h => h.map fun _ => rfl
  rw [ageFetches_eq]
  refine aged.trans ?_
  generalize agedFetches s = t
  generalize t.sgc.outstanding = es
  induction es generalizing t with
  | nil => exact .refl t
  | cons e es ih => exact (timeoutFetch_staysBounded t e.segment).trans (ih _)

theorem handleReturnedFetch_staysBounded (s : State) (n : Option Nat) :
    StaysBounded s (handleReturnedFetch s n) := by
  cases n with
  | none => exact setFlag_staysBounded s _
  | some n => exact (freeFetch_staysBounded s n).trans (setFlag_staysBounded _ _)

theorem invalidateSegment_staysBounded (s : State) (n : Nat) :
    StaysBounded s (invalidateSegment s n) := by
  simp only [invalidateSegment]
  split
  · exact (setCacheSet_staysBounded s _ _).trans (freeFetch_staysBounded _ n)
  · exact freeFetch_staysBounded s n

theorem invalidateAll_staysBounded (s : State) : StaysBounded s (invalidateAll s) :=
  setSgc_staysBounded s fun _ => ⟨by simp, by simp⟩

end Sys2Proof.Proofs

/-! SUPPORT. Resets and the path of a request, the reads of the steering computation and the position update
keep the sizes (R22, R24, R31, R32, R48, R49). -/

namespace Sys2Proof.Proofs

open Sys2Proof.Machine

/-! ## Resets, and the path of a request -/

theorem ringFit_resetRpu (r : Rpu) (straps : Addr) : RingFit (resetRpu r straps) where
  forward := Nat.zero_le _
  queue := Nat.zero_le _
  bogies := .nil
  count := Nat.zero_le _
  kept := Nat.zero_le _

theorem linkFit_initial : LinkFit Link.initial := ⟨by decide, by decide, by decide, by decide⟩

theorem reset_staysBounded (s : State) (straps : Addr) (cause : ResetCause) (tables : Tables) :
    StaysBounded s (resetPart s straps cause tables) where
  ring _ := by simpa using ringFit_resetRpu s.rpu straps
  fetches _ := ⟨by simp [Sgc.initial], by simp [Sgc.initial]⟩
  posted _ := by simp [Mrh.initial, PostedFit]
  position _ _ := ⟨by simp [Opu.initial], by simp [Opu.initial], by simp [Opu.initial],
    by simp [Opu.initial]⟩
  reconciliation _ := by simp [Bru.initial, ReconciliationFit]
  links _ b := by simpa using linkFit_initial
  counters _ := by simp [Csu.initial, CountersFit]

theorem sendReply_staysBounded (s : State) (o : Origin) (function : Nat) (r : Reply) :
    StaysBounded s (sendReply s o function r) := by
  have offered := offerOther_staysBounded s (.reply (replyFrame s o function r))
  simp only [sendReply]
  refine .ite _ (.refl s) ?_
  split
  · exact .ite _ offered (offered.trans (reset_staysBounded _ _ _ _))
  · exact offered

theorem managementKeepAlive_staysBounded (s : State) : StaysBounded s (managementKeepAlive s) := {}

/-- A request's handling that keeps the sizes. -/
def HandlerBounded (g : State → State × Reply) : Prop := ∀ s, StaysBounded s (g s).1

/-- A handler that leaves the state as it stands. -/
theorem HandlerBounded.of_fst {g : State → State × Reply} (h : ∀ s, (g s).1 = s) : HandlerBounded g :=
  fun s => (h s).symm ▸ .refl s

theorem HandlerBounded.ite (c : Prop) [Decidable c] {g h : State → State × Reply}
    (hg : HandlerBounded g) (hh : HandlerBounded h) : HandlerBounded (if c then g else h) := by
  split
  · exact hg
  · exact hh

theorem withoutData_bounded {g : State → State × Reply} (hg : HandlerBounded g) (data : List Word) :
    HandlerBounded (withoutData g data) := by
  intro s
  unfold withoutData
  split
  · exact hg s
  · exact .refl s

theorem manage_staysBounded (s : State) (o : Origin) (function : Nat) {g : State → State × Reply}
    (hg : HandlerBounded g) : StaysBounded s (manage s o function g) := by
  have cancelled : StaysBounded s (cancelPrepare s) := {}
  exact .ite _ (cancelled.trans ((hg _).trans ((sendReply_staysBounded _ o function _).trans
    (managementKeepAlive_staysBounded _)))) (.refl s)

/-! ## Route queue (R32, R33) -/

theorem appendRoute_bounded (count : Nat) (data : List Word) :
    HandlerBounded (appendRoute count data) := by
  intro s
  unfold appendRoute
  split
  · next fits =>
    simp only [Bool.and_eq_true, decide_eq_true_eq] at fits
    obtain ⟨⟨⟨⟨length, -⟩, -⟩, -⟩, room⟩ := fits
    refine setOpu_staysBounded s fun h => ⟨h.hold, h.history, h.trail, ?_⟩
    simp only [List.length_append, List.length_map, wordPairs_length, Config.routeCapacity] at room ⊢
    omega
  · exact .refl s

theorem clearRoute_bounded : HandlerBounded clearRoute :=
  fun s => setOpu_staysBounded s fun h => ⟨h.hold, h.history, h.trail, Nat.zero_le _⟩

/-! ## Reads of the steering computation, and walks -/

theorem takeArrival_staysBounded (s : State) (a : Arrival) : StaysBounded s (takeArrival s a) := by
  cases a with
  | segment frame => exact .ite _ (.refl s) (handleSegment_staysBounded s _)
  | routeAppend o count data => exact manage_staysBounded s o 6 (appendRoute_bounded _ data)
  | routeClear o data => exact manage_staysBounded s o 7 (withoutData_bounded clearRoute_bounded data)

theorem takeArrivals_staysBounded (s : State) (as : List Arrival) :
    StaysBounded s (as.foldl takeArrival s) := by
  induction as generalizing s with
  | nil => exact .refl s
  | cons a as ih => exact (takeArrival_staysBounded s a).trans (ih _)

theorem takeWithin_staysBounded (s : State) : StaysBounded s (takeWithin s) := by
  unfold takeWithin
  split
  · exact .refl s
  · next now later _ =>
    have taken : StaysBounded s (s.setWithin later) := {}
    exact taken.trans (takeArrivals_staysBounded _ now)

theorem steeringHeader_staysBounded (s : State) (n : Nat) :
    StaysBounded s (steeringHeader s n).1 :=
  (takeWithin_staysBounded s).trans (lookupHeader_staysBounded _ true n)

theorem steeringBlock_staysBounded (s : State) (n : Nat) (k : Fin 8) :
    StaysBounded s (steeringBlock s n k).1 :=
  (takeWithin_staysBounded s).trans (lookupBlock_staysBounded _ n k)

theorem walkerHeader_staysBounded (s : State) (w : Walker) (n : Nat) :
    StaysBounded s (w.header s n).1 :=
  match w with
  | .segmentCache => lookupHeader_staysBounded s false n
  | .beacon => lookupHeader_staysBounded s true n
  | .steering => steeringHeader_staysBounded s n

theorem walkFrom_staysBounded (s : State) (w : Walker) (fuel : Nat) (place : Place)
    (segment off dist : Nat) (gone : Int) :
    StaysBounded s (walkFrom w fuel s place segment off dist gone).state := by
  induction fuel generalizing s place segment off dist gone with
  | zero => exact .refl s
  | succ fuel ih =>
    have looked := walkerHeader_staysBounded s w segment
    unfold walkFrom
    dsimp only
    split
    · split
      · exact .refl s
      · split
        · exact .refl s
        · split
          · split
            · exact .refl s
            · exact ih ..
          · split
            · exact .refl s
            · exact ih ..
    · split
      · exact looked
      · split
        · exact looked
        · split
          · exact looked
          · exact looked.trans (ih ..)

theorem walk_staysBounded (s : State) (w : Walker) (start : RoutePoint) (dist : Nat) :
    StaysBounded s (walk w s start dist).state := walkFrom_staysBounded s w _ _ _ _ _ _

/-! ## The steering law -/

theorem readPoint_staysBounded (s : State) (n x : Nat) : StaysBounded s (readPoint s n x).1 := by
  have looked := steeringHeader_staysBounded s n
  simp only [readPoint]
  split
  · exact looked
  · split
    · exact looked
    · exact looked.trans (steeringBlock_staysBounded _ _ _)

theorem neighbour_staysBounded (s : State) (pt : RoutePoint) (d : PointData) :
    StaysBounded s (neighbour s pt d).1 := by
  have walked := walk_staysBounded s .steering pt (d.length - pt.offset)
  simp only [neighbour, neighbourBeyond]
  split
  · split
    · exact .refl s
    · exact steeringBlock_staysBounded s _ _
  · split
    · exact walked
    · split
      · exact walked
      · exact walked.trans (steeringBlock_staysBounded _ _ _)

theorem curvatureReading_staysBounded (s : State) (pt : RoutePoint) :
    StaysBounded s (curvatureReading s pt).1 := by
  have read := readPoint_staysBounded s pt.segment pt.offset
  simp only [curvatureReading]
  split
  · exact read
  · split
    · exact read
    · exact read.trans (neighbour_staysBounded _ _ _)

theorem channelCurvature_staysBounded (s : State) (axle : RoutePoint) (distance : Nat) :
    StaysBounded s (channelCurvature s axle distance).1 := by
  have walked := walk_staysBounded s .steering axle distance
  have ahead : StaysBounded s (match (walk .steering s axle distance).stop with
      | some p => curvatureReading (walk .steering s axle distance).state p
      | none => ((walk .steering s axle distance).state, none)).1 := by
    split
    · exact walked.trans (curvatureReading_staysBounded _ _)
    · exact walked
  have back := ahead.trans (curvatureReading_staysBounded _ axle)
  simp only [channelCurvature]
  split
  · exact ahead
  · split
    · exact back
    · exact back

theorem writeChannel_staysBounded (s : State) (c : ChannelId) (theta : Int) (r : ChannelRecord) :
    StaysBounded s (writeChannel s c theta r) :=
  (setSlu_staysBounded s _).trans (setFlagIf_staysBounded _ _ _)

theorem computeChannel_staysBounded (s : State) (c : ChannelId) (semi : Nat) (axle : RoutePoint) :
    StaysBounded s (computeChannel s c semi axle).1 := by
  have read := readPoint_staysBounded s axle.segment axle.offset
  simp only [computeChannel]
  split
  · exact read.trans ((channelCurvature_staysBounded _ _ _).trans (writeChannel_staysBounded _ _ _ _))
  · exact read.trans ((channelCurvature_staysBounded _ _ _).trans (writeChannel_staysBounded _ _ _ _))

theorem storeBogieState_staysBounded (s : State) (b : BogieId) (x : BogieState) :
    StaysBounded s (storeBogieState s b x) :=
  (setSlu_staysBounded s _).trans (setFlagIf_staysBounded _ _ _)

theorem determine_staysBounded (s : State) (b : BogieId) : StaysBounded s (determine s b) := by
  have stored (t : State) (x : BogieState) := storeBogieState_staysBounded t b x
  simp only [determine]
  split
  · exact ((setSlu_staysBounded s _).trans (setSlu_staysBounded _ _)).trans (stored _ _)
  split
  · exact ((setSlu_staysBounded s _).trans (setSlu_staysBounded _ _)).trans (stored _ _)
  split
  · exact ((writeChannel_staysBounded s _ _ _).trans (writeChannel_staysBounded _ _ _ _)).trans
      (stored _ _)
  split
  · exact ((computeChannel_staysBounded s _ _ _).trans (computeChannel_staysBounded _ _ _ _)).trans
      (stored _ _)
  · exact ((setSlu_staysBounded s _).trans (setSlu_staysBounded _ _)).trans (stored _ _)

theorem handOn_staysBounded (s : State) (b : BogieId) : StaysBounded s (handOn s b) :=
  .ite _ ((setOsu_staysBounded s _).trans (setCsu_staysBounded _ id)) (.refl s)

/-! ## The stages of the position update -/

/-- The position given up: no trail, the counts of the reconciliation 0 (R30, R52). -/
theorem enterLost_staysBounded (s : State) : StaysBounded s (enterLost s) := by
  refine ((setOpu_staysBounded s ?_).trans (setBru_staysBounded _ ?_)).trans (setFlag_staysBounded _ _)
  · exact fun h => ⟨h.hold, h.history, Nat.zero_le _, h.route⟩
  · exact fun _ => ⟨Nat.zero_le _, Nat.zero_le _⟩

theorem raisedHold_le {n : Nat} (h : n ≤ 9) : raisedHold n ≤ 9 := by
  unfold raisedHold
  split
  · next below => exact below
  · exact h

theorem uncounted_staysBounded (s : State) : StaysBounded s (uncounted s) := by
  have raised := setOpu_staysBounded s (x := { s.opu with hold := raisedHold s.opu.hold })
    fun h => ⟨raisedHold_le h.hold, h.history, h.trail, h.route⟩
  have zero (t : State) := setOpu_staysBounded t (x := { t.opu with lastDistance := 0 })
    fun h => ⟨h.hold, h.history, h.trail, h.route⟩
  refine .trans ?_ (setFlag_staysBounded _ .odoHold)
  exact .ite _ raised (.ite _ (raised.trans (zero _))
    (raised.trans ((zero _).trans (enterLost_staysBounded _))))

theorem odometryStage_staysBounded (s : State) : StaysBounded s (odometryStage s) := by
  have flagged := setFlagIf_staysBounded s (axleExcluded (increments s)) .axleExcluded
  simp only [odometryStage]
  split
  · refine (flagged.trans (setOpu_staysBounded _ ?_)).trans (setSit_staysBounded _ _)
    exact fun h => ⟨Nat.zero_le _, h.history, h.trail, h.route⟩
  · exact (flagged.trans (uncounted_staysBounded _)).trans (setSit_staysBounded _ _)

theorem speedStage_staysBounded (s : State) : StaysBounded s (speedStage s) :=
  setOpu_staysBounded s fun h => ⟨h.hold, by simp [Config.historyCapacity], h.trail, h.route⟩

theorem leaveSegment_staysBounded (s : State) (n : Nat) (h : Header) :
    StaysBounded s (leaveSegment s n h) := by
  have pushed (e : TrailEntry) : (pushTrail s.opu.trail e).length ≤ 8 := by
    simp [pushTrail, Config.trailCapacity]
  have left (route : List RouteEntry) (hr : route.length ≤ s.opu.route.length) :
      StaysBounded s (s.setOpu { s.opu with
        trail := pushTrail s.opu.trail { segment := n, length := h.length }, route := route }) :=
    setOpu_staysBounded s fun h => ⟨h.hold, h.history, pushed _, hr.trans h.route⟩
  exact .ite _ (left _ le_rfl) (.ite _ (left _ (by simp))
    ((left _ le_rfl).trans (setFlag_staysBounded _ _)))

theorem setPosition_staysBounded (s : State) (p : Option Located) :
    StaysBounded s (s.setOpu { s.opu with position := p }) :=
  setOpu_staysBounded s fun h => ⟨h.hold, h.history, h.trail, h.route⟩

theorem reachEnd_staysBounded (s : State) (p : Located) (h : Header) :
    StaysBounded s (reachEnd s p h) :=
  .ite _ (enterLost_staysBounded s) (setPosition_staysBounded s _)

theorem advanceFrom_staysBounded (s : State) (fuel : Nat) : StaysBounded s (advanceFrom fuel s) := by
  induction fuel generalizing s with
  | zero => exact .refl s
  | succ fuel ih =>
    unfold advanceFrom
    split
    · exact .refl s
    · next p _ =>
      have looked := lookupHeader_staysBounded s true p.segment
      dsimp only
      split
      · exact looked
      · exact .ite _ looked (.ite _ (looked.trans (reachEnd_staysBounded _ _ _))
          (looked.trans ((leaveSegment_staysBounded _ _ _).trans
            ((setPosition_staysBounded _ _).trans (ih _)))))

theorem offsetOverflow_staysBounded (s : State) : StaysBounded s (offsetOverflow s) := by
  unfold offsetOverflow
  split
  · exact .ite _ (enterLost_staysBounded s) (.refl s)
  · exact .refl s

theorem advanceStage_staysBounded (s : State) : StaysBounded s (advanceStage s) := by
  unfold advanceStage
  split
  · exact .refl s
  · exact .ite _ ((setPosition_staysBounded s _).trans (setFlag_staysBounded _ _))
      ((setPosition_staysBounded s _).trans ((advanceFrom_staysBounded _ _).trans
        (offsetOverflow_staysBounded _)))

/-! ## Reconciliation with a beacon (R45 to R51) -/

theorem driftStage_staysBounded (s : State) : StaysBounded s (driftStage s) := by
  unfold driftStage
  split
  · exact .refl s
  · refine (setBru_staysBounded s ?_).trans (setPosition_staysBounded _ _)
    exact id

theorem derivedPosition_staysBounded (s : State) (n : Fin 2) (e : BeaconEntry) (latched : Int) :
    StaysBounded s (derivedPosition s n e latched).1 := by
  simp only [derivedPosition]
  split
  · exact .refl s
  · split
    · exact walk_staysBounded s _ _ _
    · split <;> exact .refl s

theorem searchAhead_staysBounded (s : State) (fuel : Nat) (place : Place) (segment off dist : Nat)
    (gone : Int) (target : Nat) :
    StaysBounded s (searchAhead fuel s place segment off dist gone target).state := by
  induction fuel generalizing s place segment off dist gone with
  | zero => exact .refl s
  | succ fuel ih =>
    have looked := lookupHeader_staysBounded s true segment
    unfold searchAhead
    dsimp only
    split
    · exact looked
    split
    · exact looked
    split
    · exact looked
    split
    · exact looked
    · exact looked.trans (ih ..)

theorem relate_staysBounded (s : State) (p : Located) (d : Derived) :
    StaysBounded s (relate s p d).1 := by
  have searched := searchAhead_staysBounded s (walkFuel (mm p.offset) s.tables.param.window) .current
    p.segment (mm p.offset) s.tables.param.window (-(p.offset : Int)) d.segment
  simp only [relate]
  split
  · exact .refl s
  · split
    · exact .refl s
    · split <;> exact searched

theorem writeReport_staysBounded (s : State) (o : BeaconOutcome) (ident : Nat) (error : Option Int) :
    StaysBounded s (writeReport s o ident error) := setBru_staysBounded s id

theorem adopt_staysBounded (s : State) (d : Derived) : StaysBounded s (adopt s d) := by
  refine (setOpu_staysBounded s ?_).trans (setBru_staysBounded _ ?_)
  · exact fun h => ⟨h.hold, h.history, Nat.zero_le _, h.route⟩
  · exact fun h => ⟨h.1, Nat.zero_le _⟩

theorem leaveSegments_staysBounded (s : State) (passed : List (Nat × Header)) :
    StaysBounded s (leaveSegments s passed) := by
  unfold leaveSegments
  induction passed generalizing s with
  | nil => exact .refl s
  | cons x rest ih => exact (leaveSegment_staysBounded s x.1 x.2).trans (ih _)

theorem correct_staysBounded (s : State) (p : Located) (d : Derived) (r : Relation) :
    StaysBounded s (correct s p d r) := by
  cases r with
  | notFound => exact .refl s
  | same | behind => exact setPosition_staysBounded s _
  | ahead e passed =>
    exact (leaveSegments_staysBounded s passed).trans (setPosition_staysBounded _ _)

theorem raisedCount_le (n : Nat) : raisedCount n ≤ 2 := by
  unfold raisedCount
  split <;> omega

theorem agree_staysBounded (s : State) (p : Located) (d : Derived) (r : Relation) (ident : Nat) :
    StaysBounded s (agree s p d r ident) :=
  (correct_staysBounded s p d r).trans
    ((setBru_staysBounded _ fun _ => ⟨raisedCount_le _, Nat.zero_le _⟩).trans
      ((setPosition_staysBounded _ _).trans (writeReport_staysBounded _ _ _ _)))

theorem disagree_staysBounded (s : State) (d : Option Derived) (error : Option Int) (ident : Nat) :
    StaysBounded s (disagree s d error ident) := by
  have counted := (setBru_staysBounded s (x := { s.bru with
    agreement := 0, disagreement := raisedCount s.bru.disagreement })
    fun _ => ⟨Nat.zero_le _, raisedCount_le _⟩).trans (setFlag_staysBounded _ .beaconDisagree)
  have reported := counted.trans (writeReport_staysBounded _ .disagreed ident error)
  unfold disagree
  split
  · exact .ite _ (counted.trans ((adopt_staysBounded _ _).trans (writeReport_staysBounded _ _ _ _)))
      reported
  · exact reported

theorem handleLost_staysBounded (s : State) (d : Option Derived) (ident : Nat) :
    StaysBounded s (handleLost s d ident) := by
  cases d with
  | none => exact (setFlag_staysBounded s _).trans (writeReport_staysBounded _ _ _ _)
  | some d =>
    refine (adopt_staysBounded s d).trans
      ((setBru_staysBounded _ ?_).trans (writeReport_staysBounded _ _ _ _))
    exact fun h => ⟨Nat.zero_le _, h.2⟩

theorem handleKnown_staysBounded (s : State) (n : Fin 2) (e : BeaconEntry) (b : PendingBeacon) :
    StaysBounded s (handleKnown s n e b) := by
  have derived := derivedPosition_staysBounded s n e b.latched
  unfold handleKnown
  dsimp only
  split
  · exact derived.trans (handleLost_staysBounded _ _ _)
  · next p _ =>
    split
    · exact derived.trans (disagree_staysBounded _ _ _ _)
    · next d _ =>
      have related := derived.trans (relate_staysBounded _ p d)
      exact .ite _ (related.trans (agree_staysBounded _ _ _ _ _))
        (related.trans (disagree_staysBounded _ _ _ _))

theorem clearReader_staysBounded (s : State) (n : Fin 2) : StaysBounded s (clearReader s n) :=
  setBru_staysBounded s id

theorem handleReader_staysBounded (s : State) (n : Fin 2) : StaysBounded s (handleReader s n) := by
  unfold handleReader
  split
  · exact .refl s
  · split
    · exact (setFlag_staysBounded s _).trans
        ((writeReport_staysBounded _ _ _ _).trans (clearReader_staysBounded _ n))
    · exact (handleKnown_staysBounded s n _ _).trans (clearReader_staysBounded _ n)

/-! ## The position update whole -/

theorem placementStage_staysBounded (s : State) : StaysBounded s (placementStage s) :=
  setOpu_staysBounded s fun h => ⟨h.hold, h.history, h.trail, h.route⟩

theorem recomputeInUse_staysBounded (s : State) : StaysBounded s (recomputeInUse s) := by
  unfold recomputeInUse
  split
  · exact setSgc_staysBounded s id
  · exact (walk_staysBounded s _ _ _).trans (setSgc_staysBounded _ id)

theorem windowReport_staysBounded (s : State) : StaysBounded s (windowReport s) :=
  .ite _ (setSlu_staysBounded s _)
    ((setSlu_staysBounded s _).trans (makeHeldNeeds_staysBounded _))

theorem positionUpdate_staysBounded (s : State) : StaysBounded s (positionUpdate s) := by
  have begun : StaysBounded s (s.setOpu { s.opu with updateDue := false }) :=
    setOpu_staysBounded s fun h => ⟨h.hold, h.history, h.trail, h.route⟩
  have moved := (begun.trans (odometryStage_staysBounded _)).trans
    ((speedStage_staysBounded _).trans (advanceStage_staysBounded _))
  have reconciled := moved.trans ((driftStage_staysBounded _).trans
    ((handleReader_staysBounded _ 0).trans (handleReader_staysBounded _ 1)))
  exact reconciled.trans ((placementStage_staysBounded _).trans
    ((recomputeInUse_staysBounded _).trans (windowReport_staysBounded _)))

end Sys2Proof.Proofs

/-! SUPPORT. The actuator links, the cycle, the requests and the frames keep the sizes (R129, R134, R135, R142,
R144, R154, R159, R163); with that every step does. -/

namespace Sys2Proof.Proofs

open Sys2Proof.Machine

/-! ## Builds and offers (R113, R116, R124, R125) -/

theorem issueFrame_staysBounded (s : State) (f : CommandFrame) : StaysBounded s (issueFrame s f) := {}

theorem copyError_staysBounded (s : State) (b : BogieId) : StaysBounded s (copyError s b) := by
  refine .trans ?_ (withdrawBogie_staysBounded _ b)
  exact {}

theorem build_staysBounded (s : State) (b : BogieId) (pair : CodePair) :
    StaysBounded s (build s b pair) := by
  unfold build
  split
  · have offered := offerCommand_staysBounded s (commandFor s b pair)
    dsimp only
    split
    · refine offered.trans (setLink_staysBounded _ b ?_)
      simpa using fun h => ⟨h.mismatch, h.notices, h.trackLead, h.trackTrail⟩
    · refine offered.trans (setLink_staysBounded _ b ?_)
      simpa using fun h => ⟨h.mismatch, h.notices, h.trackLead, h.trackTrail⟩
  · refine (copyError_staysBounded s b).trans (setLink_staysBounded _ b ?_)
    simpa using fun h => ⟨Nat.zero_le _, h.notices, h.trackLead, h.trackTrail⟩

theorem takeOffer_staysBounded (s : State) (b : BogieId) (offer : Option CodePair) :
    StaysBounded s (takeOffer s b offer) := by
  cases offer with
  | none => exact .refl s
  | some pair =>
    refine .ite _ (.refl s) (.ite _ (setLink_staysBounded s b ?_) (build_staysBounded s b pair))
    exact fun h => ⟨h.mismatch, h.notices, h.trackLead, h.trackTrail⟩

/-! ## Echoes (R127 to R129, R133 to R135) -/

theorem trackedCount_le (s : State) (c : ChannelId) (measured count : Nat) :
    trackedCount s c measured count ≤ 15 := by
  unfold trackedCount
  split
  · exact Nat.min_le_right _ _
  · exact Nat.zero_le _

theorem storeEcho_staysBounded (s : State) (b : BogieId) (e : Echo) :
    StaysBounded s (storeEcho s b e) := by
  refine (setLink_staysBounded s b ?_).trans
    ((setFlagIf_staysBounded _ _ _).trans (setFlagIf_staysBounded _ _ _))
  exact fun h => ⟨h.mismatch, h.notices, trackedCount_le _ _ _ _, trackedCount_le _ _ _ _⟩

theorem answerEqual_staysBounded (s : State) (b : BogieId) : StaysBounded s (answerEqual s b) := by
  have ended := setLink_staysBounded s b (l := { s.als[b] with mismatch := 0, outstanding := none })
    fun h => ⟨Nat.zero_le _, h.notices, h.trackLead, h.trackTrail⟩
  unfold answerEqual
  dsimp only
  split
  · exact ended.trans (build_staysBounded _ b _)
  · exact ended

theorem answerDiffers_staysBounded (s : State) (b : BogieId) (o : Outstanding) :
    StaysBounded s (answerDiffers s b o) := by
  have flagged := setFlag_staysBounded s .echoMismatch
  unfold answerDiffers
  dsimp only
  split
  · next third =>
    refine (flagged.trans (setLink_staysBounded _ b ?_)).trans (build_staysBounded _ b _)
    simpa using fun h => ⟨third.le, h.notices, h.trackLead, h.trackTrail⟩
  · refine (flagged.trans (setLink_staysBounded _ b ?_)).trans
      ((setFlag_staysBounded _ _).trans (withdrawBogie_staysBounded _ b))
    simpa using fun h => ⟨le_rfl, h.notices, h.trackLead, h.trackTrail⟩

theorem compareAnswer_staysBounded (s : State) (b : BogieId) (tag : Tag) (e : Echo) :
    StaysBounded s (compareAnswer s b tag e) := by
  unfold compareAnswer
  split
  · exact .refl s
  · exact .ite _ (.ite _ (answerEqual_staysBounded s b) (answerDiffers_staysBounded s b _)) (.refl s)

theorem handleAnswer_staysBounded (s : State) (source : Addr) (tag : Tag) (e : Echo) :
    StaysBounded s (handleAnswer s source tag e) := by
  unfold handleAnswer
  split
  · exact .refl s
  · next b _ =>
    refine (setLink_staysBounded s b ?_).trans
      ((storeEcho_staysBounded _ b e).trans (compareAnswer_staysBounded _ b tag e))
    exact fun h => ⟨h.mismatch, Nat.zero_le _, h.trackLead, h.trackTrail⟩

/-- The notice count is raised up to 5, and stands at 6 from the sixth notice on (R135). -/
theorem handleNotice_staysBounded (s : State) (source : Addr) (e : Echo) :
    StaysBounded s (handleNotice s source e) := by
  unfold handleNotice
  split
  · exact .refl s
  · next b _ =>
    refine .ite _ (.refl s) ?_
    split
    · next few =>
      refine (setLink_staysBounded s b ?_).trans (storeEcho_staysBounded _ b e)
      exact fun h => ⟨h.mismatch, Nat.succ_le_of_lt (few.trans (by decide)), h.trackLead, h.trackTrail⟩
    · refine (setLink_staysBounded s b ?_).trans (setFlag_staysBounded _ _)
      exact fun h => ⟨h.mismatch, le_rfl, h.trackLead, h.trackTrail⟩

/-! ## Timeout, return, restart and part states (R122, R130, R131, R136, R137) -/

/-- A change of every link that keeps the counts of each. -/
theorem setAls_staysBounded (s : State) {x : Vector Link 4}
    (h : ∀ b : BogieId, LinkFit s.als[b] → LinkFit x[b]) : StaysBounded s (s.setAls x) where
  links hs b := h b (hs b)

theorem timeoutLink_staysBounded (s : State) (b : BogieId) : StaysBounded s (timeoutLink s b) := by
  unfold timeoutLink
  split
  · refine .ite _ ((setLink_staysBounded s b ?_).trans (setFlag_staysBounded _ _)) (.refl s)
    exact fun h => ⟨h.mismatch, h.notices, h.trackLead, h.trackTrail⟩
  · exact .refl s

theorem ageLinks_staysBounded (s : State) : StaysBounded s (ageLinks s) := by
  have aged : StaysBounded s (agedLinks s) := setAls_staysBounded s fun b h => by
    simpa using ⟨h.mismatch, h.notices, h.trackLead, h.trackTrail⟩
  refine aged.trans ?_
  show StaysBounded (agedLinks s) ((List.finRange 4).foldl timeoutLink (agedLinks s))
  generalize agedLinks s = t
  generalize List.finRange 4 = bs
  induction bs generalizing t with
  | nil => exact .refl t
  | cons b bs ih => exact (timeoutLink_staysBounded t b).trans (ih _)

theorem handleReturnedCommand_staysBounded (s : State) (d : Addr) :
    StaysBounded s (handleReturnedCommand s d) := by
  have flagged := setFlag_staysBounded s .actAbsent
  unfold handleReturnedCommand
  dsimp only
  split
  · exact flagged
  · refine flagged.trans (setLink_staysBounded _ _ ?_)
    simpa using fun h => ⟨h.mismatch, h.notices, h.trackLead, h.trackTrail⟩

theorem restartLink_staysBounded (s : State) (b : BogieId) : StaysBounded s (restartLink s b) := by
  refine (setLink_staysBounded s b ?_).trans
    ((withdrawBogie_staysBounded _ b).trans (setFlagIf_staysBounded _ _ _))
  exact fun _ => ⟨linkFit_initial.mismatch, linkFit_initial.notices, linkFit_initial.trackLead,
    linkFit_initial.trackTrail⟩

theorem endLinks_staysBounded (s : State) : StaysBounded s (endLinks s) := by
  refine (setAls_staysBounded s fun b h => ?_).trans (withdrawAll_staysBounded _)
  simpa using ⟨Nat.zero_le _, h.notices, h.trackLead, h.trackTrail⟩

theorem fallbackLinks_staysBounded (s : State) : StaysBounded s (fallbackLinks s) := by
  refine (setAls_staysBounded s fun b h => ?_).trans (withdrawAll_staysBounded _)
  simp only [Fin.getElem_fin, Vector.getElem_ofFn]
  split
  · exact ⟨h.mismatch, h.notices, h.trackLead, h.trackTrail⟩
  · exact h

theorem leaveIfActive_staysBounded (s : State) : StaysBounded s (leaveIfActive s) :=
  .ite _ (setSlu_staysBounded s _) (.refl s)

theorem endLookupsIfLeft_staysBounded (was : PartState) (s : State) :
    StaysBounded s (endLookupsIfLeft was s) := .ite _ (makeHeldNeeds_staysBounded s) (.refl s)

theorem enterConfig_staysBounded (s : State) : StaysBounded s (enterConfig s) := by
  have ended := (leaveIfActive_staysBounded s).trans (endLinks_staysBounded _)
  refine (ended.trans ((setCsu_staysBounded _ ?_).trans (setSdu_staysBounded _ _))).trans
    (endLookupsIfLeft_staysBounded _ _)
  exact id

theorem enterStandby_staysBounded (s : State) : StaysBounded s (enterStandby s) := by
  have ended := (leaveIfActive_staysBounded s).trans
    ((setOsu_staysBounded _ (clearIssued (leaveIfActive s)).osu).trans (endLinks_staysBounded _))
  refine (ended.trans ((setCsu_staysBounded _ ?_).trans (setSdu_staysBounded _ _))).trans
    (endLookupsIfLeft_staysBounded _ _)
  exact id

theorem enterFallback_staysBounded (s : State) : StaysBounded s (enterFallback s) := by
  have ended := (leaveIfActive_staysBounded s).trans (fallbackLinks_staysBounded _)
  refine (ended.trans ((setCsu_staysBounded _ ?_).trans ((setSdu_staysBounded _ _).trans
    (setFlag_staysBounded _ _)))).trans (endLookupsIfLeft_staysBounded _ _)
  exact id

theorem testSupervision_staysBounded (s : State) : StaysBounded s (testSupervision s) :=
  .ite _ (enterFallback_staysBounded s) (.refl s)

/-! ## Requests applied (R183, R184) -/

theorem storeBogie_staysBounded (s : State) (i : Fin 4) (e : BogieEntry) :
    StaysBounded s (storeBogie s i e) :=
  .ite _ ((setTables_staysBounded s _).trans (restartLink_staysBounded _ i))
    (setTables_staysBounded s _)

theorem applyRequest_staysBounded (s : State) (r : HeldRequest) (hr : RequestShort r) :
    StaysBounded s (applyRequest s r) := by
  cases r with
  | source i e => exact show StaysBounded s (applySource s i e) from {}
  | axle i e => exact show StaysBounded s (applyAxle s i e) from {}
  | channel i e => exact show StaysBounded s (applyChannel s i e) from {}
  | beacon i e => exact show StaysBounded s (applyBeacon s i e) from {}
  | gain | param => exact setTables_staysBounded s _
  | bogie i e =>
    exact .ite _ (storeBogie_staysBounded s i e)
      ((storeBogie_staysBounded s i _).trans (setFlag_staysBounded _ _))
  | positionSet segment offset trail =>
    refine (setOpu_staysBounded s ?_).trans (setBru_staysBounded _ ?_)
    · exact fun h => ⟨h.hold, h.history, hr segment offset trail rfl, h.route⟩
    · exact fun _ => ⟨Nat.zero_le _, Nat.zero_le _⟩
  | invalidate n => exact invalidateSegment_staysBounded s n
  | invalidateAll => exact invalidateAll_staysBounded s

/-- A posted request is applied as it was let through, and the slot is emptied (R184). -/
theorem applyPosted_staysBounded (s : State) : StaysBounded s (applyPosted s) := by
  cases posted : s.mrh.posted with
  | none => simpa [applyPosted, posted] using StaysBounded.refl s
  | some p =>
    have applied : applyPosted s = applyRequest (s.setMrh { s.mrh with posted := none }) p.request := by
      simp [applyPosted, posted]
    rw [applied]
    by_cases short : RequestShort p.request
    · exact (setMrh_staysBounded s fun _ _ h => (by cases h)).trans
        (applyRequest_staysBounded _ p.request short)
    · obtain ⟨segment, offset, trail, sets, -⟩ : ∃ segment offset trail,
          p.request = .positionSet segment offset trail ∧ ¬ trail.length ≤ 8 := by
        simpa [RequestShort] using short
      rw [sets]
      exact ⟨id, id, fun _ _ h => (by cases h), fun fit => absurd (fit p posted) short,
        fun _ => ⟨Nat.zero_le _, Nat.zero_le _⟩, id, id⟩

/-- A request posted as it was let through (R183). -/
theorem applyOrPost_staysBounded (s : State) (o : Origin) (r : HeldRequest) (limited tableWrite : Bool)
    (hr : RequestShort r) : StaysBounded s (applyOrPost s o r limited tableWrite).1 := by
  rcases applyOrPost_cases s o r limited tableWrite with h | h | h <;> rw [h]
  · exact (setFlagIf_staysBounded s _ _).trans (applyRequest_staysBounded _ r hr)
  · refine (setMrh_staysBounded s ?_).trans (setFlagIf_staysBounded _ _ _)
    exact fun _ p hp => by cases hp; exact hr
  · exact .refl s

/-- The range of a POSITION_SET's trail is below the size of the list (R31, R34). -/
theorem requestShort_of_inRange {r : HeldRequest} (h : r.InRange) : RequestShort r := by
  rintro segment offset trail rfl
  exact le_trans (show trail.length ≤ 4 from h) (by decide)

theorem answerWrite_staysBounded (s : State) (o : Origin) (v : Verdict) (hv : VerdictFit v) :
    StaysBounded s (answerWrite s o v).1 := by
  cases v with
  | refusedState => exact .refl s
  | refusedRange => exact .refl s
  | accepted r limited =>
    exact applyOrPost_staysBounded s o r limited true (requestShort_of_inRange hv.1)

/-! ## The handlers of the requests -/

theorem writeSource_bounded (o : Origin) (index : Nat) (entry : List Word) :
    HandlerBounded (writeSource o index entry) := by
  intro s
  unfold writeSource
  split
  · exact answerWrite_staysBounded s o _ (checkSource_fit ..)
  · exact .refl s

theorem writeAxle_bounded (o : Origin) (index : Nat) (entry : List Word) :
    HandlerBounded (writeAxle o index entry) := by
  intro s
  unfold writeAxle
  split
  · exact answerWrite_staysBounded s o _ (checkAxle_fit ..)
  · exact .refl s

theorem writeBogie_bounded (o : Origin) (index : Nat) (entry : List Word) :
    HandlerBounded (writeBogie o index entry) := by
  intro s
  unfold writeBogie
  split
  · exact answerWrite_staysBounded s o _ (checkBogie_fit ..)
  · exact .refl s

theorem writeChannelEntry_bounded (o : Origin) (index : Nat) (entry : List Word) :
    HandlerBounded (writeChannelEntry o index entry) := by
  intro s
  unfold writeChannelEntry
  split
  · next e he => exact answerWrite_staysBounded s o _ (checkChannel_fit s index he)
  · exact .refl s

theorem writeGain_bounded (o : Origin) (index : Nat) (entry : List Word) :
    HandlerBounded (writeGain o index entry) := by
  intro s
  unfold writeGain
  split
  · exact answerWrite_staysBounded s o _ (checkGain_fit ..)
  · exact .refl s

theorem writeBeacon_bounded (o : Origin) (index : Nat) (entry : List Word) :
    HandlerBounded (writeBeacon o index entry) := by
  intro s
  unfold writeBeacon
  split
  · exact answerWrite_staysBounded s o _ (checkBeacon_fit ..)
  · exact .refl s

theorem writeParam_bounded (o : Origin) (index : Nat) (entry : List Word) :
    HandlerBounded (writeParam o index entry) := by
  intro s
  unfold writeParam
  split
  · exact answerWrite_staysBounded s o _ (checkParam_fit ..)
  · exact .refl s

theorem writeTable_bounded (o : Origin) (table index : Nat) (entry : List Word) :
    HandlerBounded (writeTable o table index entry) := by
  intro s
  unfold writeTable
  split
  · exact writeSource_bounded o index entry s
  split
  · exact writeAxle_bounded o index entry s
  split
  · exact writeBogie_bounded o index entry s
  split
  · exact writeChannelEntry_bounded o index entry s
  split
  · exact writeGain_bounded o index entry s
  split
  · exact writeBeacon_bounded o index entry s
  split
  · exact writeParam_bounded o index entry s
  · exact .refl s

theorem stateSetConfig_bounded : HandlerBounded stateSetConfig := by
  intro s
  unfold stateSetConfig
  split
  case h_1 => exact .refl s
  all_goals exact enterConfig_staysBounded s

theorem checkedStandby_bounded : HandlerBounded checkedStandby := by
  intro s
  unfold checkedStandby
  split
  · exact enterStandby_staysBounded s
  · exact setSdu_staysBounded s _

theorem stateSetStandby_bounded : HandlerBounded stateSetStandby := by
  intro s
  unfold stateSetStandby
  split
  · exact checkedStandby_bounded s
  · exact setSdu_staysBounded s _
  · exact enterStandby_staysBounded s
  · split
    · exact checkedStandby_bounded s
    · exact setSdu_staysBounded s _

theorem stateSetActive_bounded (data : List Word) : HandlerBounded (stateSetActive data) := by
  intro s
  rcases stateSetActive_cases data s with ⟨-, h⟩ | ⟨-, -, -, h⟩ | ⟨-, -, h⟩ | ⟨-, reason, h, -⟩ <;> rw [h]
  · exact setSdu_staysBounded s _
  · exact setSdu_staysBounded s _
  · exact .refl s
  · exact (setSdu_staysBounded s _).trans (setSdu_staysBounded _ _)

theorem stateSet_bounded (target : Nat) (data : List Word) : HandlerBounded (stateSet target data) := by
  intro s
  unfold stateSet
  split
  · exact withoutData_bounded stateSetConfig_bounded data s
  split
  · exact withoutData_bounded stateSetStandby_bounded data s
  split
  · exact stateSetActive_bounded data s
  · exact .refl s

theorem setPosition_bounded (o : Origin) (count : Nat) (data : List Word) :
    HandlerBounded (setPosition o count data) := by
  intro s
  unfold setPosition
  split
  · split
    · next fits =>
      simp only [Bool.and_eq_true, decide_eq_true_eq] at fits
      obtain ⟨⟨⟨length, -⟩, few⟩, -⟩ := fits
      refine applyOrPost_staysBounded s o _ _ _ (requestShort_of_inRange ?_)
      simp only [HeldRequest.InRange, List.length_map, wordPairs_length]
      omega
    · exact .refl s
  · exact .refl s

theorem acknowledge_staysBounded (s : State) (mask : BitVec 32) :
    StaysBounded s (acknowledge s mask) := by
  have lifted (t : State) : StaysBounded t (liftActuatorFaults t) := setAls_staysBounded t fun b h => by
    simp only [Fin.getElem_fin, Vector.getElem_map, Link.readmitted]
    split
    · exact ⟨Nat.zero_le _, h.notices, h.trackLead, h.trackTrail⟩
    · exact h
  have copied (t : State) : StaysBounded t (liftCopyErrors t) := setOsu_staysBounded t _
  have cleared := setSdu_staysBounded s
    { s.sdu with flags := acknowledged s.sdu.flags mask (conditionWord s) }
  have copies := StaysBounded.ite (mask.getLsbD Flag.copyErr.bit = true) (cleared.trans (copied _)) cleared
  exact .ite _ (copies.trans (lifted _)) copies

theorem ackFlags_bounded (data : List Word) : HandlerBounded (ackFlags data) := by
  intro s
  unfold ackFlags
  split
  · exact acknowledge_staysBounded s _
  · exact .refl s

theorem invalidateOne_bounded (o : Origin) (data : List Word) :
    HandlerBounded (invalidateOne o data) := by
  intro s
  unfold invalidateOne
  split
  · split
    · exact applyOrPost_staysBounded s o _ _ _ (requestShort_of_inRange (fit_invalidate _).1)
    · exact .refl s
  · exact .refl s

theorem invalidateEvery_bounded (o : Origin) (data : List Word) :
    HandlerBounded (invalidateEvery o data) := by
  intro s
  unfold invalidateEvery
  split
  · exact applyOrPost_staysBounded s o _ _ _ (requestShort_of_inRange fit_invalidateAll.1)
  · exact .refl s

theorem prepareReset_bounded (o : Origin) (data : List Word) :
    HandlerBounded (prepareReset o data) := by
  intro s
  unfold prepareReset
  split
  · exact setMrh_staysBounded s id
  · exact .refl s

theorem confirmReset_bounded (held : Option Prepare) (straps : Addr) (o : Origin)
    (data : List Word) : HandlerBounded (confirmReset held straps o data) := by
  intro s
  unfold confirmReset
  split
  · split
    · exact .refl s
    · split
      · exact .refl s
      · split
        · exact .refl s
        · exact setMrh_staysBounded s id
  · exact .refl s

theorem handlerOf_bounded (u : State) (straps : Addr) (o : Origin) (function a b : Nat)
    (data : List Word) : HandlerBounded (handlerOf u straps o function a b data) :=
  .ite _ (.of_fst (readStatus_fst b data)) <|
  .ite _ (writeTable_bounded o a b data) <|
  .ite _ (.of_fst (readTable_fst a b data)) <|
  .ite _ (stateSet_bounded b data) <|
  .ite _ (setPosition_bounded o b data) <|
  .ite _ (appendRoute_bounded b data) <|
  .ite _ (withoutData_bounded clearRoute_bounded data) <|
  .ite _ (ackFlags_bounded data) <|
  .ite _ (.ite _ (invalidateEvery_bounded o data) (invalidateOne_bounded o data)) <|
  .ite _ (.of_fst (readCache_fst data)) <|
  .ite _ (.of_fst (readChannel_fst a b data)) <|
  .ite _ (prepareReset_bounded o data) <|
  .ite _ (confirmReset_bounded u.mrh.prepare straps o data) (.of_fst fun _ => rfl)

theorem handleManage_staysBounded (s : State) (straps : Addr) (o : Origin) (payload : List Word) :
    StaysBounded s (handleManage s straps o payload) := by
  unfold handleManage
  split
  · exact .ite _ (.refl s) (setFlag_staysBounded s _)
  · exact manage_staysBounded s o _ (handlerOf_bounded s straps o _ _ _ _)

end Sys2Proof.Proofs

/-! SUPPORT. The cycle, the frames and the OUT port keep the sizes (R142, R144, R154, R159, R160, R163); with that
every command does, and every step. -/

namespace Sys2Proof.Proofs

open Sys2Proof.Machine

/-! ## The cycle -/

theorem closeIfDue_staysBounded (s : State) : StaysBounded s (closeIfDue s) := by
  have deferred (t : State) : StaysBounded t (takeDeferred t) := {}
  refine .ite _ ((setCsu_staysBounded s ?_).trans ((applyPosted_staysBounded _).trans
    ((testSupervision_staysBounded _).trans (deferred _)))) (.refl s)
  exact id

theorem endWork_staysBounded (s : State) : StaysBounded s (endWork s) := by
  refine ((setSlu_staysBounded s _).trans (makeHeldNeeds_staysBounded _)).trans
    ((setCsu_staysBounded _ ?_).trans (closeIfDue_staysBounded _))
  exact id

theorem determineNext_staysBounded (s : State) (b : BogieId) :
    StaysBounded s (determineNext s b) := by
  have handed := (determine_staysBounded s b).trans (handOn_staysBounded _ b)
  unfold determineNext
  dsimp only
  split
  · exact handed.trans (setSlu_staysBounded _ _)
  · exact handed.trans (endWork_staysBounded _)

theorem shapeResult_staysBounded (s : State) (r : SteeringResult) :
    StaysBounded s (shapeResult s r).1 := {}

theorem shapeNext_staysBounded (s : State) : StaysBounded s (shapeNext s) := by
  unfold shapeNext
  split
  · exact .refl s
  · next r rest _ =>
    refine (setOsu_staysBounded s _).trans ((shapeResult_staysBounded _ r).trans
      ((takeOffer_staysBounded _ _ _).trans ((setCsu_staysBounded _ ?_).trans
        (closeIfDue_staysBounded _))))
    exact id

/-- The cycle counter stays below 65536 (R142). -/
theorem takeMark_staysBounded (s : State) : StaysBounded s (takeMark s) := by
  have evaluated (t : State) : StaysBounded t (evaluateSlots t) := {}
  refine ((setCsu_staysBounded s ?_).trans ((evaluated _).trans ((ageFetches_staysBounded _).trans
    (ageLinks_staysBounded _)))).trans (setOpu_staysBounded _ ?_)
  · exact fun h => ⟨Nat.le_of_lt_succ (Nat.mod_lt _ (by decide)), h.2⟩
  · exact fun h => ⟨h.hold, h.history, h.trail, h.route⟩

theorem hearCycle_staysBounded (s : State) (n : Nat) : StaysBounded s (hearCycle s n) := by
  have kept (t : State) : StaysBounded t (keepAlive t) := {}
  have flagged := setFlagIf_staysBounded s (breaksSequence s.csu.lastNumber n) .cycleSeq
  unfold hearCycle reloadSubstitute
  dsimp only
  refine (StaysBounded.ite _ (flagged.trans (kept _)) flagged).trans
    ((setCsu_staysBounded _ ?_).trans (setCsu_staysBounded _ ?_))
  · exact id
  · exact id

theorem handleCycle_staysBounded (s : State) (payload : List Word) :
    StaysBounded s (handleCycle s payload) := by
  unfold handleCycle
  split
  · next number =>
    have heard := hearCycle_staysBounded s number.toNat
    exact .ite _ (heard.trans (setFlag_staysBounded _ _)) (heard.trans (takeMark_staysBounded _))
  · exact setFlag_staysBounded s _

theorem raisedSubstitutes_le (n : Nat) : raisedSubstitutes n ≤ 65535 := by
  unfold raisedSubstitutes
  split <;> omega

theorem expireSubstitute_staysBounded (s : State) : StaysBounded s (expireSubstitute s) := by
  have reloaded : StaysBounded s (reloadSubstitute s (2 * s.tables.param.period)) :=
    setCsu_staysBounded s id
  refine .ite _ (reloaded.trans (setFlag_staysBounded _ _)) (reloaded.trans
    ((takeMark_staysBounded _).trans ((setFlag_staysBounded _ _).trans (setCsu_staysBounded _ ?_))))
  exact fun h => ⟨h.1, raisedSubstitutes_le _⟩

theorem tick_staysBounded (s : State) : StaysBounded s (tick s) := by
  have gap := setRpu_staysBounded s (x := { s.rpu with gap := false })
    fun h => ⟨h.forward, h.queue, h.bogies, h.count, h.kept⟩
  have substitute (t : State) : StaysBounded t (tickSubstitute t) := by
    unfold tickSubstitute
    split
    · exact .refl t
    · exact .ite _ (expireSubstitute_staysBounded t) (setCsu_staysBounded t id)
  have supervision (t : State) : StaysBounded t (tickSupervision t) := by
    refine .ite _ ((setCsu_staysBounded t ?_).trans (testSupervision_staysBounded _)) (.refl t)
    exact id
  exact gap.trans ((substitute _).trans (supervision _))

/-! ## Delivered frames -/

theorem handBeacon_staysBounded (s : State) (n : Fin 2) (ident : Nat) (latched : Int) :
    StaysBounded s (handBeacon s n ident latched) := by
  unfold handBeacon
  split
  · exact setBru_staysBounded s id
  · exact setFlag_staysBounded s _

theorem handleItem_staysBounded (s : State) (node : Nat) (i : SampleItem) :
    StaysBounded s (handleItem node s i) := by
  unfold handleItem
  split
  · exact .refl s
  · split
    · exact .ite _ (setSit_staysBounded s _) (.refl s)
    · exact .ite _ (setSit_staysBounded s _) (.refl s)
    · exact .ite _ (.refl s) (handBeacon_staysBounded s _ _ _)

theorem handleSample_staysBounded (s : State) (source : Addr) (payload : List Word) :
    StaysBounded s (handleSample s source payload) := by
  refine .ite _ ?_ (setFlag_staysBounded s _)
  generalize itemsOf payload = items
  induction items generalizing s with
  | nil => exact .refl s
  | cons i items ih => exact (handleItem_staysBounded s _ i).trans (ih _)

theorem handleEcho_staysBounded (s : State) (source : Addr) (tag : Tag) (payload : List Word) :
    StaysBounded s (handleEcho s source tag payload) := by
  unfold handleEcho
  split
  · exact handleAnswer_staysBounded s _ _ _
  · exact handleNotice_staysBounded s _ _
  · exact setFlag_staysBounded s _

theorem handleReturned_staysBounded (s : State) (f : ValidFrame) :
    StaysBounded s (handleReturned s f) := by
  unfold handleReturned
  split
  · exact handleReturnedCommand_staysBounded s _
  · exact handleReturnedFetch_staysBounded s _
  all_goals exact setFlag_staysBounded s _

theorem deliver_staysBounded (s : State) (straps : Addr) (f : ValidFrame) (broadcast : Bool) :
    StaysBounded s (deliver s straps f broadcast) := by
  unfold deliver
  cases f.header.cls with
  | sample => exact handleSample_staysBounded s _ _
  | echo => exact handleEcho_staysBounded s _ _ _
  | segment => exact handleSegment_staysBounded s _
  | cycle => exact handleCycle_staysBounded s _
  | manage => exact handleManage_staysBounded s _ _ _
  | command | fetch | reply => exact .ite _ (.refl s) (setFlag_staysBounded s _)

/-- A frame joins the forward buffer while it holds fewer than 4 (R159). -/
theorem forwardFrame_staysBounded (s : State) (bytes : List Byte) :
    StaysBounded s (forwardFrame s bytes) := by
  rcases forwardFrame_cases s bytes with ⟨room, h⟩ | ⟨-, h⟩ <;> rw [h]
  · exact setRpu_staysBounded s fun h => ⟨by simpa using room, h.queue, h.bogies, h.count, h.kept⟩
  · exact setFlag_staysBounded s _

theorem dispose_staysBounded (s : State) (straps : Addr) (f : ValidFrame) :
    StaysBounded s (dispose s straps f) :=
  .ite _ (forwardFrame_staysBounded s _) <|
  .ite _ (handleReturned_staysBounded s f) <|
  .ite _ (deliver_staysBounded s straps f false) <|
  .ite _ ((forwardFrame_staysBounded s _).trans (deliver_staysBounded _ straps f true))
    (forwardFrame_staysBounded s _)

theorem setAssembler_staysBounded (s : State) {a : Assembler} (h : a.kept.length ≤ 53) :
    StaysBounded s (s.setAssembler a) :=
  setRpu_staysBounded s fun r => ⟨r.forward, r.queue, r.bogies, r.count, h⟩

theorem collect_kept (a : Assembler) (bytes : List Byte) : (a.collect bytes).kept.length ≤ 53 := by
  simp [Assembler.collect, Config.maxBurst]

theorem receiveBurst_staysBounded (s : State) (burst : List Byte) (straps : Addr) :
    StaysBounded s (receiveBurst s burst straps) := by
  have emptied (t : State) : StaysBounded t (t.setAssembler t.rpu.assembler.emptied) :=
    setAssembler_staysBounded t (Nat.zero_le _)
  have closed := (setAssembler_staysBounded s (collect_kept s.rpu.assembler burst)).trans (emptied _)
  unfold receiveBurst closeFrame
  dsimp only
  split
  · exact closed.trans (dispose_staysBounded _ straps _)
  · exact closed.trans (setFlag_staysBounded _ _)

/-! ## The OUT port -/

/-- A selection is the front of its queue, with what is left of it. -/
def FrontOf (r : Rpu) : Selection → Prop
  | .forwarded bytes rest => r.forward = bytes :: rest
  | .command f rest => r.commands = f :: rest
  | .other f rest => r.others = f :: rest

theorem selectQueued_front {r : Rpu} {x : Selection} (h : selectQueued r = some x) : FrontOf r x := by
  unfold selectQueued at h
  split at h
  · next hc => cases h; exact hc
  · next ho => cases h; exact ho
  · cases h

theorem select_front {r : Rpu} {x : Selection} (h : select r = some x) : FrontOf r x := by
  unfold select at h
  split at h
  · exact selectQueued_front h
  · next hf =>
    split at h
    · exact selectQueued_front h
    · cases h; exact hf

/-- A selection takes the front of its queue (R160, R163). -/
theorem startSending_staysBounded (s : State) {x : Selection} (h : FrontOf s.rpu x) :
    StaysBounded s (startSending s x) := by
  cases x with
  | forwarded bytes rest =>
    refine setRpu_staysBounded s fun fit => ⟨?_, fit.queue, fit.bogies, Nat.min_le_right _ _, fit.kept⟩
    have size := fit.forward
    rw [show s.rpu.forward = bytes :: rest from h, List.length_cons] at size
    exact Nat.le_of_succ_le size
  | command f rest =>
    refine (setRpu_staysBounded s fun fit => ?_).trans (issueFrame_staysBounded _ f)
    have left := fit.withdraw (commands := rest)
      ((show s.rpu.commands = f :: rest from h) ▸ List.sublist_cons_self f rest)
    exact ⟨left.forward, left.queue, left.bogies, Nat.zero_le _, left.kept⟩
  | other f rest =>
    refine setRpu_staysBounded s fun fit => ⟨fit.forward, ?_, fit.bogies, Nat.zero_le _, fit.kept⟩
    have size := fit.queue
    simp only [queueLength, show s.rpu.others = f :: rest from h, List.length_cons] at size ⊢
    omega

theorem endSending_staysBounded (s : State) : StaysBounded s (endSending s) :=
  setRpu_staysBounded s fun h => ⟨h.forward, h.queue, h.bogies, h.count, h.kept⟩

theorem selectNext_staysBounded (s : State) : StaysBounded s (selectNext s) := by
  unfold selectNext
  split
  · next x _ h => exact startSending_staysBounded s (select_front h)
  · exact .refl s

theorem replyLeft_staysBounded (s : State) (straps : Addr) : StaysBounded s (replyLeft s straps) := by
  unfold replyLeft
  split
  · exact .ite _ ((endSending_staysBounded s).trans (reset_staysBounded _ _ _ _))
      (endSending_staysBounded s)
  · exact .refl s

theorem transmissionEnded_staysBounded (s : State) : StaysBounded s (transmissionEnded s) := by
  unfold transmissionEnded
  split
  · exact .refl s
  · exact .refl s
  · exact endSending_staysBounded s

/-! ## Every command -/

/-- Every command keeps the sizes. -/
theorem exec_staysBounded (c : Instr) (s t : State) (h : exec c s = .next t) : StaysBounded s t := by
  cases c <;> cases h
  case powerOnReset straps => exact reset_staysBounded s _ _ _
  case resetLine straps => exact reset_staysBounded s _ _ _
  case frameClose burst => exact .ite _ (.refl s) (receiveBurst_staysBounded s _ _)
  case sample d => exact .ite _ (.refl s) (handleSample_staysBounded s _ _)
  case answer source tag e => exact .ite _ (.refl s) (handleAnswer_staysBounded s _ _ _)
  case notice source tag e => exact .ite _ (.refl s) (handleNotice_staysBounded s _ _)
  case segment d => exact .ite _ (.refl s) (handleSegment_staysBounded s _)
  case cycle d => exact .ite _ (.refl s) (handleCycle_staysBounded s _)
  case returnedCommand d tag => exact .ite _ (.refl s) (handleReturnedCommand_staysBounded s _)
  case returnedFetch n => exact .ite _ (.refl s) (handleReturnedFetch_staysBounded s _)
  case returnedReply => exact .ite _ (.refl s) (setFlag_staysBounded s _)
  case substituteTimerExpiry => exact .ite _ (expireSubstitute_staysBounded s) (.refl s)
  case sampleExpired n => exact {}
  case fetchTimeout n => exact timeoutFetch_staysBounded s _
  case echoTimeout b => exact timeoutLink_staysBounded s b
  case positionUpdate => exact .ite _ (positionUpdate_staysBounded s) (.refl s)
  case bogieDetermination =>
    split
    · exact determineNext_staysBounded s _
    · exact .refl s
  case shaping => exact shapeNext_staysBounded s
  case supervisionExpiry =>
    refine .ite _ ((setCsu_staysBounded s ?_).trans (enterFallback_staysBounded _)) (.refl s)
    exact id
  case outSelection => exact selectNext_staysBounded s
  case replyLeftOut straps => exact replyLeft_staysBounded s straps
  case statusRead o page data => exact manage_staysBounded s o 1 (.of_fst (readStatus_fst _ data))
  case tableRead o n i data => exact manage_staysBounded s o 3 (.of_fst (readTable_fst _ _ data))
  case tableWriteSource o i entry => exact manage_staysBounded s o 2 (writeSource_bounded o _ entry)
  case tableWriteAxle o i entry => exact manage_staysBounded s o 2 (writeAxle_bounded o _ entry)
  case tableWriteBogie o i entry => exact manage_staysBounded s o 2 (writeBogie_bounded o _ entry)
  case tableWriteChannel o i entry =>
    exact manage_staysBounded s o 2 (writeChannelEntry_bounded o _ entry)
  case tableWriteGainSchedule o i entry => exact manage_staysBounded s o 2 (writeGain_bounded o _ entry)
  case tableWriteBeacon o i entry => exact manage_staysBounded s o 2 (writeBeacon_bounded o _ entry)
  case tableWriteParameter o i entry => exact manage_staysBounded s o 2 (writeParam_bounded o _ entry)
  case stateSetConfig o data =>
    exact manage_staysBounded s o 4 (withoutData_bounded stateSetConfig_bounded data)
  case stateSetStandby o data =>
    exact manage_staysBounded s o 4 (withoutData_bounded stateSetStandby_bounded data)
  case stateSetActive o data => exact manage_staysBounded s o 4 (stateSetActive_bounded data)
  case positionSet o n data => exact manage_staysBounded s o 5 (setPosition_bounded o _ data)
  case routeAppend o n data => exact manage_staysBounded s o 6 (appendRoute_bounded _ data)
  case routeClear o data => exact manage_staysBounded s o 7 (withoutData_bounded clearRoute_bounded data)
  case diagAck o data => exact manage_staysBounded s o 8 (ackFlags_bounded data)
  case cacheInvalidate o data => exact manage_staysBounded s o 9 (invalidateOne_bounded o data)
  case cacheInvalidateAll o data => exact manage_staysBounded s o 9 (invalidateEvery_bounded o data)
  case cacheRead o data => exact manage_staysBounded s o 10 (.of_fst (readCache_fst data))
  case channelRead o part b data =>
    exact manage_staysBounded s o 11 (.of_fst (readChannel_fst _ _ data))
  case resetPrepare o data => exact manage_staysBounded s o 12 (prepareReset_bounded o data)
  case resetConfirm o data => exact manage_staysBounded s o 13 (confirmReset_bounded _ _ o _)
  case refusedFunction o f data =>
    exact .ite _ (manage_staysBounded s o _ (.of_fst fun _ => rfl)) (.refl s)
  case lineIdle =>
    exact setRpu_staysBounded s fun h => ⟨h.forward, h.queue, h.bogies, h.count, h.kept⟩
  case frameTransmissionEnd => exact transmissionEnded_staysBounded s

theorem step_staysBounded (s t : State) (h : step s = .next t) : StaysBounded s t := by
  unfold step at h
  split at h
  · cases h; exact tick_staysBounded s
  · next c rest _ =>
    have taken : StaysBounded s (s.setPending rest) := {}
    exact taken.trans (exec_staysBounded c _ t h)

/-- Settles O56: what every command keeps within its size, a step does. -/
theorem sizesStayBounded : Obligations.SizesStayBounded :=
  ⟨fun s t hs h => (step_staysBounded s t h).queuesBounded hs,
   fun s t hs h => (step_staysBounded s t h).countsBounded hs⟩

end Sys2Proof.Proofs

/-! SUPPORT. POSITION_SET, ROUTE_APPEND and ROUTE_CLEAR (R32 to R35, R52, R183): what each check asks for, and what
an accepted request leaves. -/

namespace Sys2Proof.Proofs

open Sys2Proof.Machine

/-- An addressed request goes the whole path of a request (R180 to R182). -/
theorem manage_of_addressed {s : State} {o : Origin} (h : Addressed s o) (function : Nat)
    (g : State → State × Reply) : manage s o function g =
      finish (g (cancelPrepare s)).1 o function (g (cancelPrepare s)).2 := by
  obtain ⟨works, unconfirmed, single⟩ := h
  exact manage_accepted s o function g (by simp [accepts, works, unconfirmed, single])

theorem segmentOk_iff (n : Nat) : segmentOk n = true ↔ n ≠ 0 ∧ n ≠ 65535 := by
  simp [segmentOk]

theorem trailEntryOk_iff (e : Nat × Nat) : trailEntryOk e = true ↔
    e.1 ≠ 0 ∧ e.1 ≠ 65535 ∧ 1000 ≤ e.2 ∧ e.2 ≤ 60000 := by
  simp [trailEntryOk, segmentOk_iff, and_assoc]

theorem routeEntryOk_iff (e : Nat × Nat) : routeEntryOk e = true ↔
    e.1 ≠ 0 ∧ e.1 ≠ 65535 ∧ e.2 ≤ 1 := by
  simp [routeEntryOk, segmentOk_iff, and_assoc]

/-! ## POSITION_SET -/

/-- The trail that a POSITION_SET's words carry (Table 12.3). -/
def trailOfWords (rest : List Word) : List TrailEntry :=
  (wordPairs rest).map fun e => { segment := e.1, length := e.2 }

/-- A POSITION_SET within its ranges (R34). -/
def PositionFits (count : Byte) (segment : Word) (rest : List Word) : Prop :=
  rest.length = 2 * count.toNat ∧ count.toNat ≤ 4 ∧ segment.toNat ≠ 0 ∧ segment.toNat ≠ 65535 ∧
  ∀ e ∈ trailOfWords rest, e.segment ≠ 0 ∧ e.segment ≠ 65535 ∧ 1000 ≤ e.length ∧ e.length ≤ 60000

/-- The request that a POSITION_SET is applied as. -/
def positionRequest (segment offset : Word) (rest : List Word) : HeldRequest :=
  .positionSet segment.toNat offset.toNat (trailOfWords rest)

theorem positionChecks_iff (count : Byte) (segment : Word) (rest : List Word) :
    (decide (rest.length = 2 * count.toNat) && segmentOk segment.toNat && decide (count.toNat ≤ 4) &&
      (wordPairs rest).all trailEntryOk) = true ↔ PositionFits count segment rest := by
  simp only [Bool.and_eq_true, decide_eq_true_eq, segmentOk_iff, List.all_eq_true, trailEntryOk_iff,
    PositionFits, trailOfWords, List.forall_mem_map]
  tauto

theorem setPosition_fits (o : Origin) {count : Byte} {segment : Word} (offset : Word)
    {rest : List Word} (h : PositionFits count segment rest) (s : State) :
    setPosition o count.toNat (segment :: offset :: rest) s =
      applyOrPost s o (positionRequest segment offset rest) false false :=
  if_pos ((positionChecks_iff count segment rest).mpr h)

theorem setPosition_unfit (o : Origin) {count : Byte} {segment : Word} (offset : Word)
    {rest : List Word} (h : ¬ PositionFits count segment rest) (s : State) :
    setPosition o count.toNat (segment :: offset :: rest) s = refuseRange s :=
  if_neg (mt (positionChecks_iff count segment rest).mp h)

/-! ## A request that is no table write applied, posted or answered NOT_READY (R183) -/

theorem applyOrPost_config {s : State} (o : Origin) (r : HeldRequest) (h : s.sdu.part = .config) :
    applyOrPost s o r false false = (applyRequest s r, .plain .done) := by
  simp [applyOrPost, h, Reply.plain]

theorem applyOrPost_posted {s : State} (o : Origin) (r : HeldRequest) (h : s.sdu.part ≠ .config)
    (free : s.mrh.posted = none) : applyOrPost s o r false false =
      (s.setMrh { s.mrh with posted := some { request := r, sender := o.source } },
        .plain .posted) := by
  simp [applyOrPost, h, free, Reply.plain]

theorem applyOrPost_notReady {s : State} (o : Origin) (r : HeldRequest) (h : s.sdu.part ≠ .config)
    (full : s.mrh.posted ≠ none) : applyOrPost s o r false false = (s, .plain .notReady) := by
  simp [applyOrPost, h, full]

/-! ## ROUTE_APPEND -/

/-- A ROUTE_APPEND whose entries are within their ranges and all fit in the queue (R32). -/
def RouteFits (s : State) (count : Byte) (data : List Word) : Prop :=
  data.length = 2 * count.toNat ∧ 1 ≤ count.toNat ∧ count.toNat ≤ 8 ∧
  s.opu.route.length + count.toNat ≤ 16 ∧ ∀ e ∈ wordPairs data, e.1 ≠ 0 ∧ e.1 ≠ 65535 ∧ e.2 ≤ 1

theorem routeChecks_iff (s : State) (count : Byte) (data : List Word) :
    (decide (data.length = 2 * count.toNat) && decide (1 ≤ count.toNat) && decide (count.toNat ≤ 8) &&
      (wordPairs data).all routeEntryOk &&
      decide (s.opu.route.length + count.toNat ≤ Config.routeCapacity)) = true ↔
    RouteFits s count data := by
  simp only [Bool.and_eq_true, decide_eq_true_eq, List.all_eq_true, routeEntryOk_iff, RouteFits]
  simp only [Config.routeCapacity]
  tauto

theorem appendRoute_fits {s : State} {count : Byte} {data : List Word} (h : RouteFits s count data) :
    appendRoute count.toNat data s = (s.setOpu { s.opu with
      route := s.opu.route ++
        (wordPairs data).map fun e => { segment := e.1, branch := decide (e.2 = 1) } },
      .plain .done) :=
  if_pos ((routeChecks_iff s count data).mpr h)

theorem appendRoute_unfit {s : State} {count : Byte} {data : List Word}
    (h : ¬ RouteFits s count data) : appendRoute count.toNat data s = refuseRange s :=
  if_neg (mt (routeChecks_iff s count data).mp h)

/-- Settles O48: each request goes the path of R182 with the result of its check. -/
theorem positionAndRouteRequests : Obligations.PositionAndRouteRequests := by
  refine ⟨fun o count segment offset rest s h => ?_, fun o count data s h => ?_, fun _ _ _ _ => rfl⟩
  · have path : exec (.positionSet o count (segment :: offset :: rest)) s =
        .next (manage s o 5 (setPosition o count.toNat (segment :: offset :: rest))) := rfl
    rw [path, manage_of_addressed h]
    intro u trail fits
    have part : u.sdu.part = s.sdu.part := rfl
    have posted : u.mrh.posted = s.mrh.posted := rfl
    refine ⟨fun unfit => ?_, fun fit config => ?_, fun fit busy free => ?_, fun fit busy full => ?_⟩
    · rw [setPosition_unfit o offset unfit]
      rfl
    · rw [setPosition_fits o offset fit, applyOrPost_config o _ (part.trans config)]
      rfl
    · rw [setPosition_fits o offset fit, applyOrPost_posted o _ (part ▸ busy) (posted.trans free)]
      rfl
    · rw [setPosition_fits o offset fit, applyOrPost_notReady o _ (part ▸ busy) (posted ▸ full)]
  · have path : exec (.routeAppend o count data) s =
        .next (manage s o 6 (appendRoute count.toNat data)) := rfl
    have clear : exec (.routeClear o []) s = .next (manage s o 7 (withoutData clearRoute [])) := rfl
    rw [path, clear, manage_of_addressed h, manage_of_addressed h]
    intro u fits
    refine ⟨fun fit => ?_, fun unfit => ?_, rfl⟩
    · rw [appendRoute_fits (s := u) fit]
      rfl
    · rw [appendRoute_unfit (s := u) unfit]
      rfl

end Sys2Proof.Proofs

/-! SUPPORT. What the stages of a position update after the odometry leave as it stands: the distance, the hold
counter and the history, what the cache holds, and every flag that is set (R19, R174). -/

namespace Sys2Proof.Proofs

open Sys2Proof.Machine

/-! ## What the cache holds -/

theorem findWay_congr {c d : CacheSet} (h : c.ways = d.ways) (tag : Nat) :
    findWay c tag = findWay d tag := by
  cases c
  cases d
  cases h
  rfl

/-- What the cache holds of a segment stands in the ways of its set (R55). -/
theorem contentOf_congr {s t : State} (h : ∀ i : Fin 64, t.sgc.sets[i].ways = s.sgc.sets[i].ways)
    (n : Nat) : contentOf t n = contentOf s n := by
  have ways : (cacheSetOf t n).ways = (cacheSetOf s n).ways := h _
  unfold contentOf lineOf
  rw [findWay_congr ways, ways]

theorem heldHeader_congr {s t : State} (h : ∀ i : Fin 64, t.sgc.sets[i].ways = s.sgc.sets[i].ways) :
    heldHeader t = heldHeader s :=
  funext fun n => congrArg _ (contentOf_congr h n)

theorem setCacheSet_ways (s : State) (i : Fin 64) (c : CacheSet) (hc : c.ways = s.sgc.sets[i].ways)
    (j : Fin 64) : (s.setCacheSet i c).sgc.sets[j].ways = s.sgc.sets[j].ways := by
  simp only [State.setCacheSet, State.setSgc_sgc, Fin.getElem_fin, Vector.getElem_set]
  split
  · next same =>
    cases Fin.ext same
    exact hc
  · rfl

theorem touchSegment_ways (s : State) (n : Nat) (i : Fin 64) :
    (touchSegment s n).sgc.sets[i].ways = s.sgc.sets[i].ways := by
  unfold touchSegment
  split
  · next w _ => exact setCacheSet_ways s _ ((cacheSetOf s n).touch w) rfl i
  · rfl

/-- A header lookup gives the header that the cache holds (R70). -/
theorem lookupHeader_snd (s : State) (needs : Bool) (n : Nat) :
    (lookupHeader needs s n).2 = heldHeader s n := by
  simp only [lookupHeader, heldHeader]
  split
  · next held => simp [held]
  · next held => simp [held]

/-! ## One relation between the states of an update -/

/-- What an update carries on from a state to a later one. A part that an operation leaves as it stands is
left to the frame lemmas. -/
structure Proceeds (s t : State) : Prop where
  distance : t.opu.lastDistance = s.opu.lastDistance := by simp
  hold : t.opu.hold = s.opu.hold := by simp
  history : t.opu.history = s.opu.history := by simp
  due : t.opu.updateDue = s.opu.updateDue := by simp
  ways : ∀ i : Fin 64, t.sgc.sets[i].ways = s.sgc.sets[i].ways := by simp
  flags : ∀ f, s.flag f = true → t.flag f = true

theorem Proceeds.refl (s : State) : Proceeds s s := ⟨rfl, rfl, rfl, rfl, fun _ => rfl, fun _ => id⟩

theorem Proceeds.trans {s t u : State} (h : Proceeds s t) (k : Proceeds t u) : Proceeds s u :=
  ⟨k.distance.trans h.distance, k.hold.trans h.hold, k.history.trans h.history, k.due.trans h.due,
    fun i => (k.ways i).trans (h.ways i), fun f => k.flags f ∘ h.flags f⟩

theorem Proceeds.ite {s t u : State} (c : Prop) [Decidable c] (ht : Proceeds s t) (hu : Proceeds s u) :
    Proceeds s (if c then t else u) := by
  split
  · exact ht
  · exact hu

theorem setFlag_proceeds (s : State) (f : Flag) : Proceeds s (s.setFlag f) where
  flags g h := by simp [h]

theorem setBru_proceeds (s : State) (x : Bru) : Proceeds s (s.setBru x) := { flags := fun _ => id }

theorem setSlu_proceeds (s : State) (x : Slu) : Proceeds s (s.setSlu x) := { flags := fun _ => id }

theorem setRpu_proceeds (s : State) (x : Rpu) : Proceeds s (s.setRpu x) := { flags := fun _ => id }

theorem setSgc_proceeds (s : State) {x : Sgc} (h : x.sets = s.sgc.sets) : Proceeds s (s.setSgc x) where
  ways i := by simp [h]
  flags _ := id

/-- The reference point moved, with its trail, its queue and the report. -/
theorem setOpu_proceeds (s : State) (position : Option Located) (trail : List TrailEntry)
    (route : List RouteEntry) (report : PositionReport) : Proceeds s (s.setOpu { s.opu with
      position := position, trail := trail, route := route, report := report }) where
  flags _ := id

/-! ## Lookups and needs -/

theorem offerOther_proceeds (s : State) (f : OtherFrame) : Proceeds s (offerOther s f) :=
  .ite _ (setRpu_proceeds s _) (setFlag_proceeds s _)

theorem freeFetch_proceeds (s : State) (n : Nat) : Proceeds s (freeFetch s n) :=
  setSgc_proceeds s rfl

theorem offerFetch_proceeds (s : State) (n : Need) : Proceeds s (offerFetch s n) :=
  .ite _ (offerOther_proceeds s _) ((offerOther_proceeds s _).trans (freeFetch_proceeds _ _))

theorem makeNeed_proceeds (s : State) (n : Need) : Proceeds s (makeNeed s n) := by
  unfold makeNeed
  split
  · refine .ite _ (.refl s) ((setSgc_proceeds s ?_).trans (offerFetch_proceeds _ _))
    rfl
  · refine .ite _ ((setSgc_proceeds s ?_).trans (offerFetch_proceeds _ _)) (.refl s)
    rfl

theorem makeNeeds_proceeds (s : State) (ns : List Need) : Proceeds s (makeNeeds s ns) := by
  unfold makeNeeds
  induction ns generalizing s with
  | nil => exact .refl s
  | cons n ns ih => exact (makeNeed_proceeds s n).trans (ih _)

theorem makeHeldNeeds_proceeds (s : State) : Proceeds s (makeHeldNeeds s) :=
  (makeNeeds_proceeds s _).trans (setSgc_proceeds _ rfl)

theorem touchSegment_proceeds (s : State) (n : Nat) : Proceeds s (touchSegment s n) where
  ways := touchSegment_ways s n
  flags f h := by simpa [State.flag] using h

theorem lookupHeader_proceeds (s : State) (needs : Bool) (n : Nat) :
    Proceeds s (lookupHeader needs s n).1 := by
  have touched := touchSegment_proceeds s n
  simp only [lookupHeader]
  split
  · exact touched
  · exact .ite _ (touched.trans (makeNeed_proceeds _ _)) touched

/-- A walk of the Segment Cache or of the Beacon Reconciliation Unit, between whose reads nothing comes. -/
theorem walkFrom_proceeds (s : State) {w : Walker} (hw : w ≠ .steering) (fuel : Nat) (place : Place)
    (segment off dist : Nat) (gone : Int) :
    Proceeds s (walkFrom w fuel s place segment off dist gone).state := by
  induction fuel generalizing s place segment off dist gone with
  | zero => exact .refl s
  | succ fuel ih =>
    have looked : Proceeds s (w.header s segment).1 := by
      cases w with
      | segmentCache => exact lookupHeader_proceeds s false segment
      | beacon => exact lookupHeader_proceeds s true segment
      | steering => exact absurd rfl hw
    unfold walkFrom
    dsimp only
    split
    · split
      · exact .refl s
      · split
        · exact .refl s
        · split
          · split
            · exact .refl s
            · exact ih ..
          · split
            · exact .refl s
            · exact ih ..
    · split
      · exact looked
      · split
        · exact looked
        · split
          · exact looked
          · exact looked.trans (ih ..)

/-! ## The advance -/

theorem enterLost_proceeds (s : State) : Proceeds s (enterLost s) :=
  (setOpu_proceeds s none [] s.opu.route s.opu.report).trans
    ((setBru_proceeds _ _).trans (setFlag_proceeds _ _))

theorem leaveSegment_proceeds (s : State) (n : Nat) (h : Header) :
    Proceeds s (leaveSegment s n h) :=
  .ite _ (setOpu_proceeds s s.opu.position _ s.opu.route s.opu.report)
    (.ite _ (setOpu_proceeds s s.opu.position _ _ s.opu.report)
      ((setOpu_proceeds s s.opu.position _ s.opu.route s.opu.report).trans (setFlag_proceeds _ _)))

theorem setPosition_proceeds (s : State) (p : Option Located) :
    Proceeds s (s.setOpu { s.opu with position := p }) :=
  setOpu_proceeds s p s.opu.trail s.opu.route s.opu.report

theorem reachEnd_proceeds (s : State) (p : Located) (h : Header) : Proceeds s (reachEnd s p h) :=
  .ite _ (enterLost_proceeds s) (setPosition_proceeds s _)

theorem advanceFrom_proceeds (s : State) (fuel : Nat) : Proceeds s (advanceFrom fuel s) := by
  induction fuel generalizing s with
  | zero => exact .refl s
  | succ fuel ih =>
    unfold advanceFrom
    split
    · exact .refl s
    · next p _ =>
      have looked := lookupHeader_proceeds s true p.segment
      dsimp only
      split
      · exact looked
      · exact .ite _ looked (.ite _ (looked.trans (reachEnd_proceeds _ _ _))
          (looked.trans ((leaveSegment_proceeds _ _ _).trans
            ((setPosition_proceeds _ _).trans (ih _)))))

theorem offsetOverflow_proceeds (s : State) : Proceeds s (offsetOverflow s) := by
  unfold offsetOverflow
  split
  · exact .ite _ (enterLost_proceeds s) (.refl s)
  · exact .refl s

theorem advanceStage_proceeds (s : State) : Proceeds s (advanceStage s) := by
  unfold advanceStage
  split
  · exact .refl s
  · exact .ite _ ((setPosition_proceeds s _).trans (setFlag_proceeds _ _))
      ((setPosition_proceeds s _).trans ((advanceFrom_proceeds _ _).trans (offsetOverflow_proceeds _)))

/-! ## Reconciliation with a beacon -/

theorem driftStage_proceeds (s : State) : Proceeds s (driftStage s) := by
  unfold driftStage
  split
  · exact .refl s
  · exact (setBru_proceeds s _).trans (setPosition_proceeds _ _)

theorem derivedPosition_proceeds (s : State) (n : Fin 2) (e : BeaconEntry) (latched : Int) :
    Proceeds s (derivedPosition s n e latched).1 := by
  simp only [derivedPosition]
  split
  · exact .refl s
  · split
    · exact walkFrom_proceeds s (by decide) _ _ _ _ _ _
    · split <;> exact .refl s

theorem searchAhead_proceeds (s : State) (fuel : Nat) (place : Place) (segment off dist : Nat)
    (gone : Int) (target : Nat) :
    Proceeds s (searchAhead fuel s place segment off dist gone target).state := by
  induction fuel generalizing s place segment off dist gone with
  | zero => exact .refl s
  | succ fuel ih =>
    have looked := lookupHeader_proceeds s true segment
    unfold searchAhead
    dsimp only
    split
    · exact looked
    split
    · exact looked
    split
    · exact looked
    split
    · exact looked
    · exact looked.trans (ih ..)

theorem relate_proceeds (s : State) (p : Located) (d : Derived) : Proceeds s (relate s p d).1 := by
  have searched := searchAhead_proceeds s (walkFuel (mm p.offset) s.tables.param.window) .current
    p.segment (mm p.offset) s.tables.param.window (-(p.offset : Int)) d.segment
  simp only [relate]
  split
  · exact .refl s
  · split
    · exact .refl s
    · split <;> exact searched

theorem adopt_proceeds (s : State) (d : Derived) : Proceeds s (adopt s d) :=
  (setOpu_proceeds s _ _ s.opu.route s.opu.report).trans (setBru_proceeds _ _)

theorem leaveSegments_proceeds (s : State) (passed : List (Nat × Header)) :
    Proceeds s (leaveSegments s passed) := by
  unfold leaveSegments
  induction passed generalizing s with
  | nil => exact .refl s
  | cons x rest ih => exact (leaveSegment_proceeds s x.1 x.2).trans (ih _)

theorem correct_proceeds (s : State) (p : Located) (d : Derived) (r : Relation) :
    Proceeds s (correct s p d r) := by
  cases r with
  | notFound => exact .refl s
  | same | behind => exact setPosition_proceeds s _
  | ahead e passed => exact (leaveSegments_proceeds s passed).trans (setPosition_proceeds _ _)

theorem agree_proceeds (s : State) (p : Located) (d : Derived) (r : Relation) (ident : Nat) :
    Proceeds s (agree s p d r ident) :=
  (correct_proceeds s p d r).trans ((setBru_proceeds _ _).trans
    ((setPosition_proceeds _ _).trans (setBru_proceeds _ _)))

theorem disagree_proceeds (s : State) (d : Option Derived) (error : Option Int) (ident : Nat) :
    Proceeds s (disagree s d error ident) := by
  have counted := (setBru_proceeds s { s.bru with
    agreement := 0, disagreement := raisedCount s.bru.disagreement }).trans
    (setFlag_proceeds _ .beaconDisagree)
  unfold disagree
  split
  · exact .ite _ (counted.trans ((adopt_proceeds _ _).trans (setBru_proceeds _ _)))
      (counted.trans (setBru_proceeds _ _))
  · exact counted.trans (setBru_proceeds _ _)

theorem handleLost_proceeds (s : State) (d : Option Derived) (ident : Nat) :
    Proceeds s (handleLost s d ident) := by
  cases d with
  | none => exact (setFlag_proceeds s _).trans (setBru_proceeds _ _)
  | some d => exact (adopt_proceeds s d).trans ((setBru_proceeds _ _).trans (setBru_proceeds _ _))

theorem handleKnown_proceeds (s : State) (n : Fin 2) (e : BeaconEntry) (b : PendingBeacon) :
    Proceeds s (handleKnown s n e b) := by
  have derived := derivedPosition_proceeds s n e b.latched
  unfold handleKnown
  dsimp only
  split
  · exact derived.trans (handleLost_proceeds _ _ _)
  · next p _ =>
    split
    · exact derived.trans (disagree_proceeds _ _ _ _)
    · next d _ =>
      have related := derived.trans (relate_proceeds _ p d)
      exact .ite _ (related.trans (agree_proceeds _ _ _ _ _))
        (related.trans (disagree_proceeds _ _ _ _))

theorem handleReader_proceeds (s : State) (n : Fin 2) : Proceeds s (handleReader s n) := by
  unfold handleReader
  split
  · exact .refl s
  · split
    · exact (setFlag_proceeds s _).trans ((setBru_proceeds _ _).trans (setBru_proceeds _ _))
    · exact (handleKnown_proceeds s n _ _).trans (setBru_proceeds _ _)

theorem beaconStage_proceeds (s : State) : Proceeds s (beaconStage s) :=
  (driftStage_proceeds s).trans ((handleReader_proceeds _ 0).trans (handleReader_proceeds _ 1))

/-! ## The report and what it starts -/

theorem placementStage_proceeds (s : State) : Proceeds s (placementStage s) :=
  setOpu_proceeds s s.opu.position s.opu.trail s.opu.route _

theorem recomputeInUse_proceeds (s : State) : Proceeds s (recomputeInUse s) := by
  unfold recomputeInUse
  split
  · exact setSgc_proceeds s rfl
  · exact (walkFrom_proceeds s (by decide) _ _ _ _ _ _).trans (setSgc_proceeds _ rfl)

theorem windowReport_proceeds (s : State) : Proceeds s (windowReport s) :=
  .ite _ (setSlu_proceeds s _) ((setSlu_proceeds s _).trans (makeHeldNeeds_proceeds _))

end Sys2Proof.Proofs

/-! SUPPORT. The distance and the speed of a position update (R20 to R24): increments, medians, and what a counted
and an uncounted update leave. -/

namespace Sys2Proof.Proofs

open Sys2Proof.Machine

/-! ## Increments and medians (R1, R20, R21) -/

theorem signedDiff_eq (x y : Int) : signedDiff x y = (x - y + 32768) % 65536 - 32768 := by
  simp only [signedDiff, Int.bmod]
  split <;> omega

/-- The increment of an axle of the table, when it is a candidate (R20). -/
def axleIncrement (s : State) (i : Fin 8) : Option Int :=
  match s.tables.axle[i] with
  | none => none
  | some a =>
    if a.odometry = true ∧ s.sit.pulse[a.slot].state = .fresh then
      match s.sit.pulse[a.slot].view, s.sit.previous[a.slot] with
      | some v, some before =>
        some (((v.value - before + 32768) % 65536 - 32768) * (a.umPerPulse : Int))
      | _, _ => none
    else none

theorem candidate_axle (s : State) (i : Fin 8) :
    candidate s s.tables.axle[i] = axleIncrement s i := by
  unfold candidate axleIncrement
  cases s.tables.axle[i] with
  | none => rfl
  | some a =>
    simp only [signedDiff_eq] <;> rfl

theorem toList_eq_finRange {α : Type} {n : Nat} (v : Vector α n) :
    v.toList = (List.finRange n).map fun i => v[i] := by
  refine List.ext_getElem (by simp) fun i _ _ => ?_
  simp

theorem increments_eq (s : State) : increments s = (List.finRange 8).filterMap (axleIncrement s) := by
  rw [increments, toList_eq_finRange, List.filterMap_map]
  exact List.filterMap_congr fun i _ => candidate_axle s i

/-- The middle of a list in order (R1). -/
def middle (ys : List Int) : Int :=
  if ys.length % 2 = 1 then ys.getD (ys.length / 2) 0
  else (ys.getD (ys.length / 2 - 1) 0 + ys.getD (ys.length / 2) 0) / 2

theorem median_eq_middle {xs ys : List Int} (perm : ys.Perm xs) (sorted : ys.Pairwise (· ≤ ·)) :
    median xs = middle ys := by
  have same : xs.insertionSort (· ≤ ·) = ys :=
    ((List.perm_insertionSort _ xs).trans perm.symm).eq_of_pairwise'
      (List.pairwise_insertionSort _ xs) sorted
  simp only [median, same, middle, floorDiv]
  rfl

theorem countedDistance_of_kept {incs : List Int} (h : keptIncrements incs ≠ []) :
    countedDistance incs = some (median (keptIncrements incs)) := by
  unfold countedDistance
  split
  · next none_kept => exact absurd none_kept h
  · rfl

theorem countedDistance_of_none_kept {incs : List Int} (h : keptIncrements incs = []) :
    countedDistance incs = none := by
  simp [countedDistance, h]

/-! ## What the odometry leaves (R20 to R23, R30, R52) -/

@[simp] theorem flag_setOpu (s : State) (x : Opu) (f : Flag) : (s.setOpu x).flag f = s.flag f := rfl

@[simp] theorem flag_setBru (s : State) (x : Bru) (f : Flag) : (s.setBru x).flag f = s.flag f := rfl

@[simp] theorem flag_setSit (s : State) (x : Sit) (f : Flag) : (s.setSit x).flag f = s.flag f := rfl

/-- A counted update: the hold counter 0, the distance renewed. -/
theorem odometryStage_counted {s : State} {d : Int} (h : countedDistance (increments s) = some d) :
    (odometryStage s).opu = { s.opu with hold := 0, lastDistance := d } ∧
    (odometryStage s).bru = s.bru := by
  simp [odometryStage, h]

/-- An uncounted update, up to the eighth in a row: the distance is held. -/
theorem odometryStage_held {s : State} (h : countedDistance (increments s) = none)
    (few : s.opu.hold < 8) :
    (odometryStage s).opu = { s.opu with hold := s.opu.hold + 1 } ∧
    (odometryStage s).bru = s.bru := by
  have raised : raisedHold s.opu.hold = s.opu.hold + 1 := if_pos (few.trans (by decide))
  have below : s.opu.hold + 1 < Config.holdLimit := Nat.succ_lt_succ few
  simp [odometryStage, h, uncounted, raised, below]

/-- The ninth uncounted update in a row and those after it: the distance is 0, and the position is given up. -/
theorem odometryStage_lost {s : State} (h : countedDistance (increments s) = none)
    (many : 8 ≤ s.opu.hold) :
    (odometryStage s).opu = { s.opu with
      hold := max 9 s.opu.hold, lastDistance := 0, position := none
      trail := if s.opu.position.isNone then s.opu.trail else [] } ∧
    (s.opu.position ≠ none →
      (odometryStage s).bru = { s.bru with agreement := 0, disagreement := 0, distance := 0 } ∧
      (odometryStage s).flag .positionLost = true) := by
  have raised : raisedHold s.opu.hold = max 9 s.opu.hold := by
    unfold raisedHold
    split
    · next below =>
      have : s.opu.hold < 9 := below
      omega
    · next above =>
      have : ¬ s.opu.hold < 9 := above
      omega
  have reached : ¬ max 9 s.opu.hold < Config.holdLimit := Nat.not_lt.mpr (Nat.le_max_left _ _)
  cases at_ : s.opu.position with
  | none => simp [odometryStage, h, uncounted, raised, reached, at_]
  | some p =>
    refine ⟨?_, fun _ => ⟨?_, ?_⟩⟩
    · simp [odometryStage, h, uncounted, raised, reached, at_, enterLost]
    · simp [odometryStage, h, uncounted, raised, reached, at_, enterLost]
    · simp [odometryStage, h, uncounted, raised, reached, at_, enterLost]

theorem odometryStage_odoHold {s : State} (h : countedDistance (increments s) = none) :
    (odometryStage s).flag .odoHold = true := by
  simp only [odometryStage, h, flag_setSit]
  simp only [uncounted, State.flag_setFlag]
  simp

theorem uncounted_flag {s : State} {f : Flag} (h : s.flag f = true) : (uncounted s).flag f = true := by
  simp only [uncounted, State.flag_setFlag]
  split
  · simp [h]
  · split
    · simp [h]
    · simp [enterLost, h]

theorem odometryStage_axleExcluded {s : State} (h : axleExcluded (increments s) = true) :
    (odometryStage s).flag .axleExcluded = true := by
  simp only [odometryStage, flag_setSit]
  split
  · simp [h]
  · exact uncounted_flag (by simp [h])

theorem odometryStage_sit (s : State) :
    (odometryStage s).sit = { s.sit with previous := renewedPrevious s.sit } := by
  simp only [odometryStage]
  split <;> simp

/-- What the odometry leaves of its block whether or not the update is counted. -/
theorem odometryStage_opu (s : State) :
    (odometryStage s).opu.history = s.opu.history ∧ (odometryStage s).opu.updateDue = s.opu.updateDue ∧
    (odometryStage s).opu.route = s.opu.route := by
  cases counted : countedDistance (increments s) with
  | some d => simp [(odometryStage_counted counted).1]
  | none =>
    rcases Nat.lt_or_ge s.opu.hold 8 with few | many
    · simp [(odometryStage_held counted few).1]
    · simp [(odometryStage_lost counted many).1]

/-! ## Speed (R24) -/

theorem sumInt_eq (xs : List Int) : sumInt xs = xs.sum := rfl

/-- The speed is 0 for a movement back, and up to 30 m/s. -/
theorem speedOf_eq (history : List Int) (period : Nat) : speedOf history period =
    if history.sum < 0 then 0 else min 30000 (history.sum.toNat / (8 * period)) := by
  simp only [speedOf, sumInt_eq, floorDiv, Config.speedLimit]
  rw [limitInt_eq _ (by decide)]
  split
  · next back =>
    have quotient : history.sum / ((8 * period : Nat) : Int) ≤ 0 := by
      rcases Nat.eq_zero_or_pos (8 * period) with none | some
      · simp [none]
      · exact Int.ediv_nonpos_of_nonpos_of_neg back.le (Int.natCast_pos.mpr some)
    omega
  · next forward =>
    obtain ⟨n, hn⟩ := Int.eq_ofNat_of_zero_le (not_lt.mp forward)
    have quotient : history.sum / ((8 * period : Nat) : Int) = ((n / (8 * period) : Nat) : Int) := by
      rw [hn]
      rfl
    rw [quotient, hn, Int.toNat_natCast]
    generalize n / (8 * period) = q
    push_cast
    omega

end Sys2Proof.Proofs

/-! SUPPORT. A position update in its parts (R19): what is measured, what is reconciled, what is reported. A
position that the ninth uncounted update gives up stays LOST through the update (R22, R30). -/

namespace Sys2Proof.Proofs

open Sys2Proof.Machine

/-! ## The parts of an update -/

/-- The state with the distance of the update in its history, before the reference point moves. -/
def measured (s : State) : State :=
  speedStage (odometryStage (s.setOpu { s.opu with updateDue := false }))

/-- The state with the reference point moved and the beacons handled. -/
def reconciled (s : State) : State := beaconStage (advanceStage (measured s))

/-- The state with the position reported, before the in-use set is replaced. -/
def reported (s : State) : State := placementStage (reconciled s)

theorem positionUpdate_eq (s : State) :
    positionUpdate s = windowReport (recomputeInUse (reported s)) := rfl

theorem exec_positionUpdate (s : State) :
    exec .positionUpdate s = .next (if s.opu.updateDue then positionUpdate s else s) := rfl

theorem exec_positionUpdate_due {s : State} (due : s.opu.updateDue = true) :
    exec .positionUpdate s = .next (positionUpdate s) := by
  simp [exec_positionUpdate, due]

theorem reconciled_proceeds (s : State) : Proceeds (measured s) (reconciled s) :=
  (advanceStage_proceeds _).trans (beaconStage_proceeds _)

theorem positionUpdate_proceeds (s : State) : Proceeds (reconciled s) (positionUpdate s) :=
  (placementStage_proceeds _).trans ((recomputeInUse_proceeds _).trans (windowReport_proceeds _))

theorem measured_proceeds (s : State) : Proceeds (measured s) (positionUpdate s) :=
  (reconciled_proceeds s).trans (positionUpdate_proceeds s)

@[simp] theorem positionUpdate_opu (s : State) : (positionUpdate s).opu = (reported s).opu := by
  simp [positionUpdate_eq]

@[simp] theorem positionUpdate_bru (s : State) : (positionUpdate s).bru = (reconciled s).bru := by
  simp [positionUpdate_eq, reported]

@[simp] theorem reported_opu (s : State) :
    (reported s).opu = { (reconciled s).opu with report := positionReport (reconciled s) } := rfl

/-! ## The in-use set is left by the window report (R66, R68) -/

@[simp] theorem offerFetch_inUse (s : State) (n : Need) : (offerFetch s n).sgc.inUse = s.sgc.inUse := by
  simp only [offerFetch]
  split <;> simp [freeFetch]

@[simp] theorem makeNeed_inUse (s : State) (n : Need) : (makeNeed s n).sgc.inUse = s.sgc.inUse := by
  simp only [makeNeed]
  split <;> split <;> simp

@[simp] theorem makeNeeds_inUse (s : State) (ns : List Need) :
    (makeNeeds s ns).sgc.inUse = s.sgc.inUse := by
  unfold makeNeeds
  induction ns generalizing s with
  | nil => rfl
  | cons n ns ih => simp [ih]

@[simp] theorem windowReport_inUse (s : State) : (windowReport s).sgc.inUse = s.sgc.inUse := by
  simp only [windowReport, makeHeldNeeds]
  split <;> simp

theorem recomputeInUse_inUse_lost {s : State} (lost : s.opu.position = none) :
    (recomputeInUse s).sgc.inUse = [] := by
  simp [recomputeInUse, lost]

theorem positionUpdate_inUse_lost {s : State} (lost : (reconciled s).opu.position = none) :
    (positionUpdate s).sgc.inUse = [] := by
  rw [positionUpdate_eq, windowReport_inUse, recomputeInUse_inUse_lost]
  exact lost

/-! ## No beacon, no position -/

theorem handleReader_of_none {s : State} {n : Fin 2} (h : s.bru.reader[n] = none) :
    handleReader s n = s := by
  simp only [handleReader]
  split
  · rfl
  · next b pending => rw [h] at pending; cases pending

/-- With no beacon pending the reconciliation is the drift alone (R45). -/
theorem beaconStage_of_none {s : State} (h : ∀ n : Fin 2, s.bru.reader[n] = none) :
    beaconStage s = driftStage s := by
  have drifted (n : Fin 2) : (driftStage s).bru.reader[n] = none := by
    unfold driftStage
    split
    · exact h n
    · exact h n
  rw [beaconStage, handleReader_of_none (drifted 0), handleReader_of_none (drifted 1)]

/-- Without a position nothing moves and nothing drifts. -/
theorem reconciled_of_lost {s : State} (h : ∀ n : Fin 2, (measured s).bru.reader[n] = none)
    (lost : (measured s).opu.position = none) : reconciled s = measured s := by
  have stays : advanceStage (measured s) = measured s := by simp [advanceStage, lost]
  rw [reconciled, stays, beaconStage_of_none h, driftStage, lost]

/-- Settles O23: the odometry gives the position up, and without one no later stage gives it back. -/
theorem ninthUncountedLosesPosition : Obligations.NinthUncountedLosesPosition := by
  intro s t due many at_ uncountable quiet run
  rw [exec_positionUpdate_due due] at run
  cases run
  obtain ⟨opu, rest⟩ := odometryStage_lost
    (s := s.setOpu { s.opu with updateDue := false }) uncountable many
  obtain ⟨bru, lostFlag⟩ := rest at_
  have held : (measured s).flag .odoHold = true :=
    odometryStage_odoHold (s := s.setOpu { s.opu with updateDue := false }) uncountable
  have given : s.opu.position.isNone = false := by
    simp [Option.ne_none_iff_isSome.mp at_]
  have measuredOpu : (measured s).opu.position = none ∧ (measured s).opu.trail = [] ∧
      (measured s).opu.hold = max 9 s.opu.hold ∧ (measured s).opu.lastDistance = 0 ∧
      (measured s).opu.route = s.opu.route := by
    simp [measured, speedStage, opu, given]
  have measuredBru : (measured s).bru =
      { s.bru with agreement := 0, disagreement := 0, distance := 0 } := bru
  obtain ⟨position, trail, hold, distance, route⟩ := measuredOpu
  have same : reconciled s = measured s :=
    reconciled_of_lost (by simpa [measuredBru] using quiet) position
  have flags := (measured_proceeds s).flags
  have noneInUse : (positionUpdate s).sgc.inUse = [] :=
    positionUpdate_inUse_lost (by rw [same, position])
  simp only [positionUpdate_opu, positionUpdate_bru, reported_opu, same, measuredBru]
  exact ⟨position, trail, hold, distance, flags _ lostFlag, flags _ held, trivial, trivial, trivial, route,
    noneInUse⟩

end Sys2Proof.Proofs

/-! SUPPORT. The advance of the reference point (R26 to R31) and the drift (R51): the machine's moves read the
same as `Advances` does. -/

namespace Sys2Proof.Proofs

open Sys2Proof.Machine

/-! ## A segment left (R28, R31) -/

/-- The reference point of a motion, with its confirmation. -/
def located (m : Motion) (confirmed : Bool) : Located :=
  { segment := m.segment, offset := m.offset, overrun := m.overrun, confirmed := confirmed }

/-- A state that leaves behind what a motion does: its trail, its queue, and the flag of a mismatch. -/
structure Carries (s : State) (m : Motion) : Prop where
  trail : s.opu.trail = m.trail
  route : s.opu.route = m.route
  mismatch : m.mismatch = true → s.flag .routeMismatch = true

theorem Carries.of_same {s t : State} {m n : Motion} (h : Carries s m) (opu : t.opu.trail = s.opu.trail)
    (route : t.opu.route = s.opu.route) (flag : ∀ f, s.flag f = true → t.flag f = true)
    (trails : n.trail = m.trail) (routes : n.route = m.route) (mismatches : n.mismatch = m.mismatch) :
    Carries t n where
  trail := by rw [opu, h.trail, trails]
  route := by rw [route, h.route, routes]
  mismatch hm := flag _ (h.mismatch (mismatches ▸ hm))

theorem leaveSegment_carries {s : State} {m : Motion} (h : Carries s m) (n : Nat) (hd : Header) :
    Carries (leaveSegment s n hd) (m.leave n hd) := by
  obtain ⟨trail, route, mismatch⟩ := h
  have trails : (leaveSegment s n hd).opu.trail = (m.leave n hd).trail := by
    rw [leaveSegment_trail, trail]
    unfold Motion.leave
    dsimp only
    split
    · rfl
    · split
      · rfl
      · split <;> rfl
  refine ⟨trails, ?_, ?_⟩ <;> simp only [leaveSegment, Motion.leave] <;> split
  · simpa using route
  · cases queue : m.route with
    | nil => simp [route, queue, frontNames]
    | cons e later =>
      by_cases names : e.segment = n
      · simp [route, queue, frontNames, names]
      · simp [route, queue, frontNames, names]
  · exact mismatch
  · cases queue : m.route with
    | nil => simp [route, queue, frontNames]
    | cons e later =>
      by_cases names : e.segment = n
      · simpa [route, queue, frontNames, names] using mismatch
      · simp [route, queue, frontNames, names]

theorem chosenSuccessor_eq (m : Motion) (n : Nat) (hd : Header) :
    chosenSuccessor m.route n hd = (m.leave n hd).segment := by
  unfold chosenSuccessor Motion.leave
  dsimp only
  split
  · rfl
  · cases m.route with
    | nil => rfl
    | cons e later =>
      by_cases names : e.segment = n
      · simp [names]
      · simp [names]

/-! ## The advance (R27, R29, R30) -/

/-- A position given up (R30, R52). -/
structure GivenUp (s : State) : Prop where
  position : s.opu.position = none
  trail : s.opu.trail = []
  flag : s.flag .positionLost = true
  agreement : s.bru.agreement = 0
  disagreement : s.bru.disagreement = 0
  distance : s.bru.distance = 0

theorem enterLost_givenUp (s : State) : GivenUp (enterLost s) := by
  constructor <;> simp [enterLost]

/-- What a state holds in which a motion has come to rest, unless its end overrun lost the position. -/
structure Rests (before t : State) (m : Motion) (confirmed lost : Bool) : Prop where
  route : t.opu.route = m.route
  mismatch : m.mismatch = true → t.flag .routeMismatch = true
  reader : t.bru.reader = before.bru.reader
  gone : lost = true → GivenUp t
  stands : lost = false → t.opu.position = some (located m confirmed) ∧ t.opu.trail = m.trail ∧
    t.bru = before.bru

theorem Carries.rests {s t : State} {m : Motion} {confirmed : Bool} (h : Carries t m)
    (at_ : t.opu.position = some (located m confirmed)) (bru : t.bru = s.bru) :
    Rests s t m confirmed false :=
  ⟨h.route, h.mismatch, congrArg Bru.reader bru, nofun, fun _ => ⟨at_, h.trail, bru⟩⟩

theorem Carries.lookupHeader {s : State} {m : Motion} (h : Carries s m) (n : Nat) :
    Carries (lookupHeader true s n).1 m :=
  h.of_same (by simp) (by simp) (lookupHeader_proceeds s true n).flags rfl rfl rfl

theorem reachEnd_rests {s t : State} {m : Motion} {confirmed : Bool} (h : Carries t m)
    (bru : t.bru = s.bru) (hd : Header) :
    Rests s (reachEnd t (located m confirmed) hd)
      { m with
        offset := (hd.length - 1) * 1000
        overrun := m.overrun + (m.offset - (hd.length - 1) * 1000) }
      confirmed (decide (2000000 < m.overrun + (m.offset - (hd.length - 1) * 1000))) := by
  have proceeds := reachEnd_proceeds t (located m confirmed) hd
  refine ⟨?_, fun hm => proceeds.flags _ (h.mismatch hm), ?_, fun lost => ?_, fun stays => ?_⟩
  · unfold reachEnd
    dsimp only
    split <;> exact h.route
  · rw [← bru]
    unfold reachEnd
    dsimp only
    split <;> rfl
  · have exceeds : Config.overrunLimit < m.overrun + (m.offset - endOffset hd) := of_decide_eq_true lost
    simp only [reachEnd, located, exceeds, if_true]
    exact enterLost_givenUp t
  · have under : ¬ Config.overrunLimit < m.overrun + (m.offset - endOffset hd) :=
      of_decide_eq_false stays
    simp only [reachEnd, located, under, if_false]
    exact ⟨rfl, h.trail, bru⟩

/-- The tests of R27, a unit of fuel each: every segment left takes at least 1,000,000 µm off the offset. -/
theorem advanceFrom_advances (fuel : Nat) {before s : State} {m : Motion} {confirmed : Bool}
    (sound : CacheSound s.sgc.sets) (h : Carries s m)
    (at_ : s.opu.position = some (located m confirmed)) (bru : s.bru = before.bru)
    (enough : m.offset < fuel * 1000000) :
    ∃ n lost, Advances (heldHeader s) m n lost ∧
      Rests before (advanceFrom fuel s) n confirmed lost := by
  induction fuel generalizing s m with
  | zero => omega
  | succ fuel ih =>
    have looked := lookupHeader_proceeds s true m.segment
    have carried := h.lookupHeader m.segment
    have keptBru : (lookupHeader true s m.segment).1.bru = before.bru := by simpa using bru
    have keptAt : (lookupHeader true s m.segment).1.opu.position = some (located m confirmed) := by
      simpa using at_
    have read := lookupHeader_snd s true m.segment
    unfold advanceFrom
    simp only [at_]
    split
    · next absent =>
      exact ⟨m, false, .notHeld m (read.symm.trans absent), carried.rests keptAt keptBru⟩
    · next hd present =>
      have held : heldHeader s m.segment = some hd := read.symm.trans present
      split
      · next within => exact ⟨m, false, .within m hd held within, carried.rests keptAt keptBru⟩
      · next beyond =>
        have beyond : hd.length * 1000 ≤ m.offset := not_lt.mp beyond
        split
        · next last => exact ⟨_, _, .ends m hd held beyond last, reachEnd_rests carried keptBru hd⟩
        · next more =>
          have length : 1000 ≤ hd.length := (sound.header present).1
          let looking := (lookupHeader true s m.segment).1
          let next : Motion :=
            { m.leave m.segment hd with offset := m.offset - hd.length * 1000, overrun := 0 }
          let left := leaveSegment looking m.segment hd
          let arrived := left.setOpu { left.opu with position := some (located next confirmed) }
          have leftWays := looked.trans (leaveSegment_proceeds looking m.segment hd)
          have same : heldHeader arrived = heldHeader s := heldHeader_congr leftWays.ways
          have chosen : chosenSuccessor looking.opu.route m.segment hd = next.segment := by
            rw [carried.route, chosenSuccessor_eq]
          obtain ⟨n, lost, advances, rests⟩ := ih (s := arrived) (m := next)
            (by simpa [arrived, left] using sound.lookupHeader true m.segment)
            ((leaveSegment_carries carried m.segment hd).of_same rfl rfl (fun _ => id) rfl rfl rfl)
            rfl (by simpa [arrived, left, looking] using bru)
            (by
              change m.offset - hd.length * 1000 < fuel * 1000000
              omega)
          refine ⟨n, lost, .leaves m n hd lost held beyond more (same ▸ advances), ?_⟩
          change Rests before (advanceFrom fuel (left.setOpu { left.opu with
            position := some (located { next with
              segment := chosenSuccessor looking.opu.route m.segment hd } confirmed) })) n confirmed lost
          rw [chosen]
          exact rests

/-- The offset that the advance may end with (R30). -/
theorem offsetOverflow_rests {before s : State} {m : Motion} {confirmed lost : Bool}
    (h : Rests before s m confirmed lost) :
    Rests before (offsetOverflow s) m confirmed (lost || decide (65535999 < m.offset)) := by
  cases lost with
  | true =>
    have stays : offsetOverflow s = s := by simp [offsetOverflow, (h.gone rfl).position]
    rw [stays]
    exact ⟨h.route, h.mismatch, h.reader, fun _ => h.gone rfl, nofun⟩
  | false =>
    obtain ⟨at_, trail, bru⟩ := h.stands rfl
    by_cases exceeds : 65535999 < m.offset
    · have goes : offsetOverflow s = enterLost s := by
        simp [offsetOverflow, at_, located, Config.offsetLimit, exceeds]
      rw [goes]
      exact ⟨h.route, fun hm => (enterLost_proceeds s).flags _ (h.mismatch hm),
        h.reader, fun _ => enterLost_givenUp s, by simp [exceeds]⟩
    · have stays : offsetOverflow s = s := by
        simp [offsetOverflow, at_, located, Config.offsetLimit, exceeds]
      rw [stays]
      exact ⟨h.route, h.mismatch, h.reader, by simp [exceeds], fun _ => ⟨at_, trail, bru⟩⟩

/-- The motion that the advance starts with (R26). -/
def startMotion (s : State) (p : Located) : Motion :=
  { segment := p.segment, offset := ((p.offset : Int) + s.opu.lastDistance).toNat, overrun := p.overrun,
    trail := s.opu.trail, route := s.opu.route, mismatch := false }

theorem advanceStage_forward {s : State} {p : Located} (sound : CacheSound s.sgc.sets)
    (at_ : s.opu.position = some p) (forward : 0 ≤ (p.offset : Int) + s.opu.lastDistance) :
    ∃ m lost, Advances (heldHeader s) (startMotion s p) m lost ∧
      Rests s (advanceStage s) m p.confirmed (lost || decide (65535999 < m.offset)) := by
  obtain ⟨m, lost, advances, rests⟩ := advanceFrom_advances
    (((p.offset : Int) + s.opu.lastDistance).toNat / 1000000 + 2) (before := s)
    (s := s.setOpu { s.opu with position := some (located (startMotion s p) p.confirmed) })
    (m := startMotion s p) (confirmed := p.confirmed) sound ⟨rfl, rfl, nofun⟩ rfl rfl
    (by
      change ((p.offset : Int) + s.opu.lastDistance).toNat < _
      omega)
  refine ⟨m, lost, advances, ?_⟩
  have steps : advanceStage s = offsetOverflow (advanceFrom
      (((p.offset : Int) + s.opu.lastDistance).toNat / 1000000 + 2)
      (s.setOpu { s.opu with position := some (located (startMotion s p) p.confirmed) })) := by
    simp only [advanceStage, at_, if_neg (not_lt.mpr forward)]
    rfl
  rw [steps]
  exact offsetOverflow_rests rests

/-- A movement back before the segment's start clamps the offset (R26). -/
theorem advanceStage_back {s : State} {p : Located} (at_ : s.opu.position = some p)
    (back : (p.offset : Int) + s.opu.lastDistance < 0) :
    (advanceStage s).opu = { s.opu with position := some { p with offset := 0 } } ∧
    (advanceStage s).bru = s.bru ∧ (advanceStage s).flag .rollback = true := by
  simp [advanceStage, at_, back]

/-! ## The drift (R51) -/

theorem driftStage_givenUp {s : State} (h : GivenUp s) : driftStage s = s := by
  simp [driftStage, h.position]

theorem driftStage_stands {s : State} {p : Located} (at_ : s.opu.position = some p) :
    let since := s.bru.distance + s.opu.lastDistance.natAbs
    let limit := s.tables.param.drift * 1000000
    (driftStage s).opu = { s.opu with
      position := some { p with confirmed := p.confirmed && decide (since ≤ limit) } } ∧
    (driftStage s).bru.distance = min since (limit + 1) := by
  intro since limit
  have near : driftedDistance s ≤ driftLimit s ↔ since ≤ limit := by
    unfold driftedDistance driftLimit
    omega
  simp only [driftStage, at_, near]
  exact ⟨rfl, rfl⟩

/-! ## The position of an update -/

/-- Up to the eighth uncounted update the odometry leaves the position to the advance (R22). -/
theorem measured_position {s : State} (few : (measured s).opu.hold = 0 ∨ s.opu.hold < 8) :
    (measured s).opu.position = s.opu.position ∧ (measured s).opu.trail = s.opu.trail ∧
    (measured s).opu.route = s.opu.route ∧ (measured s).bru = s.bru := by
  have measuredOf {o : Opu}
      (opu : (odometryStage (s.setOpu { s.opu with updateDue := false })).opu = o)
      (position : o.position = s.opu.position) (trail : o.trail = s.opu.trail)
      (route : o.route = s.opu.route)
      (bru : (odometryStage (s.setOpu { s.opu with updateDue := false })).bru = s.bru) :
      (measured s).opu.position = s.opu.position ∧ (measured s).opu.trail = s.opu.trail ∧
      (measured s).opu.route = s.opu.route ∧ (measured s).bru = s.bru := by
    simp [measured, speedStage, opu, position, trail, route, bru]
  cases counted : countedDistance (increments (s.setOpu { s.opu with updateDue := false })) with
  | some d =>
    obtain ⟨opu, bru⟩ := odometryStage_counted counted
    exact measuredOf opu rfl rfl rfl bru
  | none =>
    rcases Nat.lt_or_ge s.opu.hold 8 with below | above
    · obtain ⟨opu, bru⟩ := odometryStage_held counted below
      exact measuredOf opu rfl rfl rfl bru
    · obtain ⟨opu, -⟩ := odometryStage_lost counted above
      have hold : (measured s).opu.hold = max 9 s.opu.hold := by simp [measured, speedStage, opu]
      omega

/-- With no beacon pending the update's position is the advance's after the drift. -/
theorem reconciled_of_quiet {s : State}
    (quiet : ∀ n : Fin 2, (advanceStage (measured s)).bru.reader[n] = none) :
    reconciled s = driftStage (advanceStage (measured s)) := beaconStage_of_none quiet

theorem positionUpdate_distance (s : State) :
    (positionUpdate s).opu.lastDistance = (measured s).opu.lastDistance :=
  (measured_proceeds s).distance

theorem positionUpdate_hold (s : State) : (positionUpdate s).opu.hold = (measured s).opu.hold :=
  (measured_proceeds s).hold

/-- The flags that the advance leaves set are set after the update. -/
theorem positionUpdate_flag_of_advance {s : State} {f : Flag}
    (h : (advanceStage (measured s)).flag f = true) : (positionUpdate s).flag f = true :=
  ((beaconStage_proceeds _).trans (positionUpdate_proceeds s)).flags f h

/-- An update that moves the reference point back before its segment's start (R26, R51). -/
theorem positionUpdate_back {s : State} {p : Located} (at_ : s.opu.position = some p)
    (quiet : ∀ n : Fin 2, s.bru.reader[n] = none)
    (few : (positionUpdate s).opu.hold = 0 ∨ s.opu.hold < 8)
    (back : (p.offset : Int) + (positionUpdate s).opu.lastDistance < 0) :
    let since := s.bru.distance + (positionUpdate s).opu.lastDistance.natAbs
    let limit := s.tables.param.drift * 1000000
    (positionUpdate s).opu.position =
      some { p with offset := 0, confirmed := p.confirmed && decide (since ≤ limit) } ∧
    (positionUpdate s).opu.trail = s.opu.trail ∧ (positionUpdate s).opu.route = s.opu.route ∧
    (positionUpdate s).flag .rollback = true ∧
    (positionUpdate s).bru.distance = min since (limit + 1) := by
  intro since limit
  rw [positionUpdate_hold] at few
  rw [positionUpdate_distance] at back
  obtain ⟨position, trail, route, bru⟩ := measured_position few
  obtain ⟨opu, keptBru, rollback⟩ := advanceStage_back (position.trans at_) back
  have same : reconciled s = driftStage (advanceStage (measured s)) :=
    reconciled_of_quiet (by simpa [keptBru, bru] using quiet)
  obtain ⟨drifted, distance⟩ := driftStage_stands
    (s := advanceStage (measured s)) (p := { p with offset := 0 }) (by simp [opu])
  have tables : (advanceStage (measured s)).tables = s.tables := by simp [measured]
  rw [tables] at drifted distance
  simp only [opu, keptBru, bru, ← positionUpdate_distance s] at drifted distance
  have ends := positionUpdate_opu s
  rw [reported_opu, same, drifted] at ends
  exact ⟨by rw [ends], by rw [ends]; exact trail, by rw [ends]; exact route,
    positionUpdate_flag_of_advance rollback, by rw [positionUpdate_bru, same, distance]⟩

/-- An update that moves the reference point forward, or back within its segment (R26 to R31, R51). -/
theorem positionUpdate_forward {s : State} {p : Located} (sound : CacheSound s.sgc.sets)
    (at_ : s.opu.position = some p) (quiet : ∀ n : Fin 2, s.bru.reader[n] = none)
    (few : (positionUpdate s).opu.hold = 0 ∨ s.opu.hold < 8)
    (forward : 0 ≤ (p.offset : Int) + (positionUpdate s).opu.lastDistance) :
    let since := s.bru.distance + (positionUpdate s).opu.lastDistance.natAbs
    let limit := s.tables.param.drift * 1000000
    ∃ m lost, Advances (heldHeader s)
        { segment := p.segment
          offset := ((p.offset : Int) + (positionUpdate s).opu.lastDistance).toNat
          overrun := p.overrun, trail := s.opu.trail, route := s.opu.route, mismatch := false } m lost ∧
      (positionUpdate s).opu.route = m.route ∧
      (m.mismatch = true → (positionUpdate s).flag .routeMismatch = true) ∧
      (lost = true ∨ 65535999 < m.offset → GivenUp (positionUpdate s)) ∧
      (lost = false → m.offset ≤ 65535999 →
        (positionUpdate s).opu.position =
          some (located m (p.confirmed && decide (since ≤ limit))) ∧
        (positionUpdate s).opu.trail = m.trail ∧
        (positionUpdate s).bru.distance = min since (limit + 1)) := by
  intro since limit
  rw [positionUpdate_hold] at few
  rw [positionUpdate_distance] at forward
  obtain ⟨position, trail, route, bru⟩ := measured_position few
  have sgc : (measured s).sgc = s.sgc := by simp [measured]
  obtain ⟨m, lost, advances, rests⟩ :=
    advanceStage_forward (sgc ▸ sound) (position.trans at_) forward
  have same : reconciled s = driftStage (advanceStage (measured s)) :=
    reconciled_of_quiet (by simpa [rests.reader, bru] using quiet)
  have started : startMotion (measured s) p =
      { segment := p.segment
        offset := ((p.offset : Int) + (positionUpdate s).opu.lastDistance).toNat
        overrun := p.overrun, trail := s.opu.trail, route := s.opu.route, mismatch := false } := by
    simp only [startMotion, positionUpdate_distance, trail, route]
  have held : heldHeader (measured s) = heldHeader s := heldHeader_congr fun i => by rw [sgc]
  rw [started, held] at advances
  refine ⟨m, lost, advances, ?_, fun hm => positionUpdate_flag_of_advance (rests.mismatch hm),
    fun gone => ?_, fun kept within => ?_⟩
  · rw [positionUpdate_opu, reported_opu, same]
    unfold driftStage
    split <;> exact rests.route
  · obtain ⟨none_, trail, flag, agreement, disagreement, distance⟩ :=
      rests.gone (by simpa using gone)
    have stays := driftStage_givenUp ⟨none_, trail, flag, agreement, disagreement, distance⟩
    have opu : (positionUpdate s).opu = (reported s).opu := positionUpdate_opu s
    have bru : (positionUpdate s).bru = (advanceStage (measured s)).bru := by
      rw [positionUpdate_bru, same, stays]
    rw [reported_opu, same, stays] at opu
    exact ⟨by rw [opu]; exact none_, by rw [opu]; exact trail, positionUpdate_flag_of_advance flag,
      by rw [bru]; exact agreement, by rw [bru]; exact disagreement, by rw [bru]; exact distance⟩
  · obtain ⟨stands, trail, keptBru⟩ := rests.stands (by simp [kept, within])
    obtain ⟨drifted, distance⟩ := driftStage_stands stands
    have tables : (advanceStage (measured s)).tables = s.tables := by simp [measured]
    have moved : (advanceStage (measured s)).opu.lastDistance = (positionUpdate s).opu.lastDistance := by
      rw [(advanceStage_proceeds _).distance, positionUpdate_distance]
    rw [tables, moved, keptBru, bru] at drifted distance
    have opu := positionUpdate_opu s
    rw [reported_opu, same, drifted] at opu
    exact ⟨by rw [opu]; rfl, by rw [opu]; exact trail, by rw [positionUpdate_bru, same, distance]⟩

end Sys2Proof.Proofs

/-! SUPPORT. The placement of the axles behind the reference point, and how deep on the trail they lie (R36,
R37). -/

namespace Sys2Proof.Proofs

open Sys2Proof.Machine

/-! ## A point behind the reference point (R36) -/

/-- The length of the newest `n` entries of a trail. -/
def newerLength (trail : List TrailEntry) (n : Nat) : Nat :=
  ((trail.take n).map TrailEntry.length).sum

theorem newerLength_cons (e : TrailEntry) (older : List TrailEntry) (n : Nat) :
    newerLength (e :: older) (n + 1) = e.length + newerLength older n := by
  simp [newerLength]

theorem placeOnTrail_entry {trail : List TrailEntry} {n k r : Nat} {e : TrailEntry}
    (at_ : trail[k]? = some e) (beyond : newerLength trail k < r)
    (within : r ≤ newerLength trail (k + 1)) :
    placeOnTrail n trail r = some ⟨e.segment, newerLength trail (k + 1) - r, .trail (n + k)⟩ := by
  induction trail generalizing n k r with
  | nil => simp at at_
  | cons first older ih =>
    cases k with
    | zero =>
      obtain rfl : first = e := by simpa using at_
      have here : r ≤ first.length := by simpa [newerLength] using within
      simp [placeOnTrail, here, newerLength]
    | succ k =>
      rw [newerLength_cons] at beyond within
      have on : ¬ r ≤ first.length := by omega
      have rest := ih (n := n + 1) (k := k) (r := r - first.length) (by simpa using at_) (by omega)
        (by omega)
      have offset : newerLength older (k + 1) - (r - first.length) =
          newerLength (first :: older) (k + 1 + 1) - r := by
        rw [newerLength_cons]
        omega
      rw [placeOnTrail, if_neg on, rest, offset, Nat.add_right_comm n 1 k, Nat.add_assoc n k 1]

theorem placeOnTrail_beyond {trail : List TrailEntry} {n r : Nat}
    (beyond : newerLength trail trail.length < r) : placeOnTrail n trail r = none := by
  induction trail generalizing n r with
  | nil => rfl
  | cons first older ih =>
    rw [List.length_cons, newerLength_cons] at beyond
    rw [placeOnTrail, if_neg (by omega)]
    exact ih (by omega)

/-- What R36 says of the point `d` mm behind a reference position. -/
def Behind (position : Option Located) (trail : List TrailEntry) (d : Nat) (q : Option RoutePoint) : Prop :=
  (position = none → q = none) ∧
  ∀ p, position = some p →
    (d ≤ p.offset / 1000 → q = some ⟨p.segment, p.offset / 1000 - d, .current⟩) ∧
    (∀ n e, trail[n]? = some e → p.offset / 1000 + newerLength trail n < d →
      d ≤ p.offset / 1000 + newerLength trail (n + 1) →
      q = some ⟨e.segment, p.offset / 1000 + newerLength trail (n + 1) - d, .trail n⟩) ∧
    (p.offset / 1000 + newerLength trail trail.length < d → q = none)

theorem placeBehind_behind (position : Option Located) (trail : List TrailEntry) (d : Nat) :
    Behind position trail d (placeBehind position trail d) := by
  refine ⟨fun h => h ▸ rfl, fun p at_ => ?_⟩
  subst at_
  generalize whole : p.offset / 1000 = o
  have start : mm p.offset = o := whole
  simp only [placeBehind, start]
  refine ⟨fun here => if_pos here, fun n e entry beyond within => ?_, fun beyond => ?_⟩
  · have offset : newerLength trail (n + 1) - (d - o) = o + newerLength trail (n + 1) - d := by omega
    rw [if_neg (by omega), placeOnTrail_entry entry (by omega) (by omega), Nat.zero_add, offset]
  · rw [if_neg (by omega)]
    exact placeOnTrail_beyond (by omega)

/-! ## Both axles of a bogie, or neither (R37) -/

theorem axlePoint_leadOf (s : State) (b : BogieId) :
    axlePoint s (leadOf b) = (placeBogie s b).map Prod.fst := by
  have bogie : Fin.ofNat 4 ((leadOf b).val / 2) = b := by
    apply Fin.ext
    simp [leadOf]
  have even : (leadOf b).val % 2 = 0 := by simp [leadOf]
  simp only [axlePoint, bogie, even, if_true]
  cases placeBogie s b <;> rfl

theorem axlePoint_trailOf (s : State) (b : BogieId) :
    axlePoint s (trailOf b) = (placeBogie s b).map Prod.snd := by
  have bogie : Fin.ofNat 4 ((trailOf b).val / 2) = b := by
    apply Fin.ext
    simp [trailOf]
    omega
  have odd : ¬ (trailOf b).val % 2 = 0 := by simp [trailOf]
  simp only [axlePoint, bogie, odd, if_false]
  cases placeBogie s b <;> rfl

theorem placeBogie_both {s : State} {b : BogieId} {lead trail : RoutePoint}
    (enabled : s.tables.bogie[b].enabled = true)
    (hl : placeBehind s.opu.position s.opu.trail
      (s.tables.bogie[b].pivot - s.tables.bogie[b].semi) = some lead)
    (ht : placeBehind s.opu.position s.opu.trail
      (s.tables.bogie[b].pivot + s.tables.bogie[b].semi) = some trail) :
    placeBogie s b = some (lead, trail) := by
  simp only [placeBogie, enabled, if_true, hl, ht]

theorem placeBogie_neither {s : State} {b : BogieId} (h : s.tables.bogie[b].enabled = false ∨
    placeBehind s.opu.position s.opu.trail
      (s.tables.bogie[b].pivot - s.tables.bogie[b].semi) = none ∨
    placeBehind s.opu.position s.opu.trail
      (s.tables.bogie[b].pivot + s.tables.bogie[b].semi) = none) : placeBogie s b = none := by
  unfold placeBogie
  dsimp only
  split
  · next enabled =>
    rcases h with off | noLead | noTrail
    · rw [off] at enabled
      cases enabled
    · rw [noLead]
    · rw [noTrail]
      split
      · next impossible => cases impossible
      · rfl
  · rfl

theorem axlePoint_lost {s : State} (lost : s.opu.position = none) (c : ChannelId) :
    axlePoint s c = none := by
  have unplaced : placeBogie s (Fin.ofNat 4 (c.val / 2)) = none :=
    placeBogie_neither (.inr (.inl (by rw [lost, placeBehind])))
  simp only [axlePoint, unplaced]

/-! ## The farthest depth (R37) -/

theorem le_foldl_max {α : Type} (f : α → Nat) (xs : List α) (d : Nat) :
    d ≤ xs.foldl (fun m x => max m (f x)) d ∧
    ∀ x ∈ xs, f x ≤ xs.foldl (fun m x => max m (f x)) d := by
  induction xs generalizing d with
  | nil => simp
  | cons x xs ih =>
    obtain ⟨start, members⟩ := ih (max d (f x))
    refine ⟨(le_max_left d (f x)).trans start, fun y hy => ?_⟩
    rcases List.mem_cons.mp hy with rfl | later
    · exact (le_max_right d (f y)).trans start
    · exact members y later

theorem foldl_max_attained {α : Type} (f : α → Nat) (xs : List α) (d : Nat) :
    xs.foldl (fun m x => max m (f x)) d = d ∨
    ∃ x ∈ xs, f x = xs.foldl (fun m x => max m (f x)) d := by
  induction xs generalizing d with
  | nil => simp
  | cons x xs ih =>
    rcases ih (max d (f x)) with start | ⟨y, hy, same⟩
    · rw [List.foldl_cons, start]
      rcases le_total d (f x) with below | above
      · exact .inr ⟨x, List.mem_cons_self, (max_eq_right below).symm⟩
      · exact .inl (max_eq_left above)
    · exact .inr ⟨y, List.mem_cons_of_mem x hy, same⟩

theorem trailDepth_eq_succ {q : Option RoutePoint} {n : Nat} :
    trailDepth q = n + 1 ↔ ∃ p, q = some p ∧ p.place = .trail n := by
  unfold trailDepth
  split
  · next segment offset k => simp
  · next other =>
    refine ⟨nofun, ?_⟩
    rintro ⟨⟨segment, offset, place⟩, rfl, rfl⟩
    exact absurd rfl (other segment offset n)

theorem farthestDepth_ge {points : Vector (Option RoutePoint) 8} {c : ChannelId} {q : RoutePoint}
    {n : Nat} (at_ : points[c] = some q) (place : q.place = .trail n) :
    ∃ deepest, farthestDepth points = some deepest ∧ n + 1 ≤ deepest := by
  have depth : trailDepth points[c] = n + 1 := trailDepth_eq_succ.mpr ⟨q, at_, place⟩
  have below := (le_foldl_max trailDepth points.toList 0).2 points[c] (by simp)
  rw [depth] at below
  refine ⟨_, if_neg ?_, below⟩
  omega

theorem farthestDepth_attained {points : Vector (Option RoutePoint) 8} {deepest : Nat}
    (h : farthestDepth points = some deepest) :
    ∃ (c : ChannelId) (q : RoutePoint) (n : Nat), points[c] = some q ∧ q.place = .trail n ∧
      n + 1 = deepest := by
  unfold farthestDepth at h
  dsimp only at h
  split at h
  · cases h
  · next some_ =>
    cases h
    rcases foldl_max_attained trailDepth points.toList 0 with zero | ⟨x, hx, same⟩
    · exact absurd zero some_
    · obtain ⟨n, hn⟩ := Nat.exists_eq_succ_of_ne_zero some_
      obtain ⟨q, rfl, place⟩ := trailDepth_eq_succ.mp (same.trans hn)
      obtain ⟨i, hi, at_⟩ := List.getElem_of_mem hx
      exact ⟨⟨i, by simpa using hi⟩, q, n, by simpa using at_, place, hn.symm⟩

/-! ## The report of an update -/

theorem positionReport_axle (s : State) (c : ChannelId) : (positionReport s).axle[c] = axlePoint s c := by
  simp [positionReport]

theorem positionReport_depth (s : State) :
    (positionReport s).depth = farthestDepth (positionReport s).axle := by
  simp only [positionReport]

end Sys2Proof.Proofs

/-! SUPPORT. The in-use walk of a position report (R66 to R68, R70): the segments that it enters, the ways that
its lookups make most recently used, and the prefetch needs. -/

namespace Sys2Proof.Proofs

open Sys2Proof.Machine

/-! ## What a lookup of the walk touches (R56, R70) -/

/-- Ways of segments looked up in turn made most recently used. -/
def touchAll (s : State) (ns : List Nat) : State := ns.foldl touchSegment s

theorem lookupHeader_false_fst (s : State) (n : Nat) : (lookupHeader false s n).1 = touchSegment s n := by
  simp only [lookupHeader]
  split <;> rfl

theorem otherWay_eq (w : Fin 2) : otherWay w = 1 - w := by
  revert w
  decide

theorem findWay_of_holds {s : State} (sound : CacheSound s.sgc.sets) {n : Nat} {w : Fin 2}
    (h : ∃ l, s.sgc.sets[setIndex n].ways[w] = some l ∧ l.tag = n / 64) :
    findWay (cacheSetOf s n) (tagOf n) = some w := by
  have holds : wayHolds (cacheSetOf s n) w (tagOf n) = true := (wayHolds_iff _ _ _).mpr h
  match w with
  | 0 => simp [findWay, holds]
  | 1 =>
    have other : wayHolds (cacheSetOf s n) 0 (tagOf n) = false := by
      by_contra first
      obtain ⟨m, hm, tag⟩ := (wayHolds_iff _ _ _).mp (eq_true_of_ne_false first)
      obtain ⟨l, hl, same⟩ := h
      exact (sound (setIndex n)).2 m l hm hl (tag.trans same.symm)
    simp [findWay, holds, other]

theorem touchSegment_of_holds {s : State} (sound : CacheSound s.sgc.sets) {n : Nat} {w : Fin 2}
    (h : ∃ l, s.sgc.sets[setIndex n].ways[w] = some l ∧ l.tag = n / 64) :
    (touchSegment s n).sgc.sets[setIndex n].lru = 1 - w := by
  simp [touchSegment, findWay_of_holds sound h, State.setCacheSet, CacheSet.touch, otherWay_eq]

/-- A lookup leaves the indicator of a set alone in which its segment is not present. -/
theorem touchSegment_lru_of_not {s : State} {n : Nat} {i : Fin 64}
    (h : setIndex n = i → ∀ w : Fin 2, ¬ ∃ l, s.sgc.sets[setIndex n].ways[w] = some l ∧ l.tag = n / 64) :
    (touchSegment s n).sgc.sets[i].lru = s.sgc.sets[i].lru := by
  unfold touchSegment
  split
  · next w found =>
    have other : setIndex n ≠ i := fun same =>
      h same w ((wayHolds_iff _ _ _).mp (wayHolds_of_findWay found))
    simp only [State.setCacheSet, State.setSgc_sgc, Fin.getElem_fin, Vector.getElem_set]
    rw [if_neg fun same => other (Fin.ext same)]
  · rfl

theorem touchAll_proceeds (s : State) (ns : List Nat) : Proceeds s (touchAll s ns) := by
  induction ns generalizing s with
  | nil => exact .refl s
  | cons n ns ih => exact (touchSegment_proceeds s n).trans (ih _)

theorem touchAll_parts (s : State) (ns : List Nat) : (touchAll s ns).rpu = s.rpu ∧
    (touchAll s ns).sgc.outstanding = s.sgc.outstanding := by
  induction ns generalizing s with
  | nil => exact ⟨rfl, rfl⟩
  | cons n ns ih =>
    obtain ⟨rpu, outstanding⟩ := ih (touchSegment s n)
    exact ⟨rpu.trans (by simp), outstanding.trans (by simp)⟩

theorem touchAll_lru_of_not {s : State} {ns : List Nat} {i : Fin 64}
    (h : ∀ n ∈ ns, setIndex n = i →
      ∀ w : Fin 2, ¬ ∃ l, s.sgc.sets[setIndex n].ways[w] = some l ∧ l.tag = n / 64) :
    (touchAll s ns).sgc.sets[i].lru = s.sgc.sets[i].lru := by
  induction ns generalizing s with
  | nil => rfl
  | cons n ns ih =>
    have later := ih (s := touchSegment s n) fun m hm same w => by
      rw [touchSegment_ways]
      exact h m (List.mem_cons_of_mem n hm) same w
    exact later.trans (touchSegment_lru_of_not (h n List.mem_cons_self))

/-- The last segment of a set that is present when it is looked up decides the set's indicator. -/
theorem touchAll_lru_of_last {s : State} (sound : CacheSound s.sgc.sets) {earlier later : List Nat}
    {n : Nat} {w : Fin 2}
    (h : ∃ l, s.sgc.sets[setIndex n].ways[w] = some l ∧ l.tag = n / 64)
    (last : ∀ m ∈ later, setIndex m = setIndex n →
      ∀ v : Fin 2, ¬ ∃ l, s.sgc.sets[setIndex m].ways[v] = some l ∧ l.tag = m / 64) :
    (touchAll s (earlier ++ n :: later)).sgc.sets[setIndex n].lru = 1 - w := by
  have before := (touchAll_proceeds s earlier).ways
  have upTo := ((touchAll_proceeds s earlier).trans (touchSegment_proceeds _ n)).ways
  have soundThen : CacheSound (touchAll s earlier).sgc.sets := fun i => by
    rw [before]
    exact sound i
  have steps : touchAll s (earlier ++ n :: later) =
      touchAll (touchSegment (touchAll s earlier) n) later := by
    simp [touchAll]
  rw [steps, touchAll_lru_of_not fun m hm same v => by rw [upTo]; exact last m hm same v]
  exact touchSegment_of_holds soundThen (by rw [before]; exact h)

/-! ## The walk enters what R67 says -/

theorem onwards_beyond (s : State) (q segment : Nat) {h : Header} (more : h.succ0 ≠ 0) :
    onwards s (.beyond q) segment h =
      some (.beyond (walkSuccessor s.opu.route segment h q).2,
        (walkSuccessor s.opu.route segment h q).1) := by
  simp only [onwards, if_neg more, walkSuccessor]
  split
  · rfl
  · cases s.opu.route[q]? with
    | none => rfl
    | some e =>
      dsimp only
      split <;> rfl

theorem onwards_eq (s : State) {place : Place} (forward : ∀ n, place ≠ .trail n) (segment : Nat)
    {h : Header} (more : h.succ0 ≠ 0) :
    onwards s place segment h =
      some (.beyond (walkSuccessor s.opu.route segment h (queueOf place)).2,
        (walkSuccessor s.opu.route segment h (queueOf place)).1) := by
  cases place with
  | trail n => exact absurd rfl (forward n)
  | current => exact onwards_beyond s 0 segment more
  | beyond q => exact onwards_beyond s q segment more

theorem stretch_forward (s : State) {place : Place} (forward : ∀ n, place ≠ .trail n) (segment : Nat) :
    stretch s place segment =
      (heldHeader s segment).map fun h => (h.length, some (onwards s place segment h)) := by
  cases place with
  | trail n => exact absurd rfl (forward n)
  | current => rfl
  | beyond q => rfl

/-- A visit as a segment entered. -/
def Visit.pair (v : Visit) : Nat × Int := (v.segment, v.entered)

/-- The Segment Cache's walk onwards from the reference point: it enters what `Enters` says, on any state with
the same cache and route, and looks up each segment it enters. -/
theorem walkFrom_enters (u : State) (fuel : Nat) {s : State} {place : Place} {segment off dist : Nat}
    {gone : Int} (forward : ∀ n, place ≠ .trail n) (sound : CacheSound s.sgc.sets)
    (held : heldHeader s = heldHeader u) (route : s.opu.route = u.opu.route)
    (enough : off + dist < fuel * 1000) :
    Enters u place segment off dist gone
      ((walkFrom .segmentCache fuel s place segment off dist gone).visited.map Visit.pair) ∧
    (walkFrom .segmentCache fuel s place segment off dist gone).state =
      touchAll s ((walkFrom .segmentCache fuel s place segment off dist gone).visited.map
        Visit.segment) := by
  induction fuel generalizing s place segment off dist gone with
  | zero => omega
  | succ fuel ih =>
    have found : stretch u place segment = (lookupHeader false s segment).2.map fun h =>
        (h.length, some (onwards u place segment h)) := by
      rw [stretch_forward u forward, lookupHeader_snd, held]
    have touched := lookupHeader_false_fst s segment
    unfold walkFrom
    dsimp only [Walker.header]
    split
    · next n => exact absurd rfl (forward n)
    split
    · next absent =>
      rw [absent, Option.map_none] at found
      refine ⟨.stays _ _ _ _ _ fun _ _ there => ?_, touched⟩
      rw [found] at there
      cases there
    next h present =>
    rw [present, Option.map_some] at found
    split
    · next within =>
      refine ⟨.stays _ _ _ _ _ fun length next there => ?_, touched⟩
      rw [found] at there
      obtain rfl : h.length = length := by simpa using congrArg (Option.map Prod.fst) there
      exact within
    next beyond =>
    split
    · next last =>
      refine ⟨.stays _ _ _ _ _ fun length next there => ?_, touched⟩
      rw [found] at there
      simp [onwards, last] at there
    next more =>
      have length : 1000 ≤ h.length := (sound.header present).1
      have sameRoute : (lookupHeader false s segment).1.opu.route = u.opu.route := by simpa using route
      have sameHeld : heldHeader (lookupHeader false s segment).1 = heldHeader u :=
        (heldHeader_congr (lookupHeader_proceeds s false segment).ways).trans held
      have step := onwards_eq u forward segment more
      have walked : gone + dist - ((off + dist - h.length : Nat) : Int) = gone + ((h.length : Int) - off) := by
        omega
      obtain ⟨enters, state⟩ := ih (s := (lookupHeader false s segment).1)
        (place := .beyond (walkSuccessor u.opu.route segment h (queueOf place)).2)
        (segment := (walkSuccessor u.opu.route segment h (queueOf place)).1)
        (off := 0) (dist := off + dist - h.length) (gone := gone + ((h.length : Int) - off))
        nofun (sound.lookupHeader false segment) sameHeld sameRoute (by omega)
      dsimp only
      rw [sameRoute, walked, state]
      refine ⟨.onward _ _ _ _ _ h.length _ _ _ ?_ (not_lt.mp beyond) enters, ?_⟩
      · rw [found, step]
      · rw [touched]
        rfl

end Sys2Proof.Proofs

/-! SUPPORT. The in-use set and the prefetch needs of a position report, as lists (R66 to R68). -/

namespace Sys2Proof.Proofs

open Sys2Proof.Machine

/-! ## Lists without repeats -/

theorem firstOccurrences_filter (p : Nat → Bool) (xs : List Nat) :
    firstOccurrences (xs.filter p) = (firstOccurrences xs).filter p := by
  induction xs with
  | nil => rfl
  | cons x xs ih =>
    by_cases keep : p x = true
    · simp [firstOccurrences, List.filter_cons_of_pos keep, ih, List.filter_filter, Bool.and_comm]
    · rw [List.filter_cons_of_neg keep, ih]
      simp only [firstOccurrences, List.filter_cons_of_neg keep, List.filter_filter]
      refine List.filter_congr fun y _ => ?_
      by_cases same : y = x
      · simp [same, keep]
      · simp [same]

theorem firstOccurrences_eq_eraseDups (xs : List Nat) : firstOccurrences xs = xs.eraseDups := by
  induction hn : xs.length using Nat.strong_induction_on generalizing xs with
  | _ n ih =>
    cases xs with
    | nil => rfl
    | cons x xs =>
      have shorter : (xs.filter fun y => !y == x).length < n := by
        have := List.length_filter_le (fun y => !y == x) xs
        simp only [List.length_cons] at hn
        omega
      have rest := ih _ shorter _ rfl
      rw [firstOccurrences_filter] at rest
      rw [List.eraseDups_cons, ← rest, firstOccurrences]
      congr 1
      refine List.filter_congr fun y _ => ?_
      simp [beq_eq_decide]

theorem mem_firstOccurrences {n : Nat} {xs : List Nat} : n ∈ firstOccurrences xs ↔ n ∈ xs := by
  rw [firstOccurrences_eq_eraseDups, List.mem_eraseDups]

/-! ## The segments entered before the horizon is used up (R68) -/

/-- A filter that keeps the first of a list whatever it is, on the list after it. -/
theorem filter_zipIdx_of_pos (entered : List (Nat × Int)) (horizon : Nat) {k : Nat} (hk : 0 < k) :
    ((entered.zipIdx k).filter fun e =>
        decide (e.2 = 0 ∨ (horizon ≠ 0 ∧ e.1.2 < (horizon : Int)))).map (fun e => e.1.1) =
      (entered.filter fun e => decide (horizon ≠ 0) && decide (e.2 < (horizon : Int))).map Prod.fst := by
  induction entered generalizing k with
  | nil => rfl
  | cons x xs ih =>
    have same : decide (k = 0 ∨ (horizon ≠ 0 ∧ x.2 < (horizon : Int))) =
        (decide (horizon ≠ 0) && decide (x.2 < (horizon : Int))) := by
      simp [Nat.ne_of_gt hk]
    rw [List.zipIdx_cons, List.filter_cons, List.filter_cons, same]
    split
    · rw [List.map_cons, List.map_cons, ih (Nat.succ_pos k)]
    · exact ih (Nat.succ_pos k)

theorem prefetchSegments_eq (horizon : Nat) (visited : List Visit) :
    prefetchSegments horizon visited = (((visited.map Visit.pair).zipIdx.filter fun e =>
        decide (e.2 = 0 ∨ (horizon ≠ 0 ∧ e.1.2 < (horizon : Int)))).map fun e => e.1.1).eraseDups := by
  cases visited with
  | nil => rfl
  | cons start rest =>
    rw [prefetchSegments, firstOccurrences_eq_eraseDups, List.map_cons, List.zipIdx_cons,
      List.filter_cons_of_pos (by simp), List.map_cons,
      filter_zipIdx_of_pos _ _ (Nat.succ_pos 0), List.filter_map, List.map_map]
    rfl

/-! ## The need of a segment (R68) -/

theorem foldl_twoPow_eq_eightBits (p : Fin 8 → Bool) :
    (List.finRange 8).foldl (fun m k => if p k then m ||| BitVec.twoPow 8 k.val else m) 0 =
      eightBits p := by
  have listed : List.finRange 8 = [0, 1, 2, 3, 4, 5, 6, 7] := rfl
  rw [listed]
  simp only [List.foldl_cons, List.foldl_nil, eightBits]
  generalize p 0 = a, p 1 = b, p 2 = c, p 3 = d, p 4 = e, p 5 = f, p 6 = g, p 7 = h
  revert a b c d e f g h
  decide

theorem missingBlocks_eq (c : Content) : missingBlocks c = eightBits fun k => c.blocks[k].isNone :=
  foldl_twoPow_eq_eightBits fun k => c.blocks[k].isNone

theorem heldBlock_of_content {s : State} {n : Nat} {c : Content} (h : contentOf s n = some c) (k : Fin 8) :
    heldBlock s n k = c.blocks[k] := by
  simp only [heldBlock, h]

/-- The prefetch need of a segment, by the headers and the sub-blocks that the cache holds. -/
def needOf (s : State) (n : Nat) : Option Need :=
  match heldHeader s n with
  | none => some { segment := n, header := true, blocks := 255 }
  | some _ =>
    if (eightBits fun k => (heldBlock s n k).isNone) = 0 then none
    else some { segment := n, header := false, blocks := eightBits fun k => (heldBlock s n k).isNone }

theorem prefetchNeed_eq {s u : State} (same : ∀ n, contentOf s n = contentOf u n) (n : Nat) :
    prefetchNeed s n = needOf u n := by
  cases content : contentOf u n with
  | none =>
    simp only [prefetchNeed, needOf, heldHeader, same, content, Option.map_none]
    rfl
  | some c =>
    have blocks : (fun k : Fin 8 => (heldBlock u n k).isNone) = fun k : Fin 8 => c.blocks[k].isNone :=
      funext fun k => by rw [heldBlock_of_content content]
    simp only [prefetchNeed, needOf, heldHeader, same, content, Option.map_some, missingBlocks_eq, blocks]

/-! ## The reach of the walk (R67) -/

/-- The semi-wheelbase of a bogie as far as it counts: 0 when the bogie is not enabled. -/
def countedSemi (s : State) (b : BogieId) : Nat :=
  if s.tables.bogie[b].enabled then s.tables.bogie[b].semi else 0

theorem largestSemi_eq_foldl (s : State) :
    largestSemi s = (List.finRange 4).foldl (fun m b => max m (countedSemi s b)) 0 := by
  unfold largestSemi
  congr
  funext m b
  simp only [countedSemi]
  split <;> simp

theorem largestSemi_eq {s : State} {semi : Nat}
    (above : ∀ b : BogieId, s.tables.bogie[b].enabled = true → s.tables.bogie[b].semi ≤ semi)
    (attained : semi = 0 ∨ ∃ b : BogieId, s.tables.bogie[b].enabled = true ∧
      s.tables.bogie[b].semi = semi) : largestSemi s = semi := by
  rw [largestSemi_eq_foldl]
  apply Nat.le_antisymm
  · rcases foldl_max_attained (countedSemi s) (List.finRange 4) 0 with zero | ⟨b, -, same⟩
    · rw [zero]
      exact Nat.zero_le _
    · rw [← same, countedSemi]
      split
      · next enabled => exact above b enabled
      · exact Nat.zero_le _
  · rcases attained with rfl | ⟨b, enabled, rfl⟩
    · exact Nat.zero_le _
    · have member := (le_foldl_max (countedSemi s) (List.finRange 4) 0).2 b (List.mem_finRange b)
      rwa [countedSemi, if_pos enabled] at member

/-! ## The window report (R68, R84, R85) -/

theorem windowReport_active {s : State} (active : s.sdu.part = .active) :
    windowReport s = s.setSlu { s.slu with next := some 0 } := by
  simp only [windowReport]
  exact if_pos active

theorem windowReport_other {s : State} (other : s.sdu.part ≠ .active) :
    windowReport s = makeHeldNeeds (s.setSlu { s.slu with next := some 0 }) := by
  simp only [windowReport]
  exact if_neg other

theorem windowReport_slu (s : State) : (windowReport s).slu = { s.slu with next := some 0 } := by
  simp only [windowReport]
  split <;> simp

theorem windowReport_held_nil {s : State} (none_ : s.sgc.held = []) : (windowReport s).sgc.held = [] := by
  simp only [windowReport, makeHeldNeeds]
  split
  · exact none_
  · rfl

@[simp] theorem windowReport_sets (s : State) : (windowReport s).sgc.sets = s.sgc.sets := by
  simp only [windowReport]
  split <;> simp

end Sys2Proof.Proofs

/-! SUPPORT. What the in-use walk of a position report leaves: the in-use set, the directory, the needs (R66 to
R68, R70, R85). -/

namespace Sys2Proof.Proofs

open Sys2Proof.Machine

/-- The walk by which a report replaces the in-use set (R67). -/
def inUseWalk (r : State) (p : Located) : WalkResult :=
  walk .segmentCache r { segment := p.segment, offset := mm p.offset, place := .current } (inUseReach r)

/-- The segments that the walk enters, with the distances at which it does. -/
def enteredBy (r : State) (p : Located) : List (Nat × Int) := (inUseWalk r p).visited.map Visit.pair

/-- The prefetch needs of a report (R68). -/
def reportNeeds (r : State) (p : Located) : List Need :=
  (prefetchSegments r.tables.param.horizon (inUseWalk r p).visited).filterMap
    (prefetchNeed (inUseWalk r p).state)

theorem recomputeInUse_eq {r : State} {p : Located} (at_ : r.opu.position = some p) :
    recomputeInUse r = (inUseWalk r p).state.setSgc { (inUseWalk r p).state.sgc with
      inUse := firstOccurrences
        (p.segment :: (trailInUse r ++ (inUseWalk r p).visited.map Visit.segment))
      held := reportNeeds r p } := by
  simp only [recomputeInUse, at_]
  rfl

theorem enteredBy_fst (r : State) (p : Located) :
    (enteredBy r p).map Prod.fst = (inUseWalk r p).visited.map Visit.segment := by
  rw [enteredBy, List.map_map]
  rfl

theorem inUseWalk_enters {r u : State} (sound : CacheSound r.sgc.sets) (p : Located)
    (held : heldHeader r = heldHeader u) (route : r.opu.route = u.opu.route) :
    Enters u .current p.segment (p.offset / 1000) (inUseReach r) 0 (enteredBy r p) ∧
    (inUseWalk r p).state = touchAll r ((enteredBy r p).map Prod.fst) := by
  rw [enteredBy_fst]
  refine walkFrom_enters u _ nofun sound held route ?_
  change p.offset / 1000 + inUseReach r < ((p.offset / 1000 + inUseReach r) / 1000 + 2) * 1000
  omega

/-- A walk starts in the segment it stands in. -/
theorem start_mem_of_enters {s : State} {place : Place} {segment off dist : Nat} {gone : Int}
    {entered : List (Nat × Int)} (h : Enters s place segment off dist gone entered) :
    segment ∈ entered.map Prod.fst := by
  cases h <;> simp

/-! ## The in-use set (R66, R67) -/

theorem mem_report_inUse {r : State} {p : Located} (sound : CacheSound r.sgc.sets)
    (at_ : r.opu.position = some p) (n : Nat) :
    n ∈ (windowReport (recomputeInUse r)).sgc.inUse ↔
      n ∈ trailInUse r ∨ n ∈ (enteredBy r p).map Prod.fst := by
  have start := start_mem_of_enters (inUseWalk_enters (u := r) sound p rfl rfl).1
  rw [windowReport_inUse, recomputeInUse_eq at_, State.setSgc_sgc, mem_firstOccurrences, List.mem_cons,
    List.mem_append, ← enteredBy_fst]
  refine ⟨?_, .inr⟩
  rintro (rfl | inUse)
  · exact .inr start
  · exact inUse

theorem segment_mem_report_inUse {r : State} {p : Located} (at_ : r.opu.position = some p) :
    p.segment ∈ (windowReport (recomputeInUse r)).sgc.inUse := by
  rw [windowReport_inUse, recomputeInUse_eq at_, State.setSgc_sgc, mem_firstOccurrences]
  exact List.mem_cons_self

theorem report_held_lost {r : State} (lost : r.opu.position = none) :
    (windowReport (recomputeInUse r)).sgc.held = [] :=
  windowReport_held_nil (by simp [recomputeInUse, lost])

/-! ## The directory (R70) -/

theorem report_lru {r : State} {p : Located} (sound : CacheSound r.sgc.sets)
    (at_ : r.opu.position = some p) (i : Fin 64) :
    (windowReport (recomputeInUse r)).sgc.sets[i].lru =
      (touchAll r ((enteredBy r p).map Prod.fst)).sgc.sets[i].lru := by
  rw [windowReport_sets, recomputeInUse_eq at_, State.setSgc_sgc,
    (inUseWalk_enters (u := r) sound p rfl rfl).2]

theorem report_lru_of_not {r : State} {p : Located} (sound : CacheSound r.sgc.sets)
    (at_ : r.opu.position = some p) {i : Fin 64}
    (h : ∀ e ∈ enteredBy r p, setIndex e.1 = i →
      ∀ w : Fin 2, ¬ ∃ l, r.sgc.sets[setIndex e.1].ways[w] = some l ∧ l.tag = e.1 / 64) :
    (windowReport (recomputeInUse r)).sgc.sets[i].lru = r.sgc.sets[i].lru := by
  rw [report_lru sound at_]
  refine touchAll_lru_of_not fun n hn => ?_
  obtain ⟨e, he, rfl⟩ := List.mem_map.mp hn
  exact h e he

theorem report_lru_of_last {r : State} {p : Located} (sound : CacheSound r.sgc.sets)
    (at_ : r.opu.position = some p) {earlier later : List (Nat × Int)} {e : Nat × Int} {w : Fin 2}
    (order : enteredBy r p = earlier ++ e :: later)
    (h : ∃ l, r.sgc.sets[setIndex e.1].ways[w] = some l ∧ l.tag = e.1 / 64)
    (last : ∀ x ∈ later, setIndex x.1 = setIndex e.1 →
      ∀ v : Fin 2, ¬ ∃ l, r.sgc.sets[setIndex x.1].ways[v] = some l ∧ l.tag = x.1 / 64) :
    (windowReport (recomputeInUse r)).sgc.sets[setIndex e.1].lru = 1 - w := by
  rw [report_lru sound at_, order, List.map_append, List.map_cons]
  refine touchAll_lru_of_last sound h fun m hm => ?_
  obtain ⟨x, hx, rfl⟩ := List.mem_map.mp hm
  exact last x hx

/-! ## The prefetch needs (R68, R85) -/

theorem reportNeeds_eq {r u : State} (sound : CacheSound r.sgc.sets) (p : Located)
    (same : ∀ n, contentOf r n = contentOf u n) :
    reportNeeds r p = (((enteredBy r p).zipIdx.filter fun e =>
        decide (e.2 = 0 ∨ (r.tables.param.horizon ≠ 0 ∧ e.1.2 < (r.tables.param.horizon : Int)))).map
          fun e => e.1.1).eraseDups.filterMap (needOf u) := by
  have walked : (inUseWalk r p).state = touchAll r ((enteredBy r p).map Prod.fst) :=
    (inUseWalk_enters (u := r) sound p rfl rfl).2
  have content (n : Nat) : contentOf (inUseWalk r p).state n = contentOf u n := by
    rw [walked, contentOf_congr (touchAll_proceeds r _).ways, same]
  rw [reportNeeds, prefetchSegments_eq, ← enteredBy]
  exact List.filterMap_congr fun n _ => prefetchNeed_eq content n

/-- What the walk and the report leave of the ring port and of the FETCH table. -/
theorem recomputeInUse_parts {r : State} {p : Located} (sound : CacheSound r.sgc.sets)
    (at_ : r.opu.position = some p) : (recomputeInUse r).rpu = r.rpu ∧
    (recomputeInUse r).sgc.outstanding = r.sgc.outstanding ∧
    (recomputeInUse r).sgc.held = reportNeeds r p := by
  obtain ⟨rpu, outstanding⟩ := touchAll_parts r ((enteredBy r p).map Prod.fst)
  have walked : (inUseWalk r p).state = touchAll r ((enteredBy r p).map Prod.fst) :=
    (inUseWalk_enters (u := r) sound p rfl rfl).2
  rw [recomputeInUse_eq at_, walked]
  exact ⟨rpu, outstanding, rfl⟩

theorem report_needs_active {r : State} {p : Located} (sound : CacheSound r.sgc.sets)
    (at_ : r.opu.position = some p) (active : r.sdu.part = .active) :
    (windowReport (recomputeInUse r)).sgc.held = reportNeeds r p ∧
    (windowReport (recomputeInUse r)).rpu = r.rpu ∧
    (windowReport (recomputeInUse r)).sgc.outstanding = r.sgc.outstanding := by
  obtain ⟨rpu, outstanding, held⟩ := recomputeInUse_parts sound at_
  rw [windowReport_active (by simpa using active)]
  exact ⟨held, rpu, outstanding⟩

theorem report_needs_other {r : State} {p : Located} (sound : CacheSound r.sgc.sets)
    (at_ : r.opu.position = some p) (other : r.sdu.part ≠ .active) :
    (windowReport (recomputeInUse r)).sgc.held = [] ∧ ∃ v : State, v.rpu = r.rpu ∧
      v.sgc.outstanding = r.sgc.outstanding ∧
      (windowReport (recomputeInUse r)).rpu = ((reportNeeds r p).foldl makeNeed v).rpu ∧
      (windowReport (recomputeInUse r)).sgc.outstanding =
        ((reportNeeds r p).foldl makeNeed v).sgc.outstanding := by
  obtain ⟨rpu, outstanding, held⟩ := recomputeInUse_parts sound at_
  rw [windowReport_other (by simpa using other)]
  refine ⟨rfl, (recomputeInUse r).setSlu { (recomputeInUse r).slu with next := some 0 }, rpu, outstanding,
    ?_, ?_⟩ <;> rw [← held] <;> rfl

end Sys2Proof.Proofs

/-! SUPPORT. What a position update does (R19): the distance and the speed of R20 to R24, and the whole update
from its parts. -/

namespace Sys2Proof.Proofs

open Sys2Proof.Machine

/-! ## The distance of an update (R20 to R22) -/

theorem measured_counted {s : State} {d : Int} (h : countedDistance (increments s) = some d) :
    (measured s).opu.hold = 0 ∧ (measured s).opu.lastDistance = d := by
  obtain ⟨opu, -⟩ := odometryStage_counted (s := s.setOpu { s.opu with updateDue := false }) h
  simp [measured, speedStage, opu]

theorem measured_uncounted {s : State} (h : countedDistance (increments s) = none) :
    (measured s).flag .odoHold = true ∧
    (measured s).opu.hold = (if s.opu.hold < 9 then s.opu.hold + 1 else s.opu.hold) ∧
    (measured s).opu.lastDistance = if (measured s).opu.hold < 9 then s.opu.lastDistance else 0 := by
  refine ⟨odometryStage_odoHold (s := s.setOpu { s.opu with updateDue := false }) h, ?_⟩
  rcases Nat.lt_or_ge s.opu.hold 8 with few | many
  · obtain ⟨opu, -⟩ := odometryStage_held (s := s.setOpu { s.opu with updateDue := false }) h few
    have hold : (measured s).opu.hold = s.opu.hold + 1 := by simp [measured, speedStage, opu]
    have distance : (measured s).opu.lastDistance = s.opu.lastDistance := by
      simp [measured, speedStage, opu]
    rw [hold, distance, if_pos (by omega), if_pos (by omega)]
    exact ⟨rfl, rfl⟩
  · obtain ⟨opu, -⟩ := odometryStage_lost (s := s.setOpu { s.opu with updateDue := false }) h many
    have hold : (measured s).opu.hold = max 9 s.opu.hold := by simp [measured, speedStage, opu]
    have distance : (measured s).opu.lastDistance = 0 := by simp [measured, speedStage, opu]
    have reached : ¬ max 9 s.opu.hold < 9 := Nat.not_lt.mpr (Nat.le_max_left _ _)
    rw [hold, distance, if_neg reached]
    refine ⟨?_, rfl⟩
    split <;> omega

/-- The increments that R21 keeps, in the terms of a list in order. -/
theorem keptIncrements_eq {incs sorted : List Int} (perm : sorted.Perm incs)
    (order : sorted.Pairwise (· ≤ ·)) :
    keptIncrements incs = incs.filter fun x =>
      decide ((x - middle sorted).natAbs ≤ (middle sorted).natAbs / 8 + 2000) := by
  rw [keptIncrements, median_eq_middle perm order]
  rfl

theorem measured_of_kept {s : State} {sorted kept : List Int} (perm : sorted.Perm (increments s))
    (order : sorted.Pairwise (· ≤ ·))
    (keptPerm : kept.Perm ((increments s).filter fun x =>
      decide ((x - middle sorted).natAbs ≤ (middle sorted).natAbs / 8 + 2000)))
    (keptOrder : kept.Pairwise (· ≤ ·)) :
    (kept ≠ [] → (measured s).opu.hold = 0 ∧ (measured s).opu.lastDistance = middle kept) ∧
    (kept = [] → countedDistance (increments s) = none) ∧
    (kept.length < (increments s).length → (measured s).flag .axleExcluded = true) := by
  rw [← keptIncrements_eq perm order] at keptPerm
  refine ⟨fun some_ => ?_, fun none_ => ?_, fun fewer => ?_⟩
  · have counted : countedDistance (increments s) = some (middle kept) := by
      rw [countedDistance_of_kept fun none_ => some_ (List.perm_nil.mp (none_ ▸ keptPerm)),
        median_eq_middle keptPerm keptOrder]
    exact measured_counted counted
  · exact countedDistance_of_none_kept (List.nil_perm.mp (none_ ▸ keptPerm))
  · refine odometryStage_axleExcluded (s := s.setOpu { s.opu with updateDue := false }) ?_
    have lengths := keptPerm.length_eq
    refine decide_eq_true ?_
    change (keptIncrements (increments s)).length ≠ (increments s).length
    omega

/-! ## The report of an update (R24, R37) -/

theorem measured_history (s : State) :
    (measured s).opu.history = ((measured s).opu.lastDistance :: s.opu.history).take 8 := by
  obtain ⟨history, -, -⟩ := odometryStage_opu (s.setOpu { s.opu with updateDue := false })
  simp [measured, speedStage, history, Config.historyCapacity]

theorem positionUpdate_updateDue (s : State) : (positionUpdate s).opu.updateDue = false := by
  rw [(measured_proceeds s).due]
  exact (odometryStage_opu (s.setOpu { s.opu with updateDue := false })).2.1

theorem positionUpdate_history (s : State) : (positionUpdate s).opu.history =
    ((positionUpdate s).opu.lastDistance :: s.opu.history).take 8 := by
  rw [(measured_proceeds s).history, positionUpdate_distance, measured_history]

theorem reconciled_tables (s : State) : (reconciled s).tables = s.tables := by
  simp [reconciled, measured]

theorem reported_tables (s : State) : (reported s).tables = s.tables := by
  simp [reported, reconciled, measured]

theorem positionUpdate_report (s : State) :
    (positionUpdate s).opu.report = positionReport (reconciled s) := by
  rw [positionUpdate_opu, reported_opu]

theorem positionUpdate_speed (s : State) : (positionUpdate s).opu.report.speed =
    if (positionUpdate s).opu.history.sum < 0 then 0
    else min 30000 ((positionUpdate s).opu.history.sum.toNat / (8 * s.tables.param.period)) := by
  rw [(positionUpdate_proceeds s).history, ← reconciled_tables s, ← speedOf_eq, positionUpdate_report,
    positionReport]

theorem positionUpdate_standstill (s : State) : (positionUpdate s).opu.report.standstill =
    decide ((positionUpdate s).opu.report.speed < s.tables.param.standstill) := by
  rw [positionUpdate_report, ← reconciled_tables s, positionReport]

theorem positionUpdate_sit (s : State) :
    (positionUpdate s).sit = { s.sit with previous := renewedPrevious s.sit } := by
  have measuredSit : (measured s).sit = { s.sit with previous := renewedPrevious s.sit } :=
    odometryStage_sit (s.setOpu { s.opu with updateDue := false })
  have kept : (positionUpdate s).sit = (measured s).sit := by
    simp [positionUpdate_eq, reported, reconciled]
  rw [kept, measuredSit]

theorem positionUpdate_slu (s : State) :
    (positionUpdate s).slu = { s.slu with next := some 0 } := by
  have kept : (recomputeInUse (reported s)).slu = s.slu := by simp [reported, reconciled, measured]
  rw [positionUpdate_eq, windowReport_slu, kept]

/-! ## The update's state for the in-use walk -/

theorem reported_ways (s : State) (i : Fin 64) :
    (reported s).sgc.sets[i].ways = s.sgc.sets[i].ways := by
  have sgc : (measured s).sgc = s.sgc := by simp [measured]
  exact (((reconciled_proceeds s).trans (placementStage_proceeds _)).ways i).trans (by rw [sgc])

theorem reported_sound {s : State} (h : CacheSound s.sgc.sets) : CacheSound (reported s).sgc.sets :=
  fun i => by
    rw [reported_ways]
    exact h i

theorem positionUpdate_ways (s : State) (i : Fin 64) :
    (positionUpdate s).sgc.sets[i].ways = s.sgc.sets[i].ways := by
  rw [positionUpdate_eq]
  exact (((recomputeInUse_proceeds _).trans (windowReport_proceeds _)).ways i).trans (reported_ways s i)

theorem reported_part (s : State) : (reported s).sdu.part = s.sdu.part := by
  simp [reported, reconciled, measured]

theorem inUseReach_reported {s : State} {semi : Nat}
    (above : ∀ b : BogieId, s.tables.bogie[b].enabled = true → s.tables.bogie[b].semi ≤ semi)
    (attained : semi = 0 ∨ ∃ b : BogieId, s.tables.bogie[b].enabled = true ∧
      s.tables.bogie[b].semi = semi) :
    inUseReach (reported s) = max s.tables.param.horizon (5000 + 2 * semi) := by
  have tables : (reported s).tables = s.tables := reported_tables s
  have largest : largestSemi (reported s) = semi :=
    largestSemi_eq (by rw [tables]; exact above) (by rw [tables]; exact attained)
  rw [inUseReach, largest, tables]
  rfl

theorem reportNeeds_reported {s : State} (sound : CacheSound s.sgc.sets) (p : Located) :
    reportNeeds (reported s) p = (((enteredBy (reported s) p).zipIdx.filter fun e =>
        decide (e.2 = 0 ∨ (s.tables.param.horizon ≠ 0 ∧ e.1.2 < (s.tables.param.horizon : Int)))).map
          fun e => e.1.1).eraseDups.filterMap (needOf s) := by
  have tables : (reported s).tables = s.tables := reported_tables s
  rw [reportNeeds_eq (reported_sound sound) p (contentOf_congr (reported_ways s)), tables]

theorem reported_rpu (s : State) : (reported s).rpu = (reconciled s).rpu := by simp [reported]

theorem reported_sgc (s : State) : (reported s).sgc = (reconciled s).sgc := by simp [reported]

theorem positionUpdate_needs_active {s : State} {p : Located} {needs : List Need}
    (sound : CacheSound s.sgc.sets) (at_ : (reported s).opu.position = some p)
    (formed : reportNeeds (reported s) p = needs) (active : s.sdu.part = .active) :
    (positionUpdate s).sgc.held = needs ∧ (positionUpdate s).rpu = (reconciled s).rpu ∧
    (positionUpdate s).sgc.outstanding = (reconciled s).sgc.outstanding := by
  rw [← formed, ← reported_rpu, ← reported_sgc, positionUpdate_eq]
  exact report_needs_active (reported_sound sound) at_ ((reported_part s).trans active)

theorem positionUpdate_needs_other {s : State} {p : Located} {needs : List Need}
    (sound : CacheSound s.sgc.sets) (at_ : (reported s).opu.position = some p)
    (formed : reportNeeds (reported s) p = needs) (other : s.sdu.part ≠ .active) :
    (positionUpdate s).sgc.held = [] ∧ ∃ v : State, v.rpu = (reconciled s).rpu ∧
      v.sgc.outstanding = (reconciled s).sgc.outstanding ∧
      (positionUpdate s).rpu = (needs.foldl makeNeed v).rpu ∧
      (positionUpdate s).sgc.outstanding = (needs.foldl makeNeed v).sgc.outstanding := by
  rw [← formed, ← reported_rpu, ← reported_sgc, positionUpdate_eq]
  exact report_needs_other (reported_sound sound) at_ (by rw [reported_part]; exact other)

/-- A segment is present in a way of its set (R55). -/
def PresentIn (s : State) (w : Fin 2) (n : Nat) : Prop :=
  ∃ l, s.sgc.sets[(Fin.ofNat 64 n : Fin 64)].ways[w] = some l ∧ l.tag = n / 64

theorem presentIn_reported {s : State} {w : Fin 2} {n : Nat} :
    (∃ l, (reported s).sgc.sets[setIndex n].ways[w] = some l ∧ l.tag = n / 64) ↔ PresentIn s w n := by
  rw [reported_ways]
  rfl

theorem positionUpdate_lru_of_not {s : State} {p : Located} (sound : CacheSound s.sgc.sets)
    (at_ : (reported s).opu.position = some p) {i : Fin 64}
    (h : ∀ e ∈ enteredBy (reported s) p, Fin.ofNat 64 e.1 = i → ∀ w : Fin 2, ¬ PresentIn s w e.1) :
    (positionUpdate s).sgc.sets[i].lru = (reconciled s).sgc.sets[i].lru := by
  rw [positionUpdate_eq, ← reported_sgc]
  exact report_lru_of_not (reported_sound sound) at_ fun e he same w present =>
    h e he same w (presentIn_reported.mp present)

theorem positionUpdate_lru_of_last {s : State} {p : Located} (sound : CacheSound s.sgc.sets)
    (at_ : (reported s).opu.position = some p) {i : Fin 64} {earlier later : List (Nat × Int)}
    {e : Nat × Int} {w : Fin 2} (order : enteredBy (reported s) p = earlier ++ e :: later)
    (here : Fin.ofNat 64 e.1 = i) (present : PresentIn s w e.1)
    (last : ∀ x ∈ later, Fin.ofNat 64 x.1 = i → ∀ v : Fin 2, ¬ PresentIn s v x.1) :
    (positionUpdate s).sgc.sets[i].lru = 1 - w := by
  subst here
  rw [positionUpdate_eq]
  exact report_lru_of_last (reported_sound sound) at_ order (presentIn_reported.mpr present)
    fun x hx same v there => last x hx same v (presentIn_reported.mp there)

/-- The axles of a bogie, both placed or neither (R36, R37). -/
theorem positionUpdate_axles (s : State) (b : BogieId) : ∃ lead trail,
    Behind (positionUpdate s).opu.position (positionUpdate s).opu.trail
      (s.tables.bogie[b].pivot - s.tables.bogie[b].semi) lead ∧
    Behind (positionUpdate s).opu.position (positionUpdate s).opu.trail
      (s.tables.bogie[b].pivot + s.tables.bogie[b].semi) trail ∧
    (s.tables.bogie[b].enabled = true ∧ lead ≠ none ∧ trail ≠ none →
      (positionUpdate s).opu.report.axle[leadOf b] = lead ∧
      (positionUpdate s).opu.report.axle[trailOf b] = trail) ∧
    (s.tables.bogie[b].enabled = false ∨ lead = none ∨ trail = none →
      (positionUpdate s).opu.report.axle[leadOf b] = none ∧
      (positionUpdate s).opu.report.axle[trailOf b] = none) := by
  rw [positionUpdate_report, positionUpdate_opu, reported_opu, ← reconciled_tables s,
    positionReport_axle, positionReport_axle, axlePoint_leadOf, axlePoint_trailOf]
  refine ⟨_, _, placeBehind_behind _ _ _, placeBehind_behind _ _ _, ?_, fun unplaced => ?_⟩
  · rintro ⟨enabled, lead, trail⟩
    obtain ⟨l, hl⟩ := Option.ne_none_iff_exists'.mp lead
    obtain ⟨t, ht⟩ := Option.ne_none_iff_exists'.mp trail
    rw [placeBogie_both enabled hl ht, hl, ht]
    exact ⟨rfl, rfl⟩
  · rw [placeBogie_neither unplaced]
    exact ⟨rfl, rfl⟩

end Sys2Proof.Proofs

/-! SUPPORT. The position update whole (R19 to R37, R66 to R70). -/

namespace Sys2Proof.Proofs

open Sys2Proof.Machine

/-- Settles O22, by the parts of an update: the odometry, the advance with the drift, the placement, and the
in-use walk. -/
theorem positionUpdateRuns : Obligations.PositionUpdateRuns := by
  intro s
  refine ⟨fun notDue => by simp [exec_positionUpdate, notDue], fun due => ?_⟩
  refine ⟨positionUpdate s, exec_positionUpdate_due due, positionUpdate_updateDue s,
    positionUpdate_slu s, ?distance, positionUpdate_history s, positionUpdate_speed s,
    positionUpdate_standstill s, positionUpdate_sit s, ?reportPosition, ?reportDistance, ?advance,
    positionUpdate_axles s, ?deepEnough, ?deepAttained, ?lost, ?inUse, ?lostHeld, ?walk, ?others⟩
  case distance =>
    intro sorted kept perm order keptPerm keptOrder
    rw [positionUpdate_hold, positionUpdate_distance]
    obtain ⟨counted, uncounted, excluded⟩ := measured_of_kept
      (increments_eq s ▸ perm) order (increments_eq s ▸ keptPerm) keptOrder
    refine ⟨counted, fun none_ => ?_, fun fewer => ?_⟩
    · obtain ⟨flag, rest⟩ := measured_uncounted (uncounted none_)
      exact ⟨(measured_proceeds s).flags _ flag, rest⟩
    · exact (measured_proceeds s).flags _ (excluded (increments_eq s ▸ fewer))
  case reportPosition => rw [positionUpdate_report, positionUpdate_opu]; rfl
  case reportDistance => rw [positionUpdate_report, positionUpdate_opu]; rfl
  case advance =>
    intro p at_ sound quiet few
    refine ⟨fun back => ?_, fun forward => ?_⟩
    · exact positionUpdate_back at_ quiet few back
    · obtain ⟨m, lost, advances, route, mismatch, gone, stands⟩ :=
        positionUpdate_forward ((routeSound_iff s).mp sound).cache at_ quiet few forward
      refine ⟨m, lost, advances, route, mismatch, fun h => ?_, stands⟩
      obtain ⟨position, trail, flag, agreement, disagreement, distance⟩ := gone h
      exact ⟨position, trail, flag, agreement, disagreement, distance⟩
  case deepEnough =>
    intro c q n placed place
    rw [positionUpdate_report] at placed ⊢
    rw [positionReport_depth]
    exact farthestDepth_ge placed place
  case deepAttained =>
    intro deepest depth
    rw [positionUpdate_report] at depth ⊢
    rw [positionReport_depth] at depth
    exact farthestDepth_attained depth
  case lost =>
    intro lost
    rw [positionUpdate_opu, reported_opu] at lost
    refine ⟨positionUpdate_inUse_lost lost, fun c => ?_⟩
    rw [positionUpdate_report, positionReport_axle]
    exact axlePoint_lost lost c
  case inUse =>
    intro p at_
    rw [positionUpdate_opu] at at_
    rw [positionUpdate_eq]
    exact segment_mem_report_inUse at_
  case lostHeld =>
    intro lost
    rw [positionUpdate_opu] at lost
    rw [positionUpdate_eq]
    exact report_held_lost lost
  case walk =>
    intro p semi at_ routeSound above attained horizon before setOf holds
    rw [positionUpdate_opu] at at_
    have same : before = reconciled s := rfl
    clear_value before
    subst same
    have sound : CacheSound s.sgc.sets := ((routeSound_iff s).mp routeSound).cache
    have soundThen : CacheSound (reported s).sgc.sets := reported_sound sound
    have held : heldHeader (reported s) = heldHeader (positionUpdate s) :=
      heldHeader_congr fun i => by rw [positionUpdate_ways, reported_ways]
    obtain ⟨enters, -⟩ := inUseWalk_enters (u := positionUpdate s) soundThen p held (by simp)
    have needs := reportNeeds_reported sound p
    refine ⟨enteredBy (reported s) p, ?_, ?_, ?_, ?_⟩
    · rw [← inUseReach_reported above attained]
      exact enters
    · intro n
      rw [positionUpdate_opu, positionUpdate_eq]
      exact mem_report_inUse soundThen at_ n
    · exact ⟨positionUpdate_needs_active sound at_ needs, positionUpdate_needs_other sound at_ needs⟩
    · intro i
      exact ⟨positionUpdate_ways s i, positionUpdate_lru_of_not sound at_,
        fun _ _ _ _ order here => positionUpdate_lru_of_last sound at_ order here⟩
  case others => simp

end Sys2Proof.Proofs

/-! SUPPORT. What the reconciliation reads of the route (R38, R39, R46, R47): its forward walk goes as `Walks`
says, its search ahead as `Meets` says, and its searches of the trail give the newest entry of a segment. -/

namespace Sys2Proof.Proofs

open Sys2Proof.Machine

/-! ## A state that reads the route as another does -/

/-- Reads that the lookups of a walk leave as they stand. -/
structure ReadsAs (u s : State) : Prop where
  cache : CacheSound s.sgc.sets
  held : heldHeader s = heldHeader u
  opu : s.opu = u.opu

theorem ReadsAs.refl {s : State} (h : CacheSound s.sgc.sets) : ReadsAs s s := ⟨h, rfl, rfl⟩

theorem ReadsAs.lookupHeader {u s : State} (h : ReadsAs u s) (segment : Nat) :
    ReadsAs u (lookupHeader true s segment).1 where
  cache := h.cache.lookupHeader true segment
  held := (heldHeader_congr (lookupHeader_proceeds s true segment).ways).trans h.held
  opu := by simp [h.opu]

theorem ReadsAs.header {u s : State} (h : ReadsAs u s) (segment : Nat) :
    (Machine.lookupHeader true s segment).2 = heldHeader u segment := by
  rw [lookupHeader_snd, h.held]

/-! ## The forward walk (R38, R39) -/

/-- Where a walk goes on from the end of a trail entry: in the next newer one, from the newest in the current
segment. -/
def onwardsFromTrail (s : State) : Nat → Option (Place × Nat)
  | 0 => s.opu.position.map fun p => (.current, p.segment)
  | n + 1 => s.opu.trail[n]?.map fun newer => (.trail n, newer.segment)

theorem stretch_trail (s : State) (n segment : Nat) : stretch s (.trail n) segment =
    s.opu.trail[n]?.map fun e => (e.length, (onwardsFromTrail s n).map some) := by
  cases n with
  | zero => simp [stretch, onwardsFromTrail, Option.map_map, Function.comp_def]
  | succ n => simp [stretch, onwardsFromTrail, Option.map_map, Function.comp_def]

/-- Where a walk stops that stands on the trail, by the entry and by what follows it. -/
theorem walkFrom_trail_stop (w : Walker) (fuel : Nat) (s : State) (n segment off dist : Nat) (gone : Int)
    {e : TrailEntry} (at_ : s.opu.trail[n]? = some e) :
    (walkFrom w (fuel + 1) s (.trail n) segment off dist gone).stop =
      if off + dist < e.length then some ⟨segment, off + dist, .trail n⟩
      else (onwardsFromTrail s n).bind fun next =>
        (walkFrom w fuel s next.1 next.2 0 (off + dist - e.length)
          (gone + dist - ((off + dist - e.length : Nat) : Int))).stop := by
  simp only [walkFrom, at_]
  split
  · rfl
  · cases n with
    | zero => cases at0 : s.opu.position <;> simp [onwardsFromTrail, at0]
    | succ n => cases newer : s.opu.trail[n]? <;> simp [onwardsFromTrail, newer]

/-- With this fuel the beacon's walk goes as `Walks` says, while each segment left takes at least 1000 mm off
the distance. -/
def FuelSuffices (u : State) (fuel : Nat) : Prop :=
  ∀ (s : State) (place : Place) (segment off dist : Nat) (gone : Int), ReadsAs u s →
    off + dist < fuel * 1000 →
      Walks u place segment off dist (walkFrom .beacon fuel s place segment off dist gone).stop

section Walking

variable {u s : State} {fuel segment off dist : Nat} {gone : Int}

theorem walkFrom_trail_walks (rest : FuelSuffices u fuel) (trail : TrailSound u.opu.trail)
    (same : ReadsAs u s) (enough : off + dist < (fuel + 1) * 1000) (n : Nat) :
    Walks u (.trail n) segment off dist
      (walkFrom .beacon (fuel + 1) s (.trail n) segment off dist gone).stop := by
  have found := stretch_trail u n segment
  cases entry : u.opu.trail[n]? with
  | none =>
    rw [entry, Option.map_none] at found
    have stops : (walkFrom .beacon (fuel + 1) s (.trail n) segment off dist gone).stop = none := by
      simp [walkFrom, same.opu, entry]
    exact stops ▸ .missing _ _ _ _ found
  | some e =>
    rw [entry, Option.map_some] at found
    have length : 1000 ≤ e.length := (trail e (List.mem_of_getElem? entry)).1
    have follows : onwardsFromTrail s n = onwardsFromTrail u n := by
      cases n <;> simp [onwardsFromTrail, same.opu]
    rw [walkFrom_trail_stop _ _ _ _ _ _ _ _ (same.opu ▸ entry), follows]
    split
    · next within => exact .reached _ _ _ _ _ _ found within
    · next beyond =>
      cases next : onwardsFromTrail u n with
      | none => exact .cut _ _ _ _ _ (by rw [found, next]; rfl) (not_lt.mp beyond)
      | some onto =>
        exact .onward _ onto.1 _ _ _ _ onto.2 _ (by rw [found, next]; rfl) (not_lt.mp beyond)
          (rest _ _ _ _ _ _ same (by omega))

theorem walkFrom_route_walks (rest : FuelSuffices u fuel) (same : ReadsAs u s)
    (enough : off + dist < (fuel + 1) * 1000) {place : Place} (forward : ∀ n, place ≠ .trail n) :
    Walks u place segment off dist
      (walkFrom .beacon (fuel + 1) s place segment off dist gone).stop := by
  have found := stretch_forward u forward segment
  rw [← same.header] at found
  unfold walkFrom
  dsimp only [Walker.header]
  split
  · next n => exact absurd rfl (forward n)
  split
  · next absent =>
    rw [absent, Option.map_none] at found
    exact .missing _ _ _ _ found
  next h present =>
  rw [present, Option.map_some] at found
  have length : 1000 ≤ h.length := (same.cache.header present).1
  split
  · next within => exact .reached _ _ _ _ _ _ found within
  next beyond =>
  split
  · next last => exact .ends _ _ _ _ _ (by rw [found]; simp [onwards, last]) (not_lt.mp beyond)
  · next more =>
    have looked := same.lookupHeader segment
    rw [onwards_eq u forward segment more, ← looked.opu] at found
    exact .onward _ _ _ _ _ _ _ _ found (not_lt.mp beyond) (rest _ _ _ _ _ _ looked (by omega))

end Walking

theorem fuelSuffices {u : State} (trail : TrailSound u.opu.trail) (fuel : Nat) : FuelSuffices u fuel := by
  induction fuel with
  | zero =>
    intro s place segment off dist gone same enough
    omega
  | succ fuel rest =>
    intro s place segment off dist gone same enough
    cases place with
    | trail n => exact walkFrom_trail_walks rest trail same enough n
    | current => exact walkFrom_route_walks rest same enough nofun
    | beyond q => exact walkFrom_route_walks rest same enough nofun

theorem walk_walks {s : State} (sound : RouteFit s) (start : RoutePoint) (dist : Nat) :
    Walks s start.place start.segment start.offset dist (walk .beacon s start dist).stop :=
  fuelSuffices sound.trail _ s _ _ _ _ _ (.refl sound.cache) (by unfold walkFuel; omega)

/-! ## The search ahead (R47) -/

theorem searchAhead_meets (u : State) (fuel : Nat) {s : State} {place : Place}
    {segment off dist target : Nat} {gone : Int} (forward : ∀ n, place ≠ .trail n) (same : ReadsAs u s)
    (enough : off + dist < fuel * 1000) :
    Meets u target place segment off dist gone
      (searchAhead fuel s place segment off dist gone target).met := by
  induction fuel generalizing s place segment off dist gone with
  | zero => omega
  | succ fuel ih =>
    have read := same.header segment
    unfold searchAhead
    dsimp only
    split
    · next absent => exact .missing _ _ _ _ _ (read.symm.trans absent)
    next h present =>
    have held : heldHeader u segment = some h := read.symm.trans present
    have length : 1000 ≤ h.length := (same.cache.header present).1
    split
    · next within => exact .within _ _ _ _ _ h held within
    next beyond =>
    split
    · next last => exact .ends _ _ _ _ _ h held (not_lt.mp beyond) (by simp [onwards, last])
    next more =>
    have step := onwards_eq u forward segment more
    rw [← same.opu] at step
    split
    · next met =>
      rw [met] at step
      exact .found _ _ _ _ _ _ h held (not_lt.mp beyond) step
    · next other =>
      exact .onward _ _ _ _ _ _ _ h _ held (not_lt.mp beyond) step other
        (ih nofun (same.lookupHeader segment) (by omega))

/-! ## A segment on the trail (R46, R47) -/

/-- The newest trail entry of a segment, and how many newer ones there are. -/
structure NewestOf (trail : List TrailEntry) (segment k : Nat) (e : TrailEntry) : Prop where
  entry : trail[k]? = some e
  names : e.segment = segment
  newer : ∀ j y, j < k → trail[j]? = some y → y.segment ≠ segment

theorem newestOf_zero {first e : TrailEntry} {older : List TrailEntry} {segment : Nat}
    (h : NewestOf (first :: older) segment 0 e) : first = e ∧ first.segment = segment := by
  obtain rfl : first = e := by simpa using h.entry
  exact ⟨rfl, h.names⟩

theorem newestOf_of_names {first : TrailEntry} (older : List TrailEntry) {segment : Nat}
    (h : first.segment = segment) : NewestOf (first :: older) segment 0 first := ⟨rfl, h, nofun⟩

theorem newestOf_succ {first e : TrailEntry} {older : List TrailEntry} {segment k : Nat} :
    NewestOf (first :: older) segment (k + 1) e ↔
      first.segment ≠ segment ∧ NewestOf older segment k e := by
  constructor
  · intro h
    exact ⟨h.newer 0 first k.succ_pos rfl, h.entry, h.names,
      fun j y below at_ => h.newer (j + 1) y (Nat.succ_lt_succ below) at_⟩
  · rintro ⟨other, entry, names, newer⟩
    refine ⟨entry, names, fun j y below at_ => ?_⟩
    cases j with
    | zero =>
      obtain rfl : first = y := by simpa using at_
      exact other
    | succ j => exact newer j y (Nat.lt_of_succ_lt_succ below) at_

theorem newestOnTrail_of_newest {trail : List TrailEntry} {segment k : Nat} {e : TrailEntry}
    (h : NewestOf trail segment k e) (n : Nat) : newestOnTrail n trail segment = some (n + k) := by
  induction trail generalizing n k with
  | nil => exact nomatch h.entry
  | cons first older ih =>
    cases k with
    | zero => simp [newestOnTrail, (newestOf_zero h).2]
    | succ k =>
      obtain ⟨other, rest⟩ := newestOf_succ.mp h
      rw [newestOnTrail, if_neg other, ih rest, Nat.add_right_comm, Nat.add_assoc]

theorem newestOnTrail_of_none {trail : List TrailEntry} {segment : Nat}
    (h : ∀ e ∈ trail, e.segment ≠ segment) (n : Nat) : newestOnTrail n trail segment = none := by
  induction trail generalizing n with
  | nil => rfl
  | cons first older ih =>
    rw [newestOnTrail, if_neg (h first List.mem_cons_self)]
    exact ih (fun e he => h e (List.mem_cons_of_mem first he)) _

/-- The search behind that starts before the end of the newer entries (R47; log 13). -/
theorem searchBehind_of_newest {trail : List TrailEntry} {segment k r : Nat} {e : TrailEntry}
    (h : NewestOf trail segment k e) (within : newerLength trail k < r) (newer : Nat) :
    searchBehind trail r segment newer = some (newer + newerLength trail (k + 1) * 1000) := by
  induction trail generalizing k r newer with
  | nil => exact nomatch h.entry
  | cons first older ih =>
    cases k with
    | zero => simp [searchBehind, (newestOf_zero h).2, newerLength]
    | succ k =>
      obtain ⟨other, rest⟩ := newestOf_succ.mp h
      rw [newerLength_cons] at within
      rw [searchBehind, if_neg other, if_neg (by omega), ih rest (by omega), newerLength_cons first]
      congr 1
      ring

theorem searchBehind_of_none {trail : List TrailEntry} {segment r : Nat} (some_ : 0 < r)
    (h : ∀ k e, NewestOf trail segment k e → r ≤ newerLength trail k) (newer : Nat) :
    searchBehind trail r segment newer = none := by
  induction trail generalizing r newer with
  | nil => rfl
  | cons first older ih =>
    have other : first.segment ≠ segment := fun names =>
      absurd (h 0 first (newestOf_of_names older names)) (not_le.mpr some_)
    rw [searchBehind, if_neg other]
    split
    · rfl
    · next beyond =>
      refine ih (by omega) (fun k e newest => ?_) _
      have far := h (k + 1) e (newestOf_succ.mpr ⟨other, newest⟩)
      rw [newerLength_cons] at far
      omega

end Sys2Proof.Proofs

/-! SUPPORT. The beacon-derived position (R46) and its relation to the reference position (R47). -/

namespace Sys2Proof.Proofs

open Sys2Proof.Machine

/-! ## The beacon-derived position (R46) -/

theorem beaconPlace_lost {s : State} (lost : s.opu.position = none) (segment : Nat) :
    beaconPlace s segment = .beyond 0 := by simp [beaconPlace, lost]

theorem beaconPlace_current {s : State} {p : Located} (at_ : s.opu.position = some p) :
    beaconPlace s p.segment = .current := by simp [beaconPlace, at_]

theorem beaconPlace_trail {s : State} {p : Located} {segment k : Nat} {x : TrailEntry}
    (at_ : s.opu.position = some p) (other : p.segment ≠ segment)
    (newest : NewestOf s.opu.trail segment k x) : beaconPlace s segment = .trail k := by
  simp [beaconPlace, at_, other, newestOnTrail_of_newest newest]

theorem beaconPlace_beyond {s : State} {p : Located} {segment : Nat} (at_ : s.opu.position = some p)
    (other : p.segment ≠ segment) (off : ∀ x ∈ s.opu.trail, x.segment ≠ segment) :
    beaconPlace s segment = .beyond 0 := by
  simp [beaconPlace, at_, other, newestOnTrail_of_none off]

section Derivation

variable {s : State} {n : Fin 2} {e : BeaconEntry} {latched : Int}

/-- The total distance from a beacon in the terms of R46. -/
def beaconTotal (s : State) (n : Fin 2) (a : AxleEntry) (r : Stamped) (latched : Int) : Int :=
  s.tables.param.readerOffset[n] * 1000 +
    ((r.value - latched + 32768) % 65536 - 32768) * a.umPerPulse

theorem derivedPosition_unused (unused : s.tables.axle[s.tables.param.readerAxle[n]] = none) :
    derivedPosition s n e latched = (s, none) := by
  simp only [derivedPosition, travelled, unused]

theorem derivedPosition_unread {a : AxleEntry}
    (used : s.tables.axle[s.tables.param.readerAxle[n]] = some a)
    (unread : s.sit.pulse[a.slot].latest = none) : derivedPosition s n e latched = (s, none) := by
  simp only [derivedPosition, travelled, used, unread]

variable {a : AxleEntry} {r : Stamped}

theorem derivedPosition_of_total (used : s.tables.axle[s.tables.param.readerAxle[n]] = some a)
    (read : s.sit.pulse[a.slot].latest = some r) :
    let total := beaconTotal s n a r latched
    let w := walk .beacon s { segment := e.segment, offset := e.offset, place := beaconPlace s e.segment }
      (total / 1000).toNat
    derivedPosition s n e latched =
      if 0 ≤ total / 1000 then
        (w.state, w.stop.map fun p =>
          { segment := p.segment, offset := p.offset * 1000 + (total % 1000).toNat })
      else if 0 ≤ (e.offset : Int) + total / 1000 then
        (s, some { segment := e.segment, offset := (e.offset * 1000 + total).toNat })
      else (s, none) := by
  intro total w
  have travel : travelled s n latched =
      some (((r.value - latched + 32768) % 65536 - 32768) * (a.umPerPulse : Int)) := by
    simp only [travelled, used, read, signedDiff_eq]
  have sum : totalDistance s n (((r.value - latched + 32768) % 65536 - 32768) * (a.umPerPulse : Int)) =
      total := rfl
  have floor : floorDiv total 1000 = total / 1000 := rfl
  have rest : total - total / 1000 * 1000 = total % 1000 := by omega
  simp only [derivedPosition, travel, sum, floor, rest]
  split
  · rfl
  · split
    · next reaches =>
      have behind : ((e.offset : Int) + total / 1000).toNat * 1000 + (total % 1000).toNat =
          (e.offset * 1000 + total).toNat := by omega
      rw [behind]
    · rfl

/-- A beacon still ahead of the reference axle, at or after its own segment's start. -/
theorem derivedPosition_behind (used : s.tables.axle[s.tables.param.readerAxle[n]] = some a)
    (read : s.sit.pulse[a.slot].latest = some r) (back : beaconTotal s n a r latched < 0)
    (reaches : 0 ≤ (e.offset : Int) + beaconTotal s n a r latched / 1000) :
    (derivedPosition s n e latched).2 = some
      { segment := e.segment, offset := (e.offset * 1000 + beaconTotal s n a r latched).toNat } := by
  rw [derivedPosition_of_total used read, if_neg (by omega), if_pos reaches]

theorem derivedPosition_before_start (used : s.tables.axle[s.tables.param.readerAxle[n]] = some a)
    (read : s.sit.pulse[a.slot].latest = some r)
    (before : (e.offset : Int) + beaconTotal s n a r latched / 1000 < 0) :
    (derivedPosition s n e latched).2 = none := by
  rw [derivedPosition_of_total used read, if_neg (by omega), if_neg (not_le.mpr before)]

/-- A beacon passed: the walk from its place ends at the derived position. -/
theorem derivedPosition_walks (used : s.tables.axle[s.tables.param.readerAxle[n]] = some a)
    (read : s.sit.pulse[a.slot].latest = some r) (passed : 0 ≤ beaconTotal s n a r latched)
    (sound : RouteFit s) {place : Place} (starts : beaconPlace s e.segment = place) :
    ∃ stop, Walks s place e.segment e.offset (beaconTotal s n a r latched / 1000).toNat stop ∧
      (derivedPosition s n e latched).2 = stop.map fun p =>
        { segment := p.segment
          offset := p.offset * 1000 + (beaconTotal s n a r latched % 1000).toNat } := by
  subst starts
  refine ⟨_, walk_walks sound
    { segment := e.segment, offset := e.offset, place := beaconPlace s e.segment } _, ?_⟩
  rw [derivedPosition_of_total used read, if_pos (by omega)]

end Derivation

/-! ## The relation to the reference position (R47) -/

section Relating

variable {s : State} {p : Located} {d : Derived}

theorem relate_same (here : d.segment = p.segment) :
    relate s p d = (s, .same ((d.offset : Int) - p.offset)) := by simp [relate, here]

theorem relate_behind {k : Nat} {e : TrailEntry} (other : d.segment ≠ p.segment)
    (newest : NewestOf s.opu.trail d.segment k e)
    (within : p.offset / 1000 + newerLength s.opu.trail k < s.tables.param.window) :
    relate s p d = (s, .behind
      (d.offset - ((p.offset : Int) + newerLength s.opu.trail (k + 1) * 1000))) := by
  have start : mm p.offset < s.tables.param.window := by unfold mm; omega
  have back := searchBehind_of_newest newest
    (r := s.tables.param.window - mm p.offset) (by unfold mm; omega) 0
  have error : -((p.offset : Int) + ((0 + newerLength s.opu.trail (k + 1) * 1000 : Nat) : Int) - d.offset) =
      d.offset - ((p.offset : Int) + newerLength s.opu.trail (k + 1) * 1000) := by
    push_cast
    ring
  simp only [relate, if_neg other, if_pos start, back, error]

/-- The search ahead around a reference position. -/
def aheadOf (s : State) (p : Located) (d : Derived) : Ahead :=
  searchAhead (walkFuel (mm p.offset) s.tables.param.window) s .current p.segment (mm p.offset)
    s.tables.param.window (-(p.offset : Int)) d.segment

theorem aheadOf_meets (sound : RouteFit s) (p : Located) (d : Derived) :
    Meets s d.segment .current p.segment (p.offset / 1000) s.tables.param.window (-(p.offset : Int))
      (aheadOf s p d).met :=
  searchAhead_meets s _ nofun (.refl sound.cache) (by unfold walkFuel mm; omega)

/-- A segment that the search behind does not meet is searched for ahead. -/
theorem relate_ahead (other : d.segment ≠ p.segment)
    (far : ∀ k e, NewestOf s.opu.trail d.segment k e →
      ¬ p.offset / 1000 + newerLength s.opu.trail k < s.tables.param.window) :
    (relate s p d).2 =
      ((aheadOf s p d).met.map fun m => Relation.ahead (m.1 + d.offset) m.2).getD .notFound := by
  have notBehind : (if mm p.offset < s.tables.param.window then
      searchBehind s.opu.trail (s.tables.param.window - mm p.offset) d.segment 0 else none) = none := by
    split
    · next start =>
      refine searchBehind_of_none (by omega) (fun k e newest => ?_) 0
      have := far k e newest
      unfold mm
      omega
    · rfl
  cases met : (aheadOf s p d).met with
  | none =>
    unfold aheadOf at met
    simp only [relate, if_neg other, notBehind, met]
    rfl
  | some m =>
    unfold aheadOf at met
    simp only [relate, if_neg other, notBehind, met]
    rfl

end Relating

end Sys2Proof.Proofs

/-! SUPPORT. What a handled beacon leaves (R45, R48 to R50), and the reconciliation whole (R45 to R51). -/

namespace Sys2Proof.Proofs

open Sys2Proof.Machine

/-! ## A reader slot handled (R45) -/

theorem beaconFor_none {beacon : Vector (Option BeaconEntry) 64} {ident : Nat}
    (h : ∀ (i : Fin 64) e, beacon[i] = some e → e.ident ≠ ident) : beaconFor beacon ident = none := by
  refine List.findSome?_eq_none_iff.mpr fun x hx => ?_
  rw [toList_eq_finRange] at hx
  obtain ⟨i, -, rfl⟩ := List.mem_map.mp hx
  split
  · next e at_ => exact if_neg (h i e at_)
  · rfl

theorem beaconFor_some {beacon : Vector (Option BeaconEntry) 64} {ident : Nat} {i : Fin 64}
    {e : BeaconEntry} (at_ : beacon[i] = some e) (names : e.ident = ident)
    (only : ∀ (j : Fin 64) o, beacon[j] = some o → o.ident = ident → o = e) :
    beaconFor beacon ident = some e := by
  cases found : beaconFor beacon ident with
  | none =>
    have none_ := List.findSome?_eq_none_iff.mp found beacon[i]
      (by rw [toList_eq_finRange]; exact List.mem_map_of_mem (List.mem_finRange i))
    simp [at_, names] at none_
  | some o =>
    obtain ⟨x, hx, chosen⟩ := List.exists_of_findSome?_eq_some found
    rw [toList_eq_finRange] at hx
    obtain ⟨j, -, rfl⟩ := List.mem_map.mp hx
    split at chosen
    · next o' there =>
      split at chosen
      · next same =>
        cases chosen
        rw [only j o there same]
      · cases chosen
    · cases chosen

section Handling

variable {s : State} {n : Fin 2} {b : PendingBeacon}

theorem handleReader_unknown (pending : s.bru.reader[n] = some b)
    (unknown : beaconFor s.tables.beacon b.ident = none) :
    handleReader s n = (s.setFlag .beaconUnknown).setBru { s.bru with
      reader := s.bru.reader.set n.val none
      report := { outcome := .unknown, ident := some b.ident, error := none } } := by
  simp only [handleReader, pending, unknown]
  rfl

theorem handleReader_known {e : BeaconEntry} (pending : s.bru.reader[n] = some b)
    (known : beaconFor s.tables.beacon b.ident = some e) :
    handleReader s n = clearReader (handleKnown s n e b) n := by
  simp only [handleReader, pending, known]

variable {e : BeaconEntry} {p : Located} {d : Derived}

theorem handleKnown_lost (lost : s.opu.position = none) :
    handleKnown s n e b = handleLost (derivedPosition s n e b.latched).1
      (derivedPosition s n e b.latched).2 b.ident := by
  simp [handleKnown, lost]

theorem handleKnown_underived (at_ : s.opu.position = some p)
    (underived : (derivedPosition s n e b.latched).2 = none) :
    handleKnown s n e b = disagree (derivedPosition s n e b.latched).1 none none b.ident := by
  simp [handleKnown, at_, underived]

theorem agrees_iff (window : Nat) (r : Relation) :
    agrees window r = true ↔ ∃ e, r.error = some e ∧ e.natAbs ≤ window * 1000 := by
  unfold agrees
  cases r.error <;> simp

theorem handleKnown_related {w : State} {r : Relation} (at_ : s.opu.position = some p)
    (derived : (derivedPosition s n e b.latched).2 = some d)
    (related : relate (derivedPosition s n e b.latched).1 p d = (w, r)) :
    handleKnown s n e b =
      if ∃ e, r.error = some e ∧ e.natAbs ≤ s.tables.param.window * 1000 then agree w p d r b.ident
      else disagree w (some d) (r.error.map fun e => roundDiv e 1000) b.ident := by
  simp only [handleKnown, derivedPosition_keeps, at_, derived, related, agrees_iff, reportedError]

end Handling

/-- A known beacon in LOST (R50). -/
theorem handleLost_none (s : State) (ident : Nat) :
    handleLost s none ident = (s.setFlag .beaconDisagree).setBru { s.bru with
      report := { outcome := .disagreed, ident := some ident, error := none } } := rfl

theorem handleLost_some (s : State) (d : Derived) (ident : Nat) :
    handleLost s (some d) ident = (s.setOpu { s.opu with
        position := some { segment := d.segment, offset := d.offset, overrun := 0, confirmed := false }
        trail := [] }).setBru { s.bru with
      agreement := 0
      disagreement := 0
      distance := 0
      report := { outcome := .adopted, ident := some ident, error := none } } := rfl

/-! ## An agreement (R48) -/

theorem raisedCount_eq (n : Nat) : raisedCount n = min (n + 1) 2 := by
  unfold raisedCount
  split <;> omega

/-- The confirmation of a position at an agreement (R48). -/
def confirmedBy (s : State) (p : Located) : Bool := p.confirmed || decide (1 ≤ s.bru.agreement)

theorem agree_bru (s : State) (p : Located) (d : Derived) (r : Relation) (ident : Nat) :
    (agree s p d r ident).bru = { s.bru with
      agreement := min (s.bru.agreement + 1) 2
      disagreement := 0
      distance := 0
      report := { outcome := .agreed, ident := some ident
                  error := r.error.map fun e => roundDiv e 1000 } } := by
  simp [agree, writeReport, raisedCount_eq, reportedError]

theorem agree_opu (s : State) (p : Located) (d : Derived) (r : Relation) (ident : Nat) :
    (agree s p d r ident).opu = { (correct s p d r).opu with
      position := (correct s p d r).opu.position.map fun q =>
        { q with confirmed := confirmedBy s p } } := by
  have twice : (raisedCount s.bru.agreement == 2) = decide (1 ≤ s.bru.agreement) := by
    rw [raisedCount_eq, Bool.eq_iff_iff, beq_iff_eq, decide_eq_true_iff]
    omega
  simp [agree, State.setConfirmed, twice, confirmedBy]

/-- What a segment left changes of the Odometry and Position Unit (R28, R31). -/
theorem leaveSegment_opu (s : State) (n : Nat) (h : Header) : (leaveSegment s n h).opu =
    { s.opu with
      trail := (leaveSegment s n h).opu.trail, route := (leaveSegment s n h).opu.route } := by
  unfold leaveSegment
  dsimp only
  split
  · rfl
  · split <;> rfl

theorem leaveSegments_opu (s : State) (passed : List (Nat × Header)) : (leaveSegments s passed).opu =
    { s.opu with
      trail := (leaveSegments s passed).opu.trail, route := (leaveSegments s passed).opu.route } := by
  induction passed generalizing s with
  | nil => rfl
  | cons x rest ih =>
    have later := ih (leaveSegment s x.1 x.2)
    rw [leaveSegment_opu] at later
    exact later

theorem leaveSegments_carries {s : State} {m : Motion} (h : Carries s m) (passed : List (Nat × Header)) :
    Carries (leaveSegments s passed) (passed.foldl (fun m sh => m.leave sh.1 sh.2) m) := by
  induction passed generalizing s m with
  | nil => exact h
  | cons x rest ih => exact ih (leaveSegment_carries h x.1 x.2)

/-- The motion that an agreement ahead starts with (R48). -/
def motionAt (s : State) (p : Located) : Motion :=
  { segment := p.segment, offset := p.offset, overrun := p.overrun, trail := s.opu.trail
    route := s.opu.route, mismatch := false }

theorem motionAt_carries (s : State) (p : Located) : Carries s (motionAt s p) := ⟨rfl, rfl, nofun⟩

/-- An agreement ahead moves the reference point over the segments passed (R48). -/
theorem agree_ahead {s : State} {p : Located} (d : Derived) (e : Int) (passed : List (Nat × Header))
    (ident : Nat) :
    let t := agree s p d (.ahead e passed) ident
    let m := passed.foldl (fun m sh => Motion.leave m sh.1 sh.2) (motionAt s p)
    t.opu = { s.opu with
      position := some { segment := d.segment, offset := d.offset, overrun := 0
                         confirmed := confirmedBy s p }
      trail := m.trail
      route := m.route } ∧
    (m.mismatch = true → t.flag .routeMismatch = true) := by
  intro t m
  have carried : Carries (leaveSegments s passed) m := leaveSegments_carries (motionAt_carries s p) passed
  refine ⟨?_, carried.mismatch⟩
  rw [agree_opu]
  simp only [correct, State.setOpu_opu, Option.map_some]
  rw [leaveSegments_opu, carried.trail, carried.route]

/-! ## A disagreement (R49) -/

section Disagreeing

variable {s : State} {error : Option Int} {ident : Nat}

/-- A disagreement counted and reported, the position left as it stands. -/
def countedDisagreement (s : State) (error : Option Int) (ident : Nat) : State :=
  (s.setFlag .beaconDisagree).setBru { s.bru with
    agreement := 0
    disagreement := min (s.bru.disagreement + 1) 2
    report := { outcome := .disagreed, ident := some ident, error := error } }

theorem disagree_none : disagree s none error ident = countedDisagreement s error ident := by
  simp only [disagree, raisedCount_eq]
  rfl

theorem disagree_first (first : s.bru.disagreement = 0) (d : Option Derived) :
    disagree s d error ident = countedDisagreement s error ident := by
  cases d with
  | none => exact disagree_none
  | some d =>
    have once : min (s.bru.disagreement + 1) 2 ≠ 2 := by omega
    simp only [disagree, raisedCount_eq, if_neg once]
    rfl

theorem disagree_again (again : 1 ≤ s.bru.disagreement) (d : Derived) :
    disagree s (some d) error ident = ((s.setFlag .beaconDisagree).setOpu { s.opu with
        position := some { segment := d.segment, offset := d.offset, overrun := 0, confirmed := false }
        trail := [] }).setBru { s.bru with
      agreement := 0
      disagreement := 0
      distance := 0
      report := { outcome := .adopted, ident := some ident, error := error } } := by
  have second : min (s.bru.disagreement + 1) 2 = 2 := by omega
  simp only [disagree, raisedCount_eq, second, if_true]
  rfl

end Disagreeing

/-! ## The drift (R51) -/

theorem driftStage_lost {s : State} (lost : s.opu.position = none) : driftStage s = s := by
  simp [driftStage, lost]

theorem driftStage_at {s : State} {p : Located} (at_ : s.opu.position = some p) :
    let since := s.bru.distance + s.opu.lastDistance.natAbs
    let limit := s.tables.param.drift * 1000000
    driftStage s = (s.setBru { s.bru with distance := min since (limit + 1) }).setOpu { s.opu with
      position := some { p with confirmed := p.confirmed && decide (since ≤ limit) } } := by
  intro since limit
  have near : driftedDistance s ≤ driftLimit s ↔ since ≤ limit := by
    unfold driftedDistance driftLimit
    omega
  simp only [driftStage, at_, near]
  rfl

/-- Settles O24, clause by clause: stage 4 in its parts, the derivation by the walk, the relation by the two
searches, and what each outcome leaves. -/
theorem beaconOutcomes : Obligations.BeaconOutcomes := by
  refine ⟨?stage, fun s => ⟨driftStage_lost, fun p at_ => driftStage_at at_⟩, ?handled, ?derived,
    ?related, ?agreed, ?disagreed⟩
  case stage =>
    intro s t due run
    rw [exec_positionUpdate_due due] at run
    cases run
    rw [positionUpdate_bru, positionUpdate_opu, reported_opu]
    exact ⟨rfl, rfl, rfl, rfl⟩
  case handled =>
    intro s n
    refine ⟨handleReader_of_none, fun b pending => ⟨fun unknown =>
      handleReader_unknown pending (beaconFor_none unknown), fun i e at_ names only => ?_⟩⟩
    refine ⟨handleKnown s n e b, handleReader_known pending (beaconFor_some at_ names only),
      fun lost => ?_, fun p at_ => ?_⟩
    · rw [handleKnown_lost lost]
      refine ⟨fun underived => ?_, fun d derived => ?_⟩
      · rw [underived, handleLost_none]
        simp only [derivedPosition_keeps]
      · rw [derived, handleLost_some]
        simp only [derivedPosition_keeps]
    · refine ⟨handleKnown_underived at_, fun d derived w r related => ?_⟩
      rw [handleKnown_related at_ derived related]
      refine ⟨fun near => if_pos near, fun far => if_neg ?_⟩
      rintro ⟨x, error, near⟩
      exact absurd near (not_le.mpr (far x error))
  case derived =>
    intro s n e latched axle
    refine ⟨fun unused => by rw [derivedPosition_unused unused], fun a used => ⟨fun unread => by
      rw [derivedPosition_unread used unread], fun r read => ?_⟩⟩
    refine ⟨derivedPosition_behind used read, fun _ => derivedPosition_before_start used read,
      fun passed sound => ?_⟩
    have starts {place : Place} := derivedPosition_walks used read passed ((routeSound_iff s).mp sound)
      (e := e) (place := place)
    refine ⟨fun lost => starts (beaconPlace_lost lost _),
      fun p at_ => ⟨fun same => ?_, fun other => ?_⟩⟩
    · exact starts (same ▸ beaconPlace_current at_)
    · exact ⟨fun k x entry names newer => starts (beaconPlace_trail at_ other ⟨entry, names, newer⟩),
        fun off => starts (beaconPlace_beyond at_ other off)⟩
  case related =>
    intro s p d sound
    refine ⟨relate_same, fun other => ⟨?_, fun notBehind => ?_⟩⟩
    · rintro k ⟨x, entry, names, newer, within⟩
      exact relate_behind other ⟨entry, names, newer⟩ within
    · have far (k : Nat) (x : TrailEntry) (newest : NewestOf s.opu.trail d.segment k x) :
          ¬ p.offset / 1000 + newerLength s.opu.trail k < s.tables.param.window := fun within =>
        notBehind k ⟨x, newest.entry, newest.names, newest.newer, within⟩
      have searched := relate_ahead other far
      refine ⟨(aheadOf s p d).met, aheadOf_meets ((routeSound_iff s).mp sound) p d, fun unmet => ?_,
        fun start passed met => ?_⟩
      · rw [searched, unmet]
        rfl
      · rw [searched, met]
        rfl
  case agreed =>
    intro s p d r ident at_ found
    refine ⟨agree_bru s p d r ident, fun e same => ?_, fun e behind => ?_, fun e passed ahead => ?_⟩
    · rw [same, agree_opu]
      rfl
    · rw [behind, agree_opu]
      rfl
    · rw [ahead]
      exact agree_ahead d e passed ident
  case disagreed =>
    intro s ident error derived
    rcases Nat.eq_zero_or_pos s.bru.disagreement with first | again
    · rw [disagree_first first]
      simp [countedDisagreement, first]
    · have second : min (s.bru.disagreement + 1) 2 = 2 := by omega
      have counted : s.bru.disagreement ≠ 0 := Nat.ne_of_gt again
      cases derived with
      | none =>
        rw [disagree_none]
        simp [countedDisagreement, second, counted]
      | some d =>
        rw [disagree_again again]
        simp [counted]

end Sys2Proof.Proofs

/-! SUPPORT. Where a segment stands in the Segment Cache's directory (R55, R56): the way in which it is found, the
content that is held of it, one set replaced, and what lookups and invalidations (R70, R76, R77) do with it. -/

namespace Sys2Proof.Proofs

open Sys2Proof.Machine

/-! ## The way of a segment (R55) -/

theorem findWay_of_first {c : CacheSet} {tag : Nat} {w : Fin 2}
    (holds : ∃ l, c.ways[w] = some l ∧ l.tag = tag)
    (first : ∀ v : Fin 2, v < w → ¬ ∃ l, c.ways[v] = some l ∧ l.tag = tag) :
    findWay c tag = some w := by
  have here := (wayHolds_iff c w tag).mpr holds
  match w with
  | 0 => simp [findWay, here]
  | 1 =>
    have other : wayHolds c 0 tag ≠ true := mt (wayHolds_iff c 0 tag).mp (first 0 (by decide))
    simp [findWay, here, other]

theorem findWay_of_absent {c : CacheSet} {tag : Nat}
    (absent : ∀ w : Fin 2, ¬ ∃ l, c.ways[w] = some l ∧ l.tag = tag) : findWay c tag = none := by
  have no (w : Fin 2) : wayHolds c w tag ≠ true := mt (wayHolds_iff c w tag).mp (absent w)
  simp [findWay, no]

/-- A way of its set holds segment `n` (R55). -/
def HeldIn (s : State) (n : Nat) (w : Fin 2) : Prop :=
  ∃ l, s.sgc.sets[setIndex n].ways[w] = some l ∧ l.tag = n / 64

theorem findWay_of_heldIn {s : State} {n : Nat} {w : Fin 2} (holds : HeldIn s n w)
    (first : ∀ v : Fin 2, v < w → ¬ HeldIn s n v) :
    findWay s.sgc.sets[setIndex n] (tagOf n) = some w :=
  findWay_of_first holds first

theorem findWay_of_not_heldIn {s : State} {n : Nat} (absent : ∀ w, ¬ HeldIn s n w) :
    findWay s.sgc.sets[setIndex n] (tagOf n) = none :=
  findWay_of_absent absent

/-- A segment is held with what its line holds (R55). -/
theorem contentOf_of_first {s : State} {n : Nat} {w : Fin 2} {l : Line}
    (here : s.sgc.sets[setIndex n].ways[w] = some l) (tag : l.tag = n / 64)
    (first : ∀ v : Fin 2, v < w → ¬ HeldIn s n v) :
    contentOf s n = l.content := by
  have found : findWay (cacheSetOf s n) (tagOf n) = some w :=
    findWay_of_heldIn ⟨l, here, tag⟩ first
  have line : lineOf s n = some l := by
    unfold lineOf
    rw [found]
    exact here
  simp only [contentOf, line]

theorem contentOf_of_absent {s : State} {n : Nat} (absent : ∀ w, ¬ HeldIn s n w) :
    contentOf s n = none := by
  have missing : findWay (cacheSetOf s n) (tagOf n) = none := findWay_of_not_heldIn absent
  simp only [contentOf, lineOf, missing]

/-! ## One set replaced -/

@[simp] theorem setCacheSet_same (s : State) (i : Fin 64) (c : CacheSet) :
    (s.setCacheSet i c).sgc.sets[i] = c := by
  simp [State.setCacheSet]

theorem setCacheSet_other (s : State) {i k : Fin 64} (c : CacheSet) (other : k ≠ i) :
    (s.setCacheSet i c).sgc.sets[k] = s.sgc.sets[k] := by
  have apart : i.val ≠ k.val := fun same => other (Fin.ext same.symm)
  simp [State.setCacheSet, Vector.getElem_set_ne, apart]

/-- The number of the segment that a line holds, from its tag and its set (R55). -/
theorem lineSegment_of_tag {n : Nat} {l : Line} (tag : l.tag = n / 64) :
    lineSegment (setIndex n) l = n := by
  simp only [lineSegment, tag, setIndex, Fin.val_ofNat]
  omega

/-! ## Lookups (R56, R70) -/

theorem touchSegment_of_first {s : State} {n : Nat} {w : Fin 2} (holds : HeldIn s n w)
    (first : ∀ v : Fin 2, v < w → ¬ HeldIn s n v) :
    touchSegment s n =
      s.setCacheSet (setIndex n) { s.sgc.sets[setIndex n] with lru := 1 - w } := by
  have found : findWay (cacheSetOf s n) (tagOf n) = some w := findWay_of_heldIn holds first
  simp only [touchSegment, found, CacheSet.touch, otherWay_eq]
  rfl

theorem touchSegment_of_absent {s : State} {n : Nat} (absent : ∀ w, ¬ HeldIn s n w) :
    touchSegment s n = s := by
  have missing : findWay (cacheSetOf s n) (tagOf n) = none := findWay_of_not_heldIn absent
  simp only [touchSegment, missing]

theorem lookupHeader_held {s : State} {n : Nat} {c : Content} (held : contentOf s n = some c)
    (needs : Bool) : lookupHeader needs s n = (touchSegment s n, some c.header) := by
  simp only [lookupHeader, held]

theorem lookupHeader_missing {s : State} {n : Nat} (missing : contentOf s n = none) (needs : Bool) :
    lookupHeader needs s n =
      (if needs then makeNeed (touchSegment s n) (wholeNeed n) else touchSegment s n, none) := by
  simp only [lookupHeader, missing]

theorem lookupBlock_held {s : State} {n : Nat} {k : Fin 8} {c : Content} {b : SubBlock}
    (held : contentOf s n = some c) (block : c.blocks[k] = some b) :
    lookupBlock s n k = (touchSegment s n, some b) := by
  simp only [lookupBlock, held, block]

theorem lookupBlock_without_block {s : State} {n : Nat} {k : Fin 8} {c : Content}
    (held : contentOf s n = some c) (block : c.blocks[k] = none) :
    lookupBlock s n k = (makeNeed (touchSegment s n) (blockNeed n k), none) := by
  simp only [lookupBlock, held, block]

theorem lookupBlock_missing {s : State} {n : Nat} (missing : contentOf s n = none) (k : Fin 8) :
    lookupBlock s n k = (makeNeed (touchSegment s n) (wholeNeed n), none) := by
  simp only [lookupBlock, missing]

/-! ## Invalidation (R76, R77) -/

/-- A way of the set of segment `n` that is allocated with its tag, invalidated (R76). -/
theorem invalidateWay_of_tag {inUse : List Nat} {n : Nat} {l : Line} (tag : l.tag = n / 64) :
    invalidateWay inUse (setIndex n) (some l) =
      if n ∈ inUse then some { l with content := none } else none := by
  simp [invalidateWay, lineSegment_of_tag tag]

theorem invalidateSegment_found {s : State} {n : Nat} {w : Fin 2}
    (found : findWay s.sgc.sets[setIndex n] (tagOf n) = some w) :
    invalidateSegment s n = freeFetch (s.setCacheSet (setIndex n) { s.sgc.sets[setIndex n] with
      ways := s.sgc.sets[setIndex n].ways.set w.val
        (invalidateWay s.sgc.inUse (setIndex n) s.sgc.sets[setIndex n].ways[w]) }) n := by
  simp only [invalidateSegment, found]

theorem invalidateSegment_absent {s : State} {n : Nat}
    (absent : findWay s.sgc.sets[setIndex n] (tagOf n) = none) :
    invalidateSegment s n = freeFetch s n := by
  simp only [invalidateSegment, absent]

/-- An invalidation frees the segment's outstanding entry, and leaves the in-use set, the held needs, the other
sets and the LRU indicators (R56, R76). -/
theorem invalidateSegment_frame (s : State) (n : Nat) :
    (invalidateSegment s n).sgc.outstanding = s.sgc.outstanding.filter (fun e => e.segment ≠ n) ∧
    (invalidateSegment s n).sgc.inUse = s.sgc.inUse ∧
    (invalidateSegment s n).sgc.held = s.sgc.held ∧
    (∀ k : Fin 64, k ≠ setIndex n → (invalidateSegment s n).sgc.sets[k] = s.sgc.sets[k]) ∧
    (invalidateSegment s n).sgc.sets[setIndex n].lru = s.sgc.sets[setIndex n].lru := by
  cases found : findWay s.sgc.sets[setIndex n] (tagOf n) with
  | none =>
    rw [invalidateSegment_absent found]
    exact ⟨rfl, rfl, rfl, fun _ _ => rfl, rfl⟩
  | some w =>
    rw [invalidateSegment_found found, freeFetch_sets, setCacheSet_same]
    exact ⟨rfl, rfl, rfl, fun k other => setCacheSet_other s _ other, rfl⟩

/-- The ways of a set in which the segment stands in one way alone, after its invalidation (R76). -/
theorem invalidateSegment_ways {s : State} {n : Nat} {w v : Fin 2} {l : Line} (other : v ≠ w)
    (here : s.sgc.sets[setIndex n].ways[w] = some l) (tag : l.tag = n / 64)
    (alone : ∀ m, s.sgc.sets[setIndex n].ways[v] = some m → m.tag ≠ n / 64) :
    (invalidateSegment s n).sgc.sets[setIndex n].ways[v] = s.sgc.sets[setIndex n].ways[v] ∧
    (invalidateSegment s n).sgc.sets[setIndex n].ways[w] =
      if n ∈ s.sgc.inUse then some { l with content := none } else none := by
  have found : findWay s.sgc.sets[setIndex n] (tagOf n) = some w :=
    findWay_of_heldIn ⟨l, here, tag⟩ fun x before => by
      have : x = v := by omega
      rintro ⟨m, there, same⟩
      exact alone m (this ▸ there) same
  have apart : w.val ≠ v.val := fun same => other (Fin.ext same.symm)
  rw [invalidateSegment_found found, freeFetch_sets, setCacheSet_same, here, invalidateWay_of_tag tag]
  exact ⟨by simp [apart], by simp⟩

/-- "All" leaves in each set the LRU indicator, and invalidates both ways (R77). -/
theorem invalidateAll_sets (s : State) (i : Fin 64) : (invalidateAll s).sgc.sets[i] =
    { s.sgc.sets[i] with ways := s.sgc.sets[i].ways.map (invalidateWay s.sgc.inUse i) } := by
  simp [invalidateAll]

theorem invalidateAll_ways (s : State) (i : Fin 64) (w : Fin 2) :
    (invalidateAll s).sgc.sets[i].ways[w] = invalidateWay s.sgc.inUse i s.sgc.sets[i].ways[w] := by
  rw [invalidateAll_sets]
  simp

theorem invalidateOne_fits {segment : Word} (o : Origin) (s : State) (low : segment.toNat ≠ 0)
    (high : segment.toNat ≠ 65535) : invalidateOne o [segment] s =
      applyOrPost s o (.invalidate segment.toNat) false false :=
  if_pos ((segmentOk_iff _).mpr ⟨low, high⟩)

theorem invalidateOne_unfit {segment : Word} (o : Origin) (s : State)
    (unfit : segment.toNat = 0 ∨ segment.toNat = 65535) :
    invalidateOne o [segment] s = refuseRange s :=
  if_neg fun ok => by
    obtain ⟨low, high⟩ := (segmentOk_iff _).mp ok
    exact unfit.elim low high

/-- Settles O50: both forms go the path of a request that is no table write; the segment's way follows from the
way in which it is found. -/
theorem invalidationHandled : Obligations.InvalidationHandled := by
  refine ⟨fun o segment s h => ?_, fun s => ⟨rfl, fun _ => rfl⟩, fun s n => ?_, fun s => ?_⟩
  · have one : exec (.cacheInvalidate o [segment]) s =
        .next (manage s o 9 (invalidateOne o [segment])) := rfl
    have all : exec (.cacheInvalidateAll o [segment]) s =
        .next (manage s o 9 (fun u => applyOrPost u o .invalidateAll false false)) := rfl
    rw [one, all, manage_of_addressed h, manage_of_addressed h]
    intro u
    have part : u.sdu.part = s.sdu.part := rfl
    have posted : u.mrh.posted = s.mrh.posted := rfl
    refine ⟨fun unfit => ?_, fun low high => ⟨fun config => ?_, fun busy free => ?_, fun busy full => ?_⟩,
      fun config => ?_, fun busy free => ?_, fun busy full => ?_⟩
    · rw [invalidateOne_unfit o _ unfit]
      rfl
    · rw [invalidateOne_fits o _ low high, applyOrPost_config o _ (part.trans config)]
      rfl
    · rw [invalidateOne_fits o _ low high, applyOrPost_posted o _ (part ▸ busy) (posted.trans free)]
    · rw [invalidateOne_fits o _ low high, applyOrPost_notReady o _ (part ▸ busy) (posted ▸ full)]
    · rw [applyOrPost_config o _ (part.trans config)]
      rfl
    · rw [applyOrPost_posted o _ (part ▸ busy) (posted.trans free)]
    · rw [applyOrPost_notReady o _ (part ▸ busy) (posted ▸ full)]
  · obtain ⟨outstanding, inUse, held, others, lru⟩ := invalidateSegment_frame s n
    refine ⟨outstanding, inUse, held, by simp, by simp, others, lru, fun absent => ?_,
      fun w v l here tag other alone => invalidateSegment_ways other here tag alone⟩
    have missing : findWay s.sgc.sets[setIndex n] (tagOf n) = none :=
      findWay_of_not_heldIn fun w ⟨l, here, tag⟩ => absent w l here tag
    rw [invalidateSegment_absent missing]
    rfl
  · refine ⟨rfl, by simp, by simp, fun i => ⟨by rw [invalidateAll_sets], fun w => ⟨?_, ?_⟩⟩⟩
    · intro free
      rw [invalidateAll_ways, free]
      rfl
    · intro l here
      rw [invalidateAll_ways, here]
      simp [invalidateWay, lineSegment]

end Sys2Proof.Proofs

/-! SUPPORT. Needs (R71 to R73): the outstanding table after each kind of need, and the FETCH for it. -/

namespace Sys2Proof.Proofs

open Sys2Proof.Machine

/-- The outstanding entry that a need makes (R72). -/
def entryOf (n : Need) : FetchEntry :=
  { segment := n.segment, header := n.header, blocks := n.blocks, age := 0 }

/-- The state with a need's entry made (R72). -/
def withEntry (s : State) (n : Need) : State :=
  s.setSgc { s.sgc with outstanding := s.sgc.outstanding ++ [entryOf n] }

/-- The state with a need merged into its segment's entry (R72). -/
def withMerged (s : State) (n : Need) : State :=
  s.setSgc { s.sgc with outstanding := s.sgc.outstanding.map (mergeFetch n) }

/-! ## The FETCH of a need (R73) -/

theorem offerFetch_room {s : State} {n : Need} (room : queueLength s.rpu < 12) :
    offerFetch s n = s.setRpu { s.rpu with others := s.rpu.others ++ [.fetch n] } := by
  simp [offerFetch, queueHasRoom, Config.queueCapacity, room, offerOther_room s (.fetch n) room]

theorem offerFetch_full {s : State} {n : Need} (full : 12 ≤ queueLength s.rpu) :
    offerFetch s n = (freeFetch s n.segment).setFlag .txqFull := by
  have refused : queueHasRoom s = false := decide_eq_false (Nat.not_lt.mpr full)
  rw [offerFetch, if_neg (Bool.eq_false_iff.mp refused), offerOther_full s (.fetch n) full]
  rfl

/-! ## Entries freed again -/

/-- An entry just made and freed leaves the table as it was. -/
theorem freeFetch_withEntry {s : State} {n : Need} (absent : outstandingFor s n.segment = none) :
    freeFetch (withEntry s n) n.segment = s := by
  have others : s.sgc.outstanding.filter (fun e => e.segment ≠ n.segment) = s.sgc.outstanding :=
    List.filter_eq_self.mpr fun e he => by simpa using outstandingFor_none absent e he
  have own : [entryOf n].filter (fun e => e.segment ≠ n.segment) = [] := by simp [entryOf]
  simp only [freeFetch, withEntry, State.setSgc_sgc, State.setSgc_setSgc, List.filter_append, others,
    own, List.append_nil]
  exact State.setSgc_self s

/-- Freeing a segment's entry frees it whatever was merged into it. -/
theorem freeFetch_withMerged (s : State) (n : Need) :
    freeFetch (withMerged s n) n.segment = freeFetch s n.segment := by
  have kept : (s.sgc.outstanding.map (mergeFetch n)).filter (fun e => e.segment ≠ n.segment) =
      s.sgc.outstanding.filter (fun e => e.segment ≠ n.segment) := by
    induction s.sgc.outstanding with
    | nil => rfl
    | cons e es ih =>
      by_cases same : e.segment = n.segment
      · simpa [mergeFetch_segment, same] using ih
      · simpa [mergeFetch_segment, mergeFetch, same] using ih
  simp only [freeFetch, withMerged, State.setSgc_sgc, State.setSgc_setSgc, kept]

/-! ## A need made (R72) -/

theorem newlyWanted_nothing_iff (e : FetchEntry) (n : Need) : (newlyWanted e n).nothing = true ↔
    (n.header = true → e.header = true) ∧ (newlyWanted e n).blocks = 0 := by
  cases hn : n.header <;> cases he : e.header <;> simp [newlyWanted, Need.nothing, hn, he]

theorem makeNeed_entry {s : State} {n : Need} (absent : outstandingFor s n.segment = none)
    (room : s.sgc.outstanding.length < 4) : makeNeed s n = offerFetch (withEntry s n) n := by
  simp only [makeNeed, absent]
  exact if_pos room

theorem makeNeed_no_room {s : State} {n : Need} (absent : outstandingFor s n.segment = none)
    (full : 4 ≤ s.sgc.outstanding.length) : makeNeed s n = s := by
  simp only [makeNeed, absent]
  exact if_neg (Nat.not_lt.mpr full)

theorem makeNeed_wanted {s : State} {n : Need} {e : FetchEntry}
    (known : outstandingFor s n.segment = some e) (old : (newlyWanted e n).nothing = true) :
    makeNeed s n = s := by
  simp only [makeNeed, known, old, if_true]

theorem makeNeed_merged {s : State} {n : Need} {e : FetchEntry}
    (known : outstandingFor s n.segment = some e) (fresh : (newlyWanted e n).nothing ≠ true) :
    makeNeed s n = offerFetch (withMerged s n) (newlyWanted e n) := by
  simp only [makeNeed, known, fresh]
  rfl

/-- Something is newly wanted of an entry: the header, or a sub-block (R72). -/
theorem newlyWanted_something {e : FetchEntry} {n : Need}
    (h : (newlyWanted e n).header = true ∨ (newlyWanted e n).blocks ≠ 0) :
    (newlyWanted e n).nothing ≠ true := by
  rcases h with header | blocks
  · simp [Need.nothing, header]
  · exact fun nothing => blocks ((newlyWanted_nothing_iff e n).mp nothing).2

/-- Settles O37: a lookup goes by the content held and the way found; a need by its segment's entry, the room in
the table and the room in the queue. -/
theorem needMade : Obligations.NeedMade := by
  refine ⟨fun s n needs k => ?lookups, fun s n k => ?within, fun s d o count data => ?arrivals,
    fun s n => ?needs⟩
  case lookups =>
    intro i holds renewed whole missed
    refine ⟨fun absent => ?_, fun w l here tag first => ?_⟩
    · have touched : touchSegment s n = s := touchSegment_of_absent absent
      have content : contentOf s n = none := contentOf_of_absent absent
      exact ⟨by rw [lookupHeader_missing content, touched]; rfl,
        by rw [lookupBlock_missing content, touched]; rfl⟩
    · have touched : touchSegment s n = renewed w := touchSegment_of_first ⟨l, here, tag⟩ first
      have content : contentOf s n = l.content := contentOf_of_first here tag first
      refine ⟨fun none_ => ?_, fun c some_ => ⟨?_, fun b block => ?_, fun block => ?_⟩⟩
      · rw [none_] at content
        exact ⟨by rw [lookupHeader_missing content, touched]; rfl,
          by rw [lookupBlock_missing content, touched]; rfl⟩
      · rw [lookupHeader_held (content.trans some_), touched]
      · rw [lookupBlock_held (content.trans some_) block, touched]
      · rw [lookupBlock_without_block (content.trans some_) block, touched, blockNeed,
          BitVec.twoPow_eq]
        rfl
  case within =>
    refine ⟨rfl, rfl, fun none_ => ?_, fun now later some_ => ?_⟩
    · simp only [takeWithin, none_]
    · simp only [takeWithin, some_]
  case arrivals => exact ⟨rfl, rfl, rfl⟩
  case needs =>
    refine ⟨fun absent room place => ?_, fun absent full => makeNeed_no_room absent full,
      fun absent room full => ?_, fun e known => ⟨fun header blocks => ?_, fun fresh place => ?_,
        fun fresh full => ?_⟩⟩
    · rw [makeNeed_entry absent room, offerFetch_room (s := withEntry s n) place]
      rfl
    · rw [makeNeed_entry absent room, offerFetch_full (s := withEntry s n) full, freeFetch_withEntry absent]
    · exact makeNeed_wanted known ((newlyWanted_nothing_iff e n).mpr ⟨header, blocks⟩)
    · rw [makeNeed_merged known (newlyWanted_something fresh),
        offerFetch_room (s := withMerged s n) place]
      rfl
    · rw [makeNeed_merged known (newlyWanted_something fresh),
        offerFetch_full (s := withMerged s n) full]
      exact congrArg (State.setFlag · .txqFull) (freeFetch_withMerged s n)

end Sys2Proof.Proofs

/-! SUPPORT. The checks of a SEGMENT frame (R58, R59) said of its words, and what an accepted frame carries (R57,
R60). -/

namespace Sys2Proof.Proofs

open Sys2Proof.Machine

/-! ## The sub-blocks that a mask names (R57) -/

/-- The masked sub-blocks of a list of numbers, counted on `Fin 8` and on `Nat`. -/
theorem map_val_filter_mask (mask : Word) (ks : List (Fin 8)) :
    (ks.filter fun k => mask.getLsbD k.val).map Fin.val =
      (ks.map Fin.val).filter fun k => mask.getLsbD k :=
  List.filter_map.symm

/-- How many sub-blocks a mask names. -/
def namedCount (mask : Word) : Nat := ((List.range 8).filter fun k => mask.getLsbD k).length

theorem maskedBlocks_length (mask : Word) : (maskedBlocks mask).length = namedCount mask := by
  have numbers := map_val_filter_mask mask (List.finRange 8)
  rw [List.map_coe_finRange_eq_range] at numbers
  rw [namedCount, ← numbers, List.length_map, maskedBlocks]

theorem mem_maskedBlocks {mask : Word} {k : Fin 8} :
    k ∈ maskedBlocks mask ↔ mask.getLsbD k.val = true := by
  simp [maskedBlocks]

theorem maskedBlocks_nodup (mask : Word) : (maskedBlocks mask).Nodup :=
  (List.nodup_finRange 8).filter _

/-- A named sub-block stands behind the named ones of lower number. -/
theorem maskedBlocks_split {mask : Word} {k : Fin 8} (named : mask.getLsbD k.val = true) :
    ∃ before after, maskedBlocks mask = before ++ k :: after ∧
      before.length = ((List.range k.val).filter fun j => mask.getLsbD j).length := by
  have all : List.finRange 8 = (List.finRange 8).take k.val ++ k :: (List.finRange 8).drop (k.val + 1) := by
    have here : k.val < (List.finRange 8).length := by simp
    have rest := List.drop_eq_getElem_cons here
    rw [List.getElem_finRange] at rest
    exact (List.take_append_drop k.val _).symm.trans (congrArg _ rest)
  have lower := map_val_filter_mask mask ((List.finRange 8).take k.val)
  rw [List.map_take, List.map_coe_finRange_eq_range, List.take_range,
    Nat.min_eq_left (Nat.le_of_lt k.isLt)] at lower
  have split := (congrArg (List.filter fun j : Fin 8 => mask.getLsbD j.val) all).trans
    (List.filter_append _ _)
  rw [List.filter_cons_of_pos (p := fun j : Fin 8 => mask.getLsbD j.val) named] at split
  exact ⟨_, _, split, (List.length_map Fin.val).symm.trans (congrArg List.length lower)⟩

/-! ## The checks (R58, R59) -/

/-- A SEGMENT frame of at least 6 words that fails a check of R58 or R59. -/
def SegmentUnfit (total : Nat) (n length s0 s1 mask : Word) : Prop :=
  256 ≤ mask.toNat ∨ 4 < namedCount mask ∨ total ≠ 6 + 4 * namedCount mask ∨
  n.toNat = 0 ∨ n.toNat = 65535 ∨ length.toNat < 1000 ∨ 60000 < length.toNat ∨
  s0.toNat = 65535 ∨ s1.toNat = 65535 ∨ (s1.toNat ≠ 0 ∧ s0.toNat = 0)

/-- The fields of a SEGMENT payload of at least 6 words (Table 12.2). -/
def fieldsOf (n length s0 s1 mask gains : Word) (points : List Word) : SegmentFields :=
  { segment := n.toNat, header := { length := length.toNat, succ0 := s0.toNat, succ1 := s1.toNat },
    mask := mask, gains := gains, points := points.map BitVec.toInt }

theorem upperMask_iff (mask : Word) : (field mask 8 8 == 0) = true ↔ mask.toNat < 256 := by
  simp only [field, beq_iff_eq]
  omega

theorem segmentStructureOk_iff (total : Nat) (f : SegmentFields) :
    segmentStructureOk total f = true ↔
      f.mask.toNat < 256 ∧ namedCount f.mask ≤ 4 ∧ total = 6 + 4 * namedCount f.mask := by
  simp only [segmentStructureOk, Bool.and_eq_true, upperMask_iff, decide_eq_true_eq,
    maskedBlocks_length, and_assoc]

theorem segmentContentOk_iff (f : SegmentFields) : segmentContentOk f = true ↔
    f.segment ≠ 0 ∧ f.segment ≠ 65535 ∧ 1000 ≤ f.header.length ∧ f.header.length ≤ 60000 ∧
      f.header.succ0 ≠ 65535 ∧ f.header.succ1 ≠ 65535 ∧
      ¬ (f.header.succ1 ≠ 0 ∧ f.header.succ0 = 0) := by
  simp only [segmentContentOk, Bool.and_eq_true, decide_eq_true_eq, Bool.not_eq_true',
    Bool.eq_false_iff, ne_eq, and_assoc]

theorem segmentChecks_iff (total : Nat) (n length s0 s1 mask gains : Word) (points : List Word) :
    (segmentStructureOk total (fieldsOf n length s0 s1 mask gains points) &&
      segmentContentOk (fieldsOf n length s0 s1 mask gains points)) = true ↔
    ¬ SegmentUnfit total n length s0 s1 mask := by
  rw [Bool.and_eq_true, segmentStructureOk_iff, segmentContentOk_iff]
  simp only [fieldsOf, SegmentUnfit, not_or, Nat.not_le, Nat.not_lt, ne_eq, not_not, and_assoc]

/-- A frame that fits names at most four sub-blocks, and has four words for each (R58). -/
theorem namedCount_of_fits {total : Nat} {n length s0 s1 mask : Word}
    (fits : ¬ SegmentUnfit total n length s0 s1 mask) :
    namedCount mask ≤ 4 ∧ total = 6 + 4 * namedCount mask := by
  simp only [SegmentUnfit, not_or, not_lt, ne_eq, not_not] at fits
  obtain ⟨-, few, total, -⟩ := fits
  exact ⟨few, total⟩

/-- A payload is shorter than 6 words, or has the six words of R57. -/
theorem segmentPayload_cases (payload : List Word) : payload.length < 6 ∨
    ∃ n length s0 s1 mask gains points,
      payload = n :: length :: s0 :: s1 :: mask :: gains :: points := by
  match payload with
  | n :: length :: s0 :: s1 :: mask :: gains :: points =>
    exact .inr ⟨n, length, s0, s1, mask, gains, points, rfl⟩
  | [] | [_] | [_, _] | [_, _, _] | [_, _, _, _] | [_, _, _, _, _] => exact .inl (by simp)

theorem segmentFill_short {payload : List Word} (short : payload.length < 6) :
    segmentFill payload = none := by
  match payload with
  | [] | [_] | [_, _] | [_, _, _] | [_, _, _, _] | [_, _, _, _, _] => rfl
  | _ :: _ :: _ :: _ :: _ :: _ :: _ => simp at short; omega

/-- What an accepted SEGMENT frame carries (R57, R60). -/
def fillOf (n length s0 s1 mask gains : Word) (points : List Word) : SegmentFill :=
  { segment := n.toNat, header := { length := length.toNat, succ0 := s0.toNat, succ1 := s1.toNat },
    mask := mask.extractLsb' 0 8,
    carried := carriedBlocks gains (maskedBlocks mask) (points.map BitVec.toInt),
    clamped := (points.map BitVec.toInt).any fun p => decide (clampPoint p ≠ p) }

section
variable {n length s0 s1 mask gains : Word} {points : List Word}

theorem segmentFill_unfit
    (unfit : SegmentUnfit (points.length + 6) n length s0 s1 mask) :
    segmentFill (n :: length :: s0 :: s1 :: mask :: gains :: points) = none :=
  if_neg fun ok => (segmentChecks_iff _ n length s0 s1 mask gains points).mp ok unfit

theorem segmentFill_fits (fits : ¬ SegmentUnfit (points.length + 6) n length s0 s1 mask) :
    segmentFill (n :: length :: s0 :: s1 :: mask :: gains :: points) =
      some (fillOf n length s0 s1 mask gains points) :=
  if_pos ((segmentChecks_iff _ n length s0 s1 mask gains points).mpr fits)

end

/-- SEGMENT at a part that is no repeater is its frame handled (R58 to R64, R80). -/
theorem exec_segment {s : State} (works : forwardOnly s = false) (d : Delivery) :
    exec (.segment d) s = .next (handleSegment s d.payload) := by
  have path : exec (.segment d) s =
      .next (if forwardOnly s then s else handleSegment s d.payload) := rfl
  simp [path, works]

theorem handleSegment_rejected {s : State} {payload : List Word}
    (h : segmentFill payload = none) : handleSegment s payload = s.setFlag .rxReject := by
  simp only [handleSegment, h]

/-- Settles O35: the checks are R58's and R59's, and the words number 6 and 4 for each sub-block named. -/
theorem segmentDiscarded : Obligations.SegmentDiscarded := by
  intro d s works unfit
  rw [exec_segment works]
  refine ⟨fun bad => ?_, fun good => ?_⟩
  · refine congrArg _ (handleSegment_rejected ?_)
    rcases bad with short | ⟨n, length, s0, s1, mask, gains, points, payload, fails⟩
    · exact segmentFill_short short
    · rw [payload] at fails ⊢
      exact segmentFill_unfit fails
  · obtain short | ⟨n, length, s0, s1, mask, gains, points, payload⟩ := segmentPayload_cases d.payload
    · exact absurd (.inl short) good
    · have fits : ¬ SegmentUnfit d.payload.length n length s0 s1 mask := fun fails =>
        good (.inr ⟨n, length, s0, s1, mask, gains, points, payload, fails⟩)
      obtain ⟨few, total⟩ := namedCount_of_fits fits
      refine ⟨by omega, by omega, ?_⟩
      rw [payload] at fits ⊢
      rw [segmentFill_fits fits]
      exact Option.some_ne_none _

end Sys2Proof.Proofs

/-! SUPPORT. An accepted SEGMENT frame (R57, R60 to R64): the sub-blocks that it carries, the way that it takes, and
what it leaves in that way and in the outstanding table. -/

namespace Sys2Proof.Proofs

open Sys2Proof.Machine

/-! ## The sub-blocks carried (R57, R60) -/

theorem clampPoint_eq (p : Int) : clampPoint p = max (-8000) (min 8000 p) := by
  rw [clampPoint, limitInt_eq p (by decide), min_comm p]
  rfl

theorem clampPoint_ne_iff (p : Int) : clampPoint p ≠ p ↔ p < -8000 ∨ 8000 < p := by
  rw [clampPoint_eq]
  omega

theorem gainClassOf_eq (w : Word) (k : Nat) : gainClassOf w k = w.toNat / 4 ^ k % 4 := by
  rw [gainClassOf, field, pow_mul]
  rfl

/-- With four points for each, the sub-blocks carried are those named, in their order. -/
theorem carriedBlocks_keys (gains : Word) {ks : List (Fin 8)} {points : List Int}
    (enough : points.length = 4 * ks.length) : (carriedBlocks gains ks points).map Prod.fst = ks := by
  induction ks generalizing points with
  | nil => cases points <;> rfl
  | cons k ks ih =>
    match points, enough with
    | p0 :: p1 :: p2 :: p3 :: rest, enough =>
      have fewer : rest.length = 4 * ks.length := by
        simp only [List.length_cons] at enough
        omega
      exact congrArg (k :: ·) (ih fewer)
    | [], enough | [_], enough | [_, _], enough | [_, _, _], enough =>
      simp only [List.length_cons, List.length_nil] at enough
      omega

/-- The sub-block named behind `before` others takes its gain class and the four points behind theirs. -/
theorem carriedBlocks_at (gains : Word) (before after : List (Fin 8)) (k : Fin 8) {points : List Int}
    (enough : 4 * before.length + 4 ≤ points.length) :
    ∃ b : SubBlock, (k, b) ∈ carriedBlocks gains (before ++ k :: after) points ∧
      b.gainClass = gainClassOf gains k.val ∧
      ∀ j : Fin 4, ∃ p, points[4 * before.length + j.val]? = some p ∧ b.points[j] = clampPoint p := by
  induction before generalizing points with
  | nil =>
    match points, enough with
    | p0 :: p1 :: p2 :: p3 :: rest, _ =>
      refine ⟨_, List.mem_cons_self, rfl, fun j => ?_⟩
      match j with
      | 0 => exact ⟨p0, rfl, rfl⟩
      | 1 => exact ⟨p1, rfl, rfl⟩
      | 2 => exact ⟨p2, rfl, rfl⟩
      | 3 => exact ⟨p3, rfl, rfl⟩
  | cons x before ih =>
    match points, enough with
    | p0 :: p1 :: p2 :: p3 :: rest, enough =>
      have fewer : 4 * before.length + 4 ≤ rest.length := by
        simp only [List.length_cons] at enough
        omega
      obtain ⟨b, carried, gain, taken⟩ := ih fewer
      refine ⟨b, List.mem_cons_of_mem _ carried, gain, fun j => ?_⟩
      obtain ⟨p, at_, clamped⟩ := taken j
      refine ⟨p, ?_, clamped⟩
      have shift : 4 * (x :: before).length + j.val = 4 * before.length + j.val + 4 := by
        simp only [List.length_cons]
        omega
      rw [shift]
      exact at_

/-- The words of an accepted frame, and what it carries. -/
theorem segmentFill_some {payload : List Word} {f : SegmentFill} (h : segmentFill payload = some f) :
    ∃ n length s0 s1 mask gains points,
      payload = n :: length :: s0 :: s1 :: mask :: gains :: points ∧
      points.length = 4 * (maskedBlocks mask).length ∧
      f = fillOf n length s0 s1 mask gains points := by
  obtain short | ⟨n, length, s0, s1, mask, gains, points, rfl⟩ := segmentPayload_cases payload
  · rw [segmentFill_short short] at h
    cases h
  · have fits : ¬ SegmentUnfit (points.length + 6) n length s0 s1 mask := fun unfit => by
      rw [segmentFill_unfit unfit] at h
      cases h
    obtain ⟨-, total⟩ := namedCount_of_fits fits
    rw [segmentFill_fits fits] at h
    refine ⟨n, length, s0, s1, mask, gains, points, rfl, ?_, (Option.some.inj h).symm⟩
    rw [maskedBlocks_length]
    omega

/-- No sub-block is carried twice. -/
theorem segmentFill_nodup {payload : List Word} {f : SegmentFill} (h : segmentFill payload = some f) :
    (f.carried.map Prod.fst).Nodup := by
  obtain ⟨n, length, s0, s1, mask, gains, points, -, enough, rfl⟩ := segmentFill_some h
  have keys : ((fillOf n length s0 s1 mask gains points).carried.map Prod.fst) = maskedBlocks mask :=
    carriedBlocks_keys gains (by rw [List.length_map, enough])
  rw [keys]
  exact maskedBlocks_nodup mask

section
variable (n length s0 s1 mask gains : Word) {points : List Word}

theorem fillOf_mask (k : Fin 8) :
    (fillOf n length s0 s1 mask gains points).mask.getLsbD k.val = mask.getLsbD k.val := by
  simp [fillOf]

theorem fillOf_clamped_iff : (fillOf n length s0 s1 mask gains points).clamped = true ↔
    ∃ w ∈ points, w.toInt < -8000 ∨ 8000 < w.toInt := by
  simp [fillOf, clampPoint_ne_iff]

theorem fillOf_carried_named (enough : points.length = 4 * (maskedBlocks mask).length) :
    ∀ kb ∈ (fillOf n length s0 s1 mask gains points).carried, mask.getLsbD kb.1.val = true := by
  intro kb carried
  have keys : (fillOf n length s0 s1 mask gains points).carried.map Prod.fst = maskedBlocks mask :=
    carriedBlocks_keys gains (by rw [List.length_map, enough])
  exact mem_maskedBlocks.mp (keys ▸ List.mem_map_of_mem carried)

/-- Each sub-block named is carried with its gain class and its four points, within ±8000 (R57, R60). -/
theorem fillOf_carries (enough : points.length = 4 * (maskedBlocks mask).length) {k : Fin 8}
    (named : mask.getLsbD k.val = true) :
    ∃ b : SubBlock, (k, b) ∈ (fillOf n length s0 s1 mask gains points).carried ∧
      b.gainClass = gains.toNat / 4 ^ k.val % 4 ∧
      ∀ j : Fin 4, ∃ w,
        points[4 * ((List.range k.val).filter fun i => mask.getLsbD i).length + j.val]? = some w ∧
        b.points[j] = max (-8000) (min 8000 w.toInt) := by
  obtain ⟨before, after, names, count⟩ := maskedBlocks_split named
  have room : 4 * before.length + 4 ≤ (points.map BitVec.toInt).length := by
    simp only [List.length_map, enough, names, List.length_append, List.length_cons]
    omega
  obtain ⟨b, carried, gain, taken⟩ := carriedBlocks_at gains before after k room
  rw [← names] at carried
  refine ⟨b, carried, gain.trans (gainClassOf_eq gains k), fun j => ?_⟩
  obtain ⟨p, at_, clamped⟩ := taken j
  rw [List.getElem?_map, Option.map_eq_some_iff, count] at at_
  obtain ⟨w, word, rfl⟩ := at_
  exact ⟨w, word, clamped.trans (clampPoint_eq _)⟩

end

/-! ## Sub-blocks written over those held (R61) -/

theorem writeBlocks_not_carried {held : Vector (Option SubBlock) 8} {carried : List (Fin 8 × SubBlock)}
    {k : Fin 8} (absent : ∀ kb ∈ carried, kb.1 ≠ k) : (writeBlocks held carried)[k] = held[k] := by
  unfold writeBlocks
  induction carried generalizing held with
  | nil => rfl
  | cons x rest ih =>
    have apart : x.1.val ≠ k.val := fun same => absent x List.mem_cons_self (Fin.ext same)
    exact (ih fun kb h => absent kb (List.mem_cons_of_mem _ h)).trans (by simp [apart])

theorem writeBlocks_carried {held : Vector (Option SubBlock) 8} {carried : List (Fin 8 × SubBlock)}
    (once : (carried.map Prod.fst).Nodup) :
    ∀ kb ∈ carried, (writeBlocks held carried)[kb.1] = some kb.2 := by
  induction carried generalizing held with
  | nil => exact fun kb h => nomatch h
  | cons x rest ih =>
    obtain ⟨first, others⟩ := List.nodup_cons.mp once
    intro kb h
    rcases List.mem_cons.mp h with rfl | later
    · have kept : (writeBlocks (held.set kb.1.val (some kb.2)) rest)[kb.1] =
          (held.set kb.1.val (some kb.2))[kb.1] :=
        writeBlocks_not_carried fun y hy same => first (same ▸ List.mem_map_of_mem hy)
      exact kept.trans (by simp)
    · exact ih others kb later

/-! ## What a fill leaves (R61 to R64) -/

/-- A frame placed in way `w` of its set, its sub-blocks written over `kept`: the content, the other way, the LRU
indicator, the outstanding table. -/
def Placed (s t : State) (f : SegmentFill) (w : Fin 2) (kept : Vector (Option SubBlock) 8) : Prop :=
  (∃ c, t.sgc.sets[setIndex f.segment].ways[w] = some { tag := f.segment / 64, content := some c } ∧
    contentOf t f.segment = some c ∧ c.header = f.header ∧
    (∀ kb ∈ f.carried, c.blocks[kb.1] = some kb.2) ∧
    ∀ k : Fin 8, (∀ kb ∈ f.carried, kb.1 ≠ k) → c.blocks[k] = kept[k]) ∧
  t.sgc.sets[setIndex f.segment].ways[1 - w] = s.sgc.sets[setIndex f.segment].ways[1 - w] ∧
  t.sgc.sets[setIndex f.segment].lru = 1 - w ∧
  ∀ e, e ∈ t.sgc.outstanding ↔
    (e ∈ s.sgc.outstanding ∧ e.segment ≠ f.segment) ∨
    ∃ old ∈ s.sgc.outstanding, old.segment = f.segment ∧ old.blocks &&& ~~~f.mask ≠ 0 ∧
      e = { old with header := false, blocks := old.blocks &&& ~~~f.mask }

/-- What a placement leaves is said of the Segment Cache alone. -/
theorem Placed.of_sgc {s t t' : State} {f : SegmentFill} {w : Fin 2}
    {kept : Vector (Option SubBlock) 8} (h : Placed s t f w kept) (same : t'.sgc = t.sgc) :
    Placed s t' f w kept := by
  have content : contentOf t' f.segment = contentOf t f.segment :=
    contentOf_congr (fun i => by rw [same]) _
  unfold Placed at h ⊢
  rwa [same, content]

/-- The outstanding table after a fill (R64). -/
theorem mem_deliverItems (s : State) (n : Nat) (mask : BitVec 8) (e : FetchEntry) :
    e ∈ (deliverItems s n mask).sgc.outstanding ↔
      (e ∈ s.sgc.outstanding ∧ e.segment ≠ n) ∨
      ∃ old ∈ s.sgc.outstanding, old.segment = n ∧ old.blocks &&& ~~~mask ≠ 0 ∧
        e = { old with header := false, blocks := old.blocks &&& ~~~mask } := by
  simp only [deliverItems, State.setSgc_sgc, List.mem_filter, List.mem_map]
  constructor
  · rintro ⟨⟨old, hold, rfl⟩, wants⟩
    by_cases own : old.segment = n
    · rw [if_pos own] at wants ⊢
      refine .inr ⟨old, hold, own, ?_, rfl⟩
      simpa [FetchEntry.delivered, own] using wants
    · rw [if_neg own]
      exact .inl ⟨hold, own⟩
  · rintro (⟨hold, other⟩ | ⟨old, hold, own, wants, rfl⟩)
    · exact ⟨⟨e, hold, if_neg other⟩, by simp [other]⟩
    · refine ⟨⟨old, hold, if_pos own⟩, ?_⟩
      simpa [own] using wants

/-- The set in which a line is written: its two ways and its LRU indicator (R56). -/
theorem writeLine_set (s : State) (i : Fin 64) (w : Fin 2) (l : Line) :
    (writeLine s i w l).sgc.sets[i].ways[w] = some l ∧
    (writeLine s i w l).sgc.sets[i].ways[1 - w] = s.sgc.sets[i].ways[1 - w] ∧
    (writeLine s i w l).sgc.sets[i].lru = 1 - w := by
  have apart : w.val ≠ (1 - w).val := by
    revert w
    decide
  rw [writeLine, setCacheSet_same]
  refine ⟨by simp [CacheSet.touch], ?_, otherWay_eq w⟩
  exact Vector.getElem_set_ne w.isLt (1 - w).isLt apart

/-- Sets, in-use set and held needs after a line is written and the outstanding entry brought up to date. -/
theorem fill_frame (s : State) (i : Fin 64) (w : Fin 2) (l : Line) (n : Nat) (mask : BitVec 8) :
    (deliverItems (writeLine s i w l) n mask).sgc.inUse = s.sgc.inUse ∧
    (deliverItems (writeLine s i w l) n mask).sgc.held = s.sgc.held ∧
    ∀ k : Fin 64, k ≠ i →
      (deliverItems (writeLine s i w l) n mask).sgc.sets[k] = s.sgc.sets[k] :=
  ⟨rfl, rfl, fun _ other => by rw [deliverItems_sets]; exact setCacheSet_other s _ other⟩

/-- The frame's line written into a way before which none holds the segment (R61 to R64). -/
theorem fill_placed {s : State} {f : SegmentFill} {w : Fin 2} {c : Content}
    {kept : Vector (Option SubBlock) 8} (once : (f.carried.map Prod.fst).Nodup)
    (first : ∀ v : Fin 2, v < w → ¬ HeldIn s f.segment v)
    (header : c.header = f.header) (blocks : c.blocks = writeBlocks kept f.carried) :
    Placed s (deliverItems
      (writeLine s (setIndex f.segment) w { tag := tagOf f.segment, content := some c })
      f.segment f.mask) f w kept := by
  obtain ⟨here, other, lru⟩ := writeLine_set s (setIndex f.segment) w
    { tag := tagOf f.segment, content := some c }
  rw [← deliverItems_sets _ f.segment f.mask] at here other lru
  have firstThen : ∀ v : Fin 2, v < w → ¬ HeldIn (deliverItems
      (writeLine s (setIndex f.segment) w { tag := tagOf f.segment, content := some c })
      f.segment f.mask) f.segment v := fun v before => by
    have : v = 1 - w := by omega
    subst this
    rw [HeldIn, other]
    exact first _ before
  refine ⟨⟨c, here, contentOf_of_first here rfl firstThen, header, ?_, ?_⟩, other, lru,
    fun e => mem_deliverItems _ _ _ e⟩
  · rw [blocks]
    exact writeBlocks_carried once
  · rw [blocks]
    exact fun k absent => writeBlocks_not_carried absent

/-! ## The content of a fill (R61, R62) -/

/-- The sub-blocks that stand under a fill: those held, when the header held is the frame's. -/
def keptBlocks (held : Option Content) (f : SegmentFill) : Vector (Option SubBlock) 8 :=
  match held with
  | some c => if c.header = f.header then c.blocks else noBlocks
  | none => noBlocks

theorem keptBlocks_same {c : Content} {f : SegmentFill} (same : c.header = f.header) :
    keptBlocks (some c) f = c.blocks := if_pos same

theorem keptBlocks_differs {c : Content} {f : SegmentFill} (differs : c.header ≠ f.header) :
    keptBlocks (some c) f = noBlocks := if_neg differs

theorem filledContent_parts (held : Option Content) (f : SegmentFill) :
    (filledContent held f).header = f.header ∧
    (filledContent held f).blocks = writeBlocks (keptBlocks held f) f.carried := by
  cases held with
  | none => exact ⟨rfl, rfl⟩
  | some c =>
    by_cases same : c.header = f.header
    · simp [filledContent, keptBlocks, same]
    · simp [filledContent, keptBlocks, same]

/-! ## The way of a fill (R61 to R63) -/

theorem placeFill_present {s : State} {f : SegmentFill} {w : Fin 2} {l : Line}
    (here : s.sgc.sets[setIndex f.segment].ways[w] = some l) (tag : l.tag = f.segment / 64)
    (first : ∀ v : Fin 2, v < w → ¬ HeldIn s f.segment v) :
    placeFill s f = fillPresent s (setIndex f.segment) w l.content f := by
  have found : findWay s.sgc.sets[setIndex f.segment] (tagOf f.segment) = some w :=
    findWay_of_heldIn ⟨l, here, tag⟩ first
  simp only [placeFill, found, contentOf_of_first here tag first]

theorem placeFill_absent {s : State} {f : SegmentFill} (absent : ∀ w, ¬ HeldIn s f.segment w) :
    placeFill s f = fillAbsent s (setIndex f.segment) f := by
  have missing : findWay s.sgc.sets[setIndex f.segment] (tagOf f.segment) = none :=
    findWay_of_not_heldIn absent
  simp only [placeFill, missing]

theorem fillAbsent_victim {s : State} {i : Fin 64} {w : Fin 2} (f : SegmentFill)
    (victim : victimWay s i = some w) : fillAbsent s i f = deliverItems
      (writeLine s i w { tag := tagOf f.segment, content := some (filledContent none f) })
      f.segment f.mask := by
  simp only [fillAbsent, victim]

theorem fillAbsent_conflict {s : State} {i : Fin 64} (f : SegmentFill)
    (victim : victimWay s i = none) : fillAbsent s i f = s.setFlag .setConflict := by
  simp only [fillAbsent, victim]

theorem wayInUse_iff (s : State) (i : Fin 64) (w : Fin 2) : wayInUse s i w = true ↔
    ∃ l, s.sgc.sets[i].ways[w] = some l ∧ l.tag * 64 + i.val ∈ s.sgc.inUse := by
  unfold wayInUse
  cases s.sgc.sets[i].ways[w] <;> simp [lineSegment]

section
variable {s : State} {i : Fin 64}

theorem victimWay_zero (free : s.sgc.sets[i].ways[(0 : Fin 2)] = none) : victimWay s i = some 0 := by
  simp only [victimWay, free, Option.isNone_none, if_true]

theorem victimWay_one (zero : s.sgc.sets[i].ways[(0 : Fin 2)] ≠ none)
    (free : s.sgc.sets[i].ways[(1 : Fin 2)] = none) : victimWay s i = some 1 := by
  simp only [victimWay, Option.isNone_iff_eq_none, if_neg zero, if_pos free]

section
variable (zero : s.sgc.sets[i].ways[(0 : Fin 2)] ≠ none) (one : s.sgc.sets[i].ways[(1 : Fin 2)] ≠ none)
include zero one

/-- With both ways allocated the choice is by the LRU indicator (R63). -/
theorem victimWay_allocated : victimWay s i =
    if !wayInUse s i s.sgc.sets[i].lru then some s.sgc.sets[i].lru
    else if !wayInUse s i (1 - s.sgc.sets[i].lru) then some (1 - s.sgc.sets[i].lru)
    else none := by
  simp only [victimWay, Option.isNone_iff_eq_none, if_neg zero, if_neg one, otherWay_eq]

theorem victimWay_lru (unused : wayInUse s i s.sgc.sets[i].lru ≠ true) :
    victimWay s i = some s.sgc.sets[i].lru := by
  rw [victimWay_allocated zero one, if_pos (by simpa using unused)]

theorem victimWay_other (busy : wayInUse s i s.sgc.sets[i].lru = true)
    (unused : wayInUse s i (1 - s.sgc.sets[i].lru) ≠ true) :
    victimWay s i = some (1 - s.sgc.sets[i].lru) := by
  rw [victimWay_allocated zero one, if_neg (by simpa using busy), if_pos (by simpa using unused)]

theorem victimWay_none (busy : wayInUse s i s.sgc.sets[i].lru = true)
    (both : wayInUse s i (1 - s.sgc.sets[i].lru) = true) : victimWay s i = none := by
  rw [victimWay_allocated zero one, if_neg (by simpa using busy), if_neg (by simpa using both)]

end

end

/-! ## The frame of a fill -/

theorem fillPresent_sgc (s : State) (i : Fin 64) (w : Fin 2) (held : Option Content) (f : SegmentFill) :
    (fillPresent s i w held f).sgc = (deliverItems
      (writeLine s i w { tag := tagOf f.segment, content := some (filledContent held f) })
      f.segment f.mask).sgc := by
  simp [fillPresent, deliverItems]

/-- A frame is filled into its segment's way, or as one of an absent segment. -/
theorem placeFill_cases (s : State) (f : SegmentFill) :
    (∃ w held, placeFill s f = fillPresent s (setIndex f.segment) w held f) ∨
    placeFill s f = fillAbsent s (setIndex f.segment) f := by
  simp only [placeFill]
  split
  · exact .inl ⟨_, _, rfl⟩
  · exact .inr rfl

/-- A fill leaves the in-use set, the held needs and every other set (R63). -/
theorem placeFill_frame (s : State) (f : SegmentFill) :
    (placeFill s f).sgc.inUse = s.sgc.inUse ∧ (placeFill s f).sgc.held = s.sgc.held ∧
    ∀ k : Fin 64, k ≠ setIndex f.segment → (placeFill s f).sgc.sets[k] = s.sgc.sets[k] := by
  obtain ⟨w, held, present⟩ | absent := placeFill_cases s f
  · rw [present, fillPresent_sgc]
    exact fill_frame s _ _ _ _ _
  · rw [absent]
    cases victim : victimWay s (setIndex f.segment) with
    | none => simp [fillAbsent_conflict f victim]
    | some w =>
      rw [fillAbsent_victim f victim]
      exact fill_frame s _ _ _ _ _

theorem flag_fillPresent (s : State) (i : Fin 64) (w : Fin 2) (held : Option Content) (f : SegmentFill)
    (g : Flag) : (fillPresent s i w held f).flag g =
      (s.flag g || (headerDiffers held f && decide (Flag.headerChanged = g))) := by
  have delivered (u : State) : (deliverItems u f.segment f.mask).flag g = u.flag g := rfl
  rw [fillPresent, delivered, State.flag_setFlagIf]
  rfl

theorem flag_fillAbsent (s : State) (i : Fin 64) (f : SegmentFill) (g : Flag) :
    (fillAbsent s i f).flag g =
      (s.flag g || ((victimWay s i).isNone && decide (Flag.setConflict = g))) := by
  cases victim : victimWay s i with
  | none => simp [fillAbsent_conflict f victim]
  | some w =>
    rw [fillAbsent_victim f victim]
    exact (Bool.or_false _).symm

/-- A fill clears no flag (R174). -/
theorem flag_placeFill_mono {s : State} {g : Flag} (f : SegmentFill) (set_ : s.flag g = true) :
    (placeFill s f).flag g = true := by
  obtain ⟨w, held, present⟩ | absent := placeFill_cases s f
  · simp [present, flag_fillPresent, set_]
  · simp [absent, flag_fillAbsent, set_]

/-! ## The frame placed -/

section
variable {s : State} {f : SegmentFill} (once : (f.carried.map Prod.fst).Nodup)
include once

/-- A present segment is filled in its way (R61, R62). -/
theorem placeFill_present_placed {w : Fin 2} {l : Line}
    (here : s.sgc.sets[setIndex f.segment].ways[w] = some l) (tag : l.tag = f.segment / 64)
    (first : ∀ v : Fin 2, v < w → ¬ HeldIn s f.segment v) :
    Placed s (placeFill s f) f w (keptBlocks l.content f) := by
  obtain ⟨header, blocks⟩ := filledContent_parts l.content f
  rw [placeFill_present here tag first]
  exact (fill_placed once first header blocks).of_sgc (fillPresent_sgc s _ w l.content f)

/-- An absent segment takes the victim's way (R63). -/
theorem placeFill_victim_placed {w : Fin 2} (absent : ∀ w, ¬ HeldIn s f.segment w)
    (victim : victimWay s (setIndex f.segment) = some w) :
    Placed s (placeFill s f) f w noBlocks := by
  obtain ⟨header, blocks⟩ := filledContent_parts none f
  rw [placeFill_absent absent, fillAbsent_victim f victim]
  exact fill_placed once (fun v _ => absent v) header blocks

end

theorem handleSegment_accepted {s : State} {payload : List Word} {f : SegmentFill}
    (h : segmentFill payload = some f) :
    handleSegment s payload = placeFill (s.setFlagIf f.clamped .valueClamp) f := by
  simp only [handleSegment, h]

/-- Settles O36: the words give what is carried; the way is the segment's own, or the victim's. -/
theorem segmentFilled : Obligations.SegmentFilled := by
  intro d f s works accepted
  have once := segmentFill_nodup accepted
  refine ⟨?words, placeFill (s.setFlagIf f.clamped .valueClamp) f, ?run, ?clamped,
    by simp, by simp, by simp, by simp, by simp, by simp, by simp, by simp, ?inUse, ?held, ?places⟩
  case words =>
    intro n length s0 s1 mask gains points words
    obtain ⟨_, _, _, _, _, _, _, same, enough, rfl⟩ := segmentFill_some accepted
    rw [words] at same
    cases same
    exact ⟨rfl, rfl, fillOf_mask n length s0 s1 mask gains,
      fillOf_carried_named n length s0 s1 mask gains enough,
      fillOf_clamped_iff n length s0 s1 mask gains,
      fun k named => fillOf_carries n length s0 s1 mask gains enough named⟩
  case run => rw [exec_segment works, handleSegment_accepted accepted]
  case clamped => exact fun clamped => flag_placeFill_mono f (by simp [clamped])
  all_goals
    generalize marked : s.setFlagIf f.clamped .valueClamp = u
    have cache : s.sgc = u.sgc := by simp [← marked]
    have changed : s.flag .headerChanged = u.flag .headerChanged := by simp [← marked]
    obtain ⟨inUse, held, others⟩ := placeFill_frame u f
    rw [cache]
  case inUse => exact inUse
  case held => exact held
  case places =>
    rw [changed]
    intro i other holds used placed empty
    refine ⟨others, fun w l here tag first => ?present, fun absent => ?absent⟩
    case present =>
      have filled := placeFill_present_placed once here tag first
      have flag : (placeFill u f).flag .headerChanged =
          (u.flag .headerChanged || headerDiffers l.content f) := by
        rw [placeFill_present here tag first, flag_fillPresent]
        simp
      refine ⟨fun none_ => ?_, fun c some_ same => ?_, fun c some_ differs => ?_⟩
      · rw [none_] at filled flag
        exact ⟨filled, by simpa [headerDiffers] using flag⟩
      · rw [some_, keptBlocks_same same] at filled
        rw [some_] at flag
        exact ⟨filled, by simpa [headerDiffers, same] using flag⟩
      · rw [some_, keptBlocks_differs differs] at filled
        rw [some_] at flag
        exact ⟨filled, by simpa [headerDiffers, differs] using flag⟩
    case absent =>
      have takes {w : Fin 2} (victim : victimWay u i = some w) : placed w empty :=
        placeFill_victim_placed once absent victim
      intro now
      refine ⟨by simp [placeFill_absent absent, flag_fillAbsent], fun free => takes (victimWay_zero free),
        fun zero free => takes (victimWay_one zero free), fun zero one => ?_⟩
      have inUse_iff (w : Fin 2) : wayInUse u i w = true ↔ used w := wayInUse_iff u i w
      refine ⟨fun unused => takes (victimWay_lru zero one (mt (inUse_iff _).mp unused)),
        fun busy unused => takes (victimWay_other zero one ((inUse_iff _).mpr busy)
          (mt (inUse_iff _).mp unused)), fun busy both => ?_⟩
      have conflict : victimWay u (setIndex f.segment) = none :=
        victimWay_none zero one ((inUse_iff _).mpr busy) ((inUse_iff _).mpr both)
      rw [placeFill_absent absent, fillAbsent_conflict f conflict]
      simp

end Sys2Proof.Proofs

/-! SUPPORT. The determination of a bogie (R84, R87): which of its ways it goes, what each way writes, and what
the hand-off and the end of the unit's work add. -/

namespace Sys2Proof.Proofs

open Sys2Proof.Machine

theorem exec_bogieDetermination (s : State) : exec .bogieDetermination s =
    .next (match s.slu.next with
      | some b => determineNext s b
      | none => s) := rfl

theorem exec_bogieDetermination_due {s : State} {b : BogieId} (due : s.slu.next = some b) :
    exec .bogieDetermination s = .next (determineNext s b) := by
  rw [exec_bogieDetermination, due]

/-! ## The ways of a determination (R87) -/

theorem leadOf_ne_trailOf (b c : BogieId) : leadOf b ≠ trailOf c := by
  simp only [leadOf, trailOf, ne_eq, Fin.mk.injEq]
  omega

section
variable {s : State} {b : BogieId}

theorem determine_off (off : s.tables.bogie[b].enabled = false ∨ s.sdu.part ≠ .active) :
    determine s b = storeBogieState (zeroChannel (zeroChannel s (leadOf b)) (trailOf b)) b .off := by
  rcases off with disabled | part <;> simp_all [determine]

variable (enabled : s.tables.bogie[b].enabled = true) (active : s.sdu.part = .active)
include enabled active

theorem determine_excluded (excluded : bogieExcluded s b = true) :
    determine s b =
      storeBogieState (emptyRecord (emptyRecord s (leadOf b)) (trailOf b)) b .excluded := by
  simp only [determine, enabled, active, excluded]
  rfl

variable (admitted : bogieExcluded s b = false)
include admitted

theorem determine_frozen (still : s.opu.report.standstill = true) :
    determine s b = storeBogieState
      (keepChannel (keepChannel s (leadOf b) ChannelRecord.emptied) (trailOf b) ChannelRecord.emptied)
      b .frozen := by
  simp only [determine, enabled, active, admitted, still]
  rfl

variable (moving : s.opu.report.standstill = false)
include moving

theorem determine_passive (unplaced : s.opu.report.position = none ∨
      s.opu.report.axle[leadOf b] = none ∨ s.opu.report.axle[trailOf b] = none) :
    determine s b =
      storeBogieState (zeroChannel (zeroChannel s (leadOf b)) (trailOf b)) b .passive := by
  simp only [determine, enabled, active, admitted, moving, Bool.not_true, ne_eq, not_true_eq_false,
    decide_false, Bool.or_self, Bool.false_eq_true, if_false]
  split
  · next located lead trail => simp [located, lead, trail] at unplaced
  · rfl

end

/-- The leading channel of a bogie computed. -/
def leadComputed (s : State) (b : BogieId) (lead : RoutePoint) : State × Bool :=
  computeChannel s (leadOf b) s.tables.bogie[b].semi lead

/-- Both channels of a bogie computed, the leading one first (R87). -/
def bothComputed (s : State) (b : BogieId) (lead trail : RoutePoint) : State × Bool :=
  computeChannel (leadComputed s b lead).1 (trailOf b) s.tables.bogie[b].semi trail

theorem determine_computed {s : State} {b : BogieId} {lead trail : RoutePoint}
    (enabled : s.tables.bogie[b].enabled = true) (active : s.sdu.part = .active)
    (admitted : bogieExcluded s b = false) (moving : s.opu.report.standstill = false)
    (located : s.opu.report.position ≠ none) (leadAt : s.opu.report.axle[leadOf b] = some lead)
    (trailAt : s.opu.report.axle[trailOf b] = some trail) :
    determine s b = storeBogieState (bothComputed s b lead trail).1 b
      (if (leadComputed s b lead).2 || (bothComputed s b lead trail).2 then .degraded
       else .tracking) := by
  obtain ⟨p, at_⟩ := Option.ne_none_iff_exists'.mp located
  simp only [determine, enabled, active, admitted, moving, at_, leadAt, trailAt]
  rfl

/-! ## The hand-off (R84, R145) -/

theorem handOn_enabled {s : State} {b : BogieId} (enabled : s.tables.bogie[b].enabled = true)
    (running : s.sdu.part ≠ .config) : handOn s b =
      (s.setOsu { s.osu with results := s.osu.results ++ [resultOf s b] }).setCsu
        { s.csu with awaiting := s.csu.awaiting.set b.val true } :=
  if_pos ⟨enabled, running⟩

theorem handOn_to_nobody {s : State} {b : BogieId}
    (nobody : s.tables.bogie[b].enabled = false ∨ s.sdu.part = .config) : handOn s b = s :=
  if_neg fun ⟨enabled, running⟩ => by rcases nobody with h | h <;> simp_all

/-- The unit's work ended and its end report in, before a close that may be due (R84, R85). -/
def workEnded (s : State) : State :=
  (makeHeldNeeds (s.setSlu { s.slu with next := none })).setCsu { s.csu with endReport := true }

theorem endWork_eq (s : State) : endWork s = closeIfDue (workEnded s) := by
  simp [endWork, workEnded]

theorem workEnded_held (s : State) : (workEnded s).sgc.held = [] := by
  simp [workEnded, makeHeldNeeds]

theorem closeDue_iff (s : State) : closeDue s = true ↔
    s.csu.running = true ∧ s.csu.endReport = true ∧ ∀ b : BogieId, s.csu.awaiting[b] = false := by
  simp [closeDue, Fin.forall_iff, and_assoc]

/-- A bogie that awaits its offer keeps the cycle open (R146). -/
theorem endWork_awaited {s : State} {b : BogieId} (awaited : s.csu.awaiting[b] = true) :
    endWork s = workEnded s := by
  have open_ : ¬ closeDue (workEnded s) = true := fun due => by
    have offered := ((closeDue_iff _).mp due).2.2 b
    simp_all [workEnded]
  rw [endWork_eq, closeIfDue, if_neg open_]

theorem determineNext_before {s : State} {b : BogieId} (h : b.val + 1 < 4) :
    determineNext s b = (handOn (determine s b) b).setSlu
      { (handOn (determine s b) b).slu with next := some ⟨b.val + 1, h⟩ } :=
  dif_pos h

theorem determineNext_last (s : State) :
    determineNext s 3 = endWork (handOn (determine s 3) 3) := rfl

theorem determineNext_last_enabled {s : State} (enabled : s.tables.bogie[(3 : Fin 4)].enabled = true)
    (running : s.sdu.part ≠ .config) :
    determineNext s 3 = workEnded (handOn (determine s 3) 3) := by
  have awaited : (handOn (determine s 3) 3).csu.awaiting[(3 : Fin 4)] = true := by
    rw [handOn_enabled (by simpa using enabled) (by simpa using running)]
    simp
  rw [determineNext_last, endWork_awaited awaited]

/-- What the end of a determination leaves of a bogie handed on, whichever bogie it was: the unit's own next
point, the needs of the last bogie and its end report are apart from it. -/
structure FollowsHandOff (u t : State) : Prop where
  slu : t.slu = { u.slu with next := t.slu.next } := by simp
  osu : t.osu = u.osu := by simp
  awaiting : t.csu.awaiting = u.csu.awaiting := by simp
  tables : t.tables = u.tables := by simp
  als : t.als = u.als := by simp
  opu : t.opu = u.opu := by simp
  mrh : t.mrh = u.mrh := by simp
  bru : t.bru = u.bru := by simp
  sit : t.sit = u.sit := by simp
  within : t.within = u.within := by simp
  part : t.sdu.part = u.sdu.part := by simp
  flags : ∀ f, u.flag f = true → t.flag f = true

theorem workEnded_follows (s : State) : FollowsHandOff s (workEnded s) where
  slu := by simp [workEnded]
  osu := by simp [workEnded]
  awaiting := by simp [workEnded]
  tables := by simp [workEnded]
  als := by simp [workEnded]
  opu := by simp [workEnded]
  mrh := by simp [workEnded]
  bru := by simp [workEnded]
  sit := by simp [workEnded]
  within := by simp [workEnded]
  part := by simp [workEnded]
  flags f set_ := (makeHeldNeeds_proceeds (s.setSlu { s.slu with next := none })).flags f set_

theorem determineNext_follows {s : State} {b : BogieId} (enabled : s.tables.bogie[b].enabled = true)
    (running : s.sdu.part ≠ .config) :
    FollowsHandOff (handOn (determine s b) b) (determineNext s b) := by
  by_cases before : b.val + 1 < 4
  · rw [determineNext_before before]
    exact { flags := fun _ => id }
  · obtain rfl : b = 3 := Fin.ext (show b.val = 3 by omega)
    rw [determineNext_last_enabled enabled running]
    exact workEnded_follows _

end Sys2Proof.Proofs

/-! SUPPORT. A bogie that becomes OFF (R84, R87, R99), and what a close leaves of the steering unit. -/

namespace Sys2Proof.Proofs

open Sys2Proof.Machine

section
variable {s : State} {b : BogieId} (off : s.tables.bogie[b].enabled = false ∨ s.sdu.part ≠ .active)
include off

theorem determine_off_slu : (determine s b).slu = { s.slu with
    bogieState := s.slu.bogieState.set b.val .off
    lastTarget := (s.slu.lastTarget.set (leadOf b).val 0).set (trailOf b).val 0
    record := (s.slu.record.set (leadOf b).val ChannelRecord.emptied).set (trailOf b).val
      ChannelRecord.emptied } := by
  simp [determine_off off, storeBogieState, zeroChannel]

/-- No read is made of an OFF bogie, and so nothing comes between two reads. -/
theorem determine_off_frame : (determine s b).rpu = s.rpu ∧ (determine s b).opu = s.opu ∧
    (determine s b).sgc = s.sgc ∧ (determine s b).csu = s.csu ∧ (determine s b).mrh = s.mrh ∧
    (determine s b).within = s.within ∧ (determine s b).sdu = s.sdu := by
  simp [determine_off off, storeBogieState]

theorem resultOf_off (enabled : s.tables.bogie[b].enabled = true) :
    resultOf (determine s b) b = { bogie := b, state := .off, targets := none } := by
  have outside : s.sdu.part ≠ .active := off.resolve_left (Bool.not_eq_false _ ▸ enabled)
  simp [resultOf, determine_off_slu off, outside]

end

/-- A close leaves the steering unit as it stands, or makes it leave ACTIVE (R86, R150). -/
theorem closeIfDue_slu (s : State) :
    (closeIfDue s).slu = s.slu ∨ (closeIfDue s).slu = (leaveActive s).slu := by
  have tested (u : State) : (testSupervision u).slu = u.slu ∨
      (testSupervision u).slu = (leaveActive u).slu := by
    unfold testSupervision enterFallback leaveIfActive
    (repeat' split) <;> simp
  have idle : (leaveActive (applyPosted (becomeIdle s))).slu = (leaveActive s).slu := by
    simp [leaveActive]
  unfold closeIfDue closeCycle
  split
  · simpa [idle] using tested (applyPosted (becomeIdle s))
  · exact .inl rfl

/-- The state, the targets and the records of an OFF bogie stand after the end of the unit's work. -/
theorem endWork_keeps_off {s : State} {c : ChannelId} (off : s.slu.bogieState[(3 : Fin 4)] = .off)
    (zero : s.slu.lastTarget[c] = 0) :
    (endWork s).slu.next = none ∧ (endWork s).slu.bogieState[(3 : Fin 4)] = .off ∧
    (endWork s).slu.lastTarget[c] = 0 ∧ (endWork s).slu.record[c] = s.slu.record[c] := by
  have ended : (workEnded s).slu = { s.slu with next := none } := by simp [workEnded]
  rw [endWork_eq]
  rcases closeIfDue_slu (workEnded s) with stands | left
  · simpa [stands, ended] using ⟨off, zero⟩
  · simp [left, leaveActive, ended]

/-- Settles O25: an OFF bogie is zeroed without a read; at bogie 3 a close can only zero it again. -/
theorem bogieOff : Obligations.BogieOff := by
  intro s b
  refine ⟨fun idle => ?_, fun due before off => ?_, fun due off => ?_⟩
  · rw [exec_bogieDetermination, idle]
  · obtain ⟨rpu, opu, sgc, csu, mrh, _, sdu⟩ := determine_off_frame off
    refine ⟨_, exec_bogieDetermination_due due, ?_⟩
    rw [determineNext_before before]
    refine ⟨?_, fun enabled running => ?_, fun nobody => ?_, ?_⟩
    · simp [determine_off_slu off]
    · rw [handOn_enabled (by simpa using enabled) (by simpa using running)]
      simp [resultOf_off off enabled, csu]
    · rw [handOn_to_nobody (by simpa using nobody)]
      simp [csu]
    · simp [rpu, opu, sgc, mrh, sdu]
  · have slu := determine_off_slu off
    refine ⟨_, exec_bogieDetermination_due due, ?_⟩
    have kept (c : ChannelId) (zero : (determine s 3).slu.lastTarget[c] = 0) :=
      endWork_keeps_off (s := handOn (determine s 3) 3) (c := c) (by simp [slu]) (by simpa using zero)
    rw [determineNext_last]
    have lead := kept 6 (by simp [slu, leadOf, trailOf])
    have trail := kept 7 (by simp [slu, leadOf, trailOf])
    refine ⟨lead.1, lead.2.1, ?_, fun enabled running => ?_, fun nobody => ?_⟩
    · rintro c (rfl | rfl)
      · exact ⟨lead.2.2.1, lead.2.2.2.trans (by simp [slu, leadOf, trailOf])⟩
      · exact ⟨trail.2.2.1, trail.2.2.2.trans (by simp [slu, leadOf, trailOf])⟩
    · rw [← determineNext_last, determineNext_last_enabled enabled running]
      have follows := workEnded_follows (handOn (determine s 3) 3)
      rw [follows.slu, follows.osu, handOn_enabled (by simpa using enabled) (by simpa using running)]
      simp [resultOf_off off enabled, slu, leadOf, trailOf]
    · rw [handOn_to_nobody (by simpa using nobody)]
      simp

end Sys2Proof.Proofs

/-! SUPPORT. What the reads of the steering computation leave as it stands (R65, R102): with nothing between them
all but the LRU indicators, the needs and their FETCH frames; and in ACTIVE the re-arm indicator in any case. -/

namespace Sys2Proof.Proofs

open Sys2Proof.Machine

/-! ## Reads between which nothing comes -/

/-- What stands through operations of the steering unit between whose reads nothing comes: what is held, the
route, the cycle and the requests; no flag is cleared. -/
structure Quiet (s t : State) : Prop where
  opu : t.opu = s.opu := by simp
  mrh : t.mrh = s.mrh := by simp
  csu : t.csu = s.csu := by simp
  within : t.within = s.within := by simp
  ways : ∀ i : Fin 64, t.sgc.sets[i].ways = s.sgc.sets[i].ways := by simp
  flags : ∀ f, s.flag f = true → t.flag f = true

theorem Quiet.refl (s : State) : Quiet s s := ⟨rfl, rfl, rfl, rfl, fun _ => rfl, fun _ => id⟩

theorem Quiet.trans {s t u : State} (h : Quiet s t) (k : Quiet t u) : Quiet s u :=
  ⟨k.opu.trans h.opu, k.mrh.trans h.mrh, k.csu.trans h.csu, k.within.trans h.within,
    fun i => (k.ways i).trans (h.ways i), fun f => k.flags f ∘ h.flags f⟩

theorem Quiet.content {s t : State} (h : Quiet s t) : contentOf t = contentOf s :=
  funext (contentOf_congr h.ways)

theorem CacheSound.of_ways {s t : State} (h : CacheSound s.sgc.sets)
    (same : ∀ i : Fin 64, t.sgc.sets[i].ways = s.sgc.sets[i].ways) : CacheSound t.sgc.sets :=
  fun i => same i ▸ h i

theorem Quiet.routeFit {s t : State} (h : Quiet s t) (sound : RouteFit s) : RouteFit t :=
  sound.of_parts (sound.cache.of_ways h.ways) (h.opu ▸ sound.trail) (congrArg _ h.mrh)

theorem lookupHeader_quiet (s : State) (needs : Bool) (n : Nat) :
    Quiet s (lookupHeader needs s n).1 where
  ways := (lookupHeader_proceeds s needs n).ways
  flags := (lookupHeader_proceeds s needs n).flags

theorem makeNeed_quiet (s : State) (n : Need) : Quiet s (makeNeed s n) where
  flags := (makeNeed_proceeds s n).flags

theorem touchSegment_quiet (s : State) (n : Nat) : Quiet s (touchSegment s n) where
  ways := touchSegment_ways s n
  flags := (touchSegment_proceeds s n).flags

theorem lookupBlock_quiet (s : State) (n : Nat) (k : Fin 8) : Quiet s (lookupBlock s n k).1 := by
  have touched := touchSegment_quiet s n
  simp only [lookupBlock]
  split
  · split
    · exact touched
    · exact touched.trans (makeNeed_quiet _ _)
  · exact touched.trans (makeNeed_quiet _ _)

theorem lookupBlock_snd (s : State) (n : Nat) (k : Fin 8) : (lookupBlock s n k).2 = heldBlock s n k := by
  cases held : contentOf s n with
  | none => simp [lookupBlock_missing held, heldBlock, held]
  | some c =>
    cases block : c.blocks[k] with
    | none => simp [lookupBlock_without_block held block, heldBlock_of_content held, block]
    | some b => simp [lookupBlock_held held block, heldBlock_of_content held, block]

/-! ## Reads between which something may come -/

/-- What the reads of the steering computation leave: in ACTIVE the re-arm indicator, as a keep-alive between two
reads renews the timer alone (R149, R151); and all that is quiet when nothing comes. -/
structure SteeringReads (s t : State) : Prop where
  part : t.sdu.part = s.sdu.part := by simp
  rearm : s.sdu.part = .active → t.csu.rearm = s.csu.rearm
  quiet : s.within = [] → Quiet s t

theorem SteeringReads.refl (s : State) : SteeringReads s s := ⟨rfl, fun _ => rfl, fun _ => .refl s⟩

theorem SteeringReads.trans {s t u : State} (h : SteeringReads s t) (k : SteeringReads t u) :
    SteeringReads s u where
  part := k.part.trans h.part
  rearm active := (k.rearm (h.part.trans active)).trans (h.rearm active)
  quiet none_ := (h.quiet none_).trans (k.quiet ((h.quiet none_).within.trans none_))

theorem Quiet.steeringReads {s t : State} (h : Quiet s t) (part : t.sdu.part = s.sdu.part) :
    SteeringReads s t := ⟨part, fun _ => by rw [h.csu], fun _ => h⟩

theorem managementKeepAlive_rearm {s : State} (active : s.sdu.part = .active) :
    (managementKeepAlive s).csu.rearm = s.csu.rearm := by
  unfold managementKeepAlive keepAlive
  split
  · rw [active]
    rfl
  · rfl

theorem takeArrival_rearm {s : State} (active : s.sdu.part = .active) (a : Arrival) :
    (takeArrival s a).csu.rearm = s.csu.rearm := by
  cases a with
  | segment frame =>
    simp only [takeArrival]
    split <;> simp
  | routeAppend o count data =>
    simp only [takeArrival, manage]
    split
    · rw [managementKeepAlive_rearm (by simpa [sendReply_keeps] using active)]
      simp [sendReply_keeps]
    · rfl
  | routeClear o data =>
    simp only [takeArrival, manage]
    split
    · rw [managementKeepAlive_rearm (by simpa [sendReply_keeps] using active)]
      simp [sendReply_keeps]
    · rfl

theorem takeArrivals_rearm {s : State} (active : s.sdu.part = .active) (as : List Arrival) :
    (as.foldl takeArrival s).csu.rearm = s.csu.rearm := by
  induction as generalizing s with
  | nil => rfl
  | cons a as ih => exact (ih (by simpa using active)).trans (takeArrival_rearm active a)

theorem takeWithin_reads (s : State) : SteeringReads s (takeWithin s) where
  rearm active := by
    unfold takeWithin
    split
    · rfl
    · next now later _ => exact takeArrivals_rearm (s := s.setWithin later) active now
  quiet none_ := by rw [takeWithin_nil s none_]; exact .refl s

theorem steeringHeader_reads (s : State) (n : Nat) : SteeringReads s (steeringHeader s n).1 :=
  (takeWithin_reads s).trans ((lookupHeader_quiet _ true n).steeringReads (by simp))

theorem steeringBlock_reads (s : State) (n : Nat) (k : Fin 8) :
    SteeringReads s (steeringBlock s n k).1 :=
  (takeWithin_reads s).trans ((lookupBlock_quiet _ n k).steeringReads (by simp))

theorem walkFrom_reads (s : State) (fuel : Nat) (place : Place) (segment off dist : Nat) (gone : Int) :
    SteeringReads s (walkFrom .steering fuel s place segment off dist gone).state := by
  induction fuel generalizing s place segment off dist gone with
  | zero => exact .refl s
  | succ fuel ih =>
    have looked := steeringHeader_reads s segment
    unfold walkFrom
    dsimp only [Walker.header]
    split
    · split
      · exact .refl s
      · split
        · exact .refl s
        · split
          · split
            · exact .refl s
            · exact ih ..
          · split
            · exact .refl s
            · exact ih ..
    · split
      · exact looked
      · split
        · exact looked
        · split
          · exact looked
          · exact looked.trans (ih ..)

theorem walk_reads (s : State) (start : RoutePoint) (dist : Nat) :
    SteeringReads s (walk .steering s start dist).state := walkFrom_reads ..

/-! ## A channel -/

theorem readPoint_reads (s : State) (n x : Nat) : SteeringReads s (readPoint s n x).1 := by
  have looked := steeringHeader_reads s n
  simp only [readPoint]
  split
  · exact looked
  · split
    · exact looked
    · exact looked.trans (steeringBlock_reads ..)

theorem neighbourBeyond_reads (s : State) (pt : RoutePoint) (length : Nat) :
    SteeringReads s (neighbourBeyond s pt length).1 := by
  have walked := walk_reads s pt (length - pt.offset)
  simp only [neighbourBeyond]
  split
  · exact walked
  · split
    · exact walked
    · exact walked.trans (steeringBlock_reads ..)

theorem neighbour_reads (s : State) (pt : RoutePoint) (d : PointData) :
    SteeringReads s (neighbour s pt d).1 := by
  unfold neighbour
  split
  · split
    · exact .refl s
    · exact steeringBlock_reads ..
  · exact neighbourBeyond_reads ..

theorem curvatureReading_reads (s : State) (pt : RoutePoint) :
    SteeringReads s (curvatureReading s pt).1 := by
  have read := readPoint_reads s pt.segment pt.offset
  simp only [curvatureReading]
  split
  · exact read
  · split
    · exact read
    · exact read.trans (neighbour_reads ..)

/-- The look-ahead reading of a channel: the walk, and the reading at the point reached (R91, R92). -/
def aheadReading (s : State) (axle : RoutePoint) (distance : Nat) : State × Option Int :=
  match (walk .steering s axle distance).stop with
  | some p => curvatureReading (walk .steering s axle distance).state p
  | none => ((walk .steering s axle distance).state, none)

theorem aheadReading_reads (s : State) (axle : RoutePoint) (distance : Nat) :
    SteeringReads s (aheadReading s axle distance).1 := by
  have walked := walk_reads s axle distance
  unfold aheadReading
  split
  · exact walked.trans (curvatureReading_reads ..)
  · exact walked

/-- A channel's curvature is the look-ahead reading (R92). -/
theorem channelCurvature_ahead {s : State} {axle : RoutePoint} {distance : Nat} {k : Int}
    (ahead : (aheadReading s axle distance).2 = some k) :
    channelCurvature s axle distance = ((aheadReading s axle distance).1, some k, .lookAhead) := by
  cases stop : (walk .steering s axle distance).stop <;>
    simp_all [channelCurvature, aheadReading]

/-- Where the look-ahead reading is missing, a channel's curvature is the reading at the axle (R92). -/
theorem channelCurvature_back {s : State} {axle : RoutePoint} {distance : Nat}
    (missing : (aheadReading s axle distance).2 = none) :
    channelCurvature s axle distance =
      ((curvatureReading (aheadReading s axle distance).1 axle).1,
        (curvatureReading (aheadReading s axle distance).1 axle).2,
        if (curvatureReading (aheadReading s axle distance).1 axle).2.isSome then .axle else .held) := by
  cases stop : (walk .steering s axle distance).stop <;>
    cases back : (curvatureReading (aheadReading s axle distance).1 axle).2 <;>
      simp_all [channelCurvature, aheadReading]

theorem channelCurvature_reads (s : State) (axle : RoutePoint) (distance : Nat) :
    SteeringReads s (channelCurvature s axle distance).1 := by
  have looked := aheadReading_reads s axle distance
  cases ahead : (aheadReading s axle distance).2 with
  | some k => rwa [channelCurvature_ahead ahead]
  | none =>
    rw [channelCurvature_back ahead]
    exact looked.trans (curvatureReading_reads ..)

/-! ## What is written of a channel (R98, R99) -/

theorem writeChannel_slu (s : State) (c : ChannelId) (theta : Int) (record : ChannelRecord) :
    (writeChannel s c theta record).slu = { s.slu with
      lastTarget := s.slu.lastTarget.set c.val (limitAngle s.tables.channel[c].thetaMax theta)
      record := s.slu.record.set c.val { record with
        limited := decide (limitAngle s.tables.channel[c].thetaMax theta ≠ theta) } } := by
  simp [writeChannel]

theorem writeChannel_quiet (s : State) (c : ChannelId) (theta : Int) (record : ChannelRecord) :
    Quiet s (writeChannel s c theta record) where
  flags f set_ := by
    rw [writeChannel, State.flag_setFlagIf]
    exact Bool.or_eq_true_iff.mpr (.inl set_)

/-- A computed channel reads, and then writes its last target and its record. -/
theorem computeChannel_writes (s : State) (c : ChannelId) (semi : Nat) (axle : RoutePoint) :
    ∃ u theta record, (computeChannel s c semi axle).1 = writeChannel u c theta record ∧
      SteeringReads s u ∧ u.slu = s.slu ∧ u.tables = s.tables := by
  have reads (distance : Nat) := (readPoint_reads s axle.segment axle.offset).trans
    (channelCurvature_reads (readPoint s axle.segment axle.offset).1 axle distance)
  unfold computeChannel
  dsimp only
  split
  · exact ⟨_, _, _, rfl, reads _, by simp, by simp⟩
  · exact ⟨_, _, _, rfl, reads _, by simp, by simp⟩

theorem computeChannel_reads (s : State) (c : ChannelId) (semi : Nat) (axle : RoutePoint) :
    SteeringReads s (computeChannel s c semi axle).1 := by
  obtain ⟨u, theta, record, writes, reads, -⟩ := computeChannel_writes s c semi axle
  rw [writes]
  exact reads.trans ((writeChannel_quiet ..).steeringReads (by simp))

theorem storeBogieState_quiet (s : State) (b : BogieId) (state : BogieState) :
    Quiet s (storeBogieState s b state) where
  flags f set_ := by
    rw [storeBogieState, State.flag_setFlagIf]
    exact Bool.or_eq_true_iff.mpr (.inl set_)

theorem zeroChannel_quiet (s : State) (c : ChannelId) : Quiet s (zeroChannel s c) where
  flags _ := id

theorem emptyRecord_quiet (s : State) (c : ChannelId) : Quiet s (emptyRecord s c) where
  flags _ := id

theorem bothComputed_reads (s : State) (b : BogieId) (lead trail : RoutePoint) :
    SteeringReads s (bothComputed s b lead trail).1 :=
  (computeChannel_reads ..).trans (computeChannel_reads ..)

/-- The determination of a bogie reads and stores, whatever state it comes to (R87). -/
theorem determine_reads (s : State) (b : BogieId) : SteeringReads s (determine s b) := by
  have stored (u : State) (state : BogieState) (reads : SteeringReads s u) :
      SteeringReads s (storeBogieState u b state) :=
    reads.trans ((storeBogieState_quiet ..).steeringReads (by simp))
  unfold determine
  dsimp only
  split
  · exact stored _ _ (((zeroChannel_quiet ..).trans (zeroChannel_quiet ..)).steeringReads (by simp))
  split
  · exact stored _ _ (((emptyRecord_quiet ..).trans (emptyRecord_quiet ..)).steeringReads (by simp))
  split
  · exact stored _ _ (((writeChannel_quiet ..).trans (writeChannel_quiet ..)).steeringReads (by simp))
  split
  · exact stored _ _ (bothComputed_reads s b _ _)
  · exact stored _ _ (((zeroChannel_quiet ..).trans (zeroChannel_quiet ..)).steeringReads (by simp))

end Sys2Proof.Proofs

/-! SUPPORT. The close of a cycle (R146): its three steps, when no parameter write is posted and supervision has not
reached its end. -/

namespace Sys2Proof.Proofs

open Sys2Proof.Machine

/-! ## A request applied: what its outcome rests on (R183, R184) -/

/-- What a request leaves in the tables rests on the tables and the part state alone. -/
theorem applyRequest_tables_congr {s u : State} (tables : u.tables = s.tables)
    (part : u.sdu.part = s.sdu.part) (r : HeldRequest) :
    (applyRequest u r).tables = (applyRequest s r).tables := by
  cases r with
  | source i new =>
    cases new with
    | none => simp [applyRequest, applySource, tables]
    | some e => simp only [applyRequest, applySource, tables]; split <;> simp [tables]
  | axle i new =>
    cases new with
    | none => simp [applyRequest, applyAxle, tables]
    | some e => simp only [applyRequest, applyAxle, tables]; split <;> simp [tables]
  | bogie i new => simp only [applyRequest, applyBogie, tables]; split <;> simp [tables]
  | channel i new => simp [applyRequest, appliedChannel, tables, part]
  | gain i new => simp [applyRequest, tables]
  | beacon i new =>
    cases new with
    | none => simp [applyRequest, applyBeacon, tables]
    | some e => simp only [applyRequest, applyBeacon, tables]; split <;> simp [tables]
  | param new => simp [applyRequest, tables]
  | positionSet segment offset trail => simp [applyRequest, tables]
  | invalidate segment => simp [applyRequest, tables]
  | invalidateAll => simp [applyRequest, tables]

/-- No request but a parameter write changes the parameter table. -/
theorem applyRequest_param {s : State} {r : HeldRequest} (other : ∀ e, r ≠ .param e) :
    (applyRequest s r).tables.param = s.tables.param := by
  cases r with
  | source i new =>
    obtain ⟨after, -, stored⟩ := applySource_tables s i new
    simp [applyRequest, stored]
  | axle i new =>
    obtain ⟨after, -, stored⟩ := applyAxle_tables s i new
    simp [applyRequest, stored]
  | bogie i new =>
    obtain ⟨after, -, stored⟩ := applyBogie_tables s i new
    simp [applyRequest, stored]
  | beacon i new =>
    obtain ⟨after, -, stored⟩ := applyBeacon_tables s i new
    simp [applyRequest, stored]
  | param e => exact absurd rfl (other e)
  | channel | gain | positionSet | invalidate | invalidateAll => simp [applyRequest]

theorem applyRequest_held (s : State) (r : HeldRequest) :
    (applyRequest s r).sgc.held = s.sgc.held := by
  cases r with
  | invalidate segment =>
    simp only [applyRequest, invalidateSegment]
    split <;> simp [freeFetch, State.setCacheSet]
  | source | axle | bogie | channel | gain | beacon | param | positionSet | invalidateAll =>
    simp [applyRequest, invalidateAll]

/-! ## The steps of a close -/

/-- Close at which neither a parameter write nor supervision comes into play. -/
def PlainClose (s : State) : Prop :=
  supervisionReached s = false ∧ ∀ p, s.mrh.posted = some p → ∀ e, p.request ≠ .param e

/-- What a close makes of a state `before` (R146, R170, R184). -/
def Closes (before t : State) : Prop :=
  t.csu.running = false ∧ t.csu.endReport = false ∧ t.mrh.posted = none ∧ t.sdu.deferred = false ∧
  (before.mrh.posted = none → t.tables = before.tables) ∧
  (∀ p, before.mrh.posted = some p → t.tables = (applyRequest before p.request).tables) ∧
  (before.sdu.deferred = false →
    t.sdu.part = before.sdu.part ∧ t.sdu.reason = before.sdu.reason) ∧
  (before.sdu.deferred = true → inconsistency t = none → t.sdu.part = .active) ∧
  (∀ n, before.sdu.deferred = true → inconsistency t = some n →
    t.sdu.part = before.sdu.part ∧ t.sdu.reason = some n)

/-- What the end of a computation leaves of the state in which it began, as far as a close rests on it. -/
structure UpToClose (before s : State) : Prop where
  tables : s.tables = before.tables := by simp
  posted : s.mrh.posted = before.mrh.posted := by simp
  part : s.sdu.part = before.sdu.part := by simp
  deferred : s.sdu.deferred = before.sdu.deferred := by simp
  reason : s.sdu.reason = before.sdu.reason := by simp
  supervision : s.csu.supervision = before.csu.supervision := by simp

theorem UpToClose.plain {before s : State} (h : UpToClose before s) (plain : PlainClose before) :
    PlainClose s := by
  unfold PlainClose supervisionReached supervised at plain ⊢
  rwa [h.tables, h.posted, h.part, h.supervision]

/-- The posted request applied in the part state that stands (R184). -/
theorem applyPosted_posted (s : State) : (applyPosted s).mrh.posted = none := by
  unfold applyPosted
  split
  · assumption
  · simp

theorem applyPosted_tables_none {s : State} (none_ : s.mrh.posted = none) :
    (applyPosted s).tables = s.tables := by simp [applyPosted, none_]

theorem applyPosted_tables_some {s : State} {p : Posted} (some_ : s.mrh.posted = some p) :
    (applyPosted s).tables = (applyRequest s p.request).tables := by
  simp only [applyPosted, some_]
  exact applyRequest_tables_congr (by simp) (by simp) p.request

theorem applyPosted_held (s : State) : (applyPosted s).sgc.held = s.sgc.held := by
  unfold applyPosted
  split
  · rfl
  · simp [applyRequest_held]

/-- A request that is no parameter write leaves the effective timeout, and with it supervision (R140, R150). -/
theorem testSupervision_plain {s : State} (plain : PlainClose s) :
    testSupervision (applyPosted s) = applyPosted s := by
  have param : (applyPosted s).tables.param = s.tables.param := by
    unfold applyPosted
    split
    · rfl
    · next p posted => simp [applyRequest_param (plain.2 p posted)]
  have reached : supervisionReached (applyPosted s) = supervisionReached s := by
    simp [supervisionReached, supervised, param]
  rw [testSupervision, reached, plain.1]
  rfl

/-- The consistency check rests on the tables and the own address (R169). -/
theorem inconsistency_takeDeferred (s : State) : inconsistency (takeDeferred s) = inconsistency s := by
  simp [inconsistency]

theorem takeDeferred_none {s : State} (none_ : s.sdu.deferred = false) : takeDeferred s = s := by
  simp [takeDeferred, none_]

theorem takeDeferred_taken {s : State} (waits : s.sdu.deferred = true)
    (consistent : inconsistency s = none) : takeDeferred s = enterActive s := by
  simp [takeDeferred, waits, consistent]

theorem takeDeferred_cancelled {s : State} {n : Nat} (waits : s.sdu.deferred = true)
    (fails : inconsistency s = some n) :
    takeDeferred s = s.setSdu { s.sdu with deferred := false, reason := some n } := by
  simp [takeDeferred, waits, fails]

theorem takeDeferred_deferred (s : State) : (takeDeferred s).sdu.deferred = false := by
  unfold takeDeferred
  split
  · split <;> rfl
  · next none_ => simpa using none_

theorem closeCycle_plain {s : State} (plain : PlainClose s) :
    closeCycle s = takeDeferred (applyPosted (becomeIdle s)) := by
  have idle : UpToClose s (becomeIdle s) := { supervision := rfl }
  rw [closeCycle, testSupervision_plain (idle.plain plain)]

theorem closeCycle_closes {before s : State} (same : UpToClose before s) (plain : PlainClose before) :
    Closes before (closeCycle s) := by
  rw [closeCycle_plain (same.plain plain)]
  have becomes : UpToClose before (becomeIdle s) :=
    ⟨by simp [same.tables], by simp [same.posted], by simp [same.part], by simp [same.deferred],
      by simp [same.reason], same.supervision⟩
  refine ⟨by simp [becomeIdle], by simp [becomeIdle], by simp [applyPosted_posted],
    takeDeferred_deferred _, fun none_ => ?_, fun p posted => ?_, fun none_ => ?_, fun waits fits => ?_,
    fun n waits fails => ?_⟩
  · rw [(takeDeferred_keeps _).2.1, applyPosted_tables_none (becomes.posted.trans none_), becomes.tables]
  · rw [(takeDeferred_keeps _).2.1, applyPosted_tables_some (becomes.posted.trans posted)]
    exact applyRequest_tables_congr becomes.tables becomes.part p.request
  · rw [takeDeferred_none (by simpa using same.deferred.trans none_)]
    simp [same.part, same.reason]
  · rw [inconsistency_takeDeferred] at fits
    rw [takeDeferred_taken (by simpa using same.deferred.trans waits) fits]
    rfl
  · rw [inconsistency_takeDeferred] at fails
    rw [takeDeferred_cancelled (by simpa using same.deferred.trans waits) fails]
    simp [same.part]

theorem closeIfDue_closes {before s : State} (same : UpToClose before s) (plain : PlainClose before)
    (due : closeDue s = true) : Closes before (closeIfDue s) := by
  rw [closeIfDue, if_pos due]
  exact closeCycle_closes same plain

/-- A plain close leaves the point the steering unit has reached, and the held needs. -/
theorem closeIfDue_next_held {s : State} (plain : PlainClose s) :
    (closeIfDue s).slu.next = s.slu.next ∧ (closeIfDue s).sgc.held = s.sgc.held := by
  unfold closeIfDue
  split
  · rw [closeCycle_plain plain]
    simp [applyPosted_held]
  · exact ⟨rfl, rfl⟩

end Sys2Proof.Proofs

/-! SUPPORT. The end of bogie 3's determination, and the close of a cycle there or at the last offer (R84, R145,
R146). -/

namespace Sys2Proof.Proofs

open Sys2Proof.Machine

/-! ## Bogie 3 handed on -/

theorem determine_rearm (s : State) (b : BogieId) : (determine s b).csu.rearm = s.csu.rearm := by
  by_cases active : s.sdu.part = .active
  · exact (determine_reads s b).rearm active
  · rw [(determine_off_frame (.inr active)).2.2.2.1]

/-- Between two reads a route request can keep the part alive: the timer alone is renewed (R148, R149). -/
theorem determine_csu (s : State) (b : BogieId) : (determine s b).csu =
    { s.csu with supervision := (determine s b).csu.supervision } := by
  have rearm := determine_rearm s b
  have kept := determine_keeps s b
  generalize determine s b = t at *
  cases h : t.csu
  simp_all

/-- Between two reads a route request can cancel a held prepare (R189). -/
theorem determine_mrh (s : State) (b : BogieId) : (determine s b).mrh =
    { s.mrh with prepare := (determine s b).mrh.prepare } := by
  have kept := determine_keeps s b
  generalize determine s b = t at *
  cases h : t.mrh
  simp_all

/-- Between two reads the route queue can change (R32, R33). -/
theorem determine_opu (s : State) (b : BogieId) : (determine s b).opu =
    { s.opu with route := (determine s b).opu.route } := by
  have kept := determine_keeps s b
  generalize determine s b = t at *
  cases h : t.opu
  simp_all

/-! ## An offer -/

theorem shapeResult_results (s : State) (r : SteeringResult) :
    (shapeResult s r).1.osu.results = s.osu.results := by
  unfold shapeResult
  split
  · rfl
  · split <;> rfl

theorem takeOffer_results (s : State) (b : BogieId) (offer : Option CodePair) :
    (takeOffer s b offer).osu.results = s.osu.results := by
  unfold takeOffer build
  (repeat' split) <;> simp [copyError, issueCode, State.setShaped]

theorem exec_shaping_next {s : State} {r : SteeringResult} {rest : List SteeringResult}
    (front : s.osu.results = r :: rest) :
    exec .shaping s = .next (shapeAndOffer (s.setOsu { s.osu with results := rest }) r) := by
  have path : exec .shaping s = .next (shapeNext s) := rfl
  rw [path, shapeNext, front]

/-- The state at which the offer of a result is counted, before a close that may be due (R124, R145). -/
def offered (s : State) (r : SteeringResult) (rest : List SteeringResult) : State :=
  let shaped := shapeResult (s.setOsu { s.osu with results := rest }) r
  (takeOffer shaped.1 r.bogie shaped.2).setCsu
    { s.csu with awaiting := s.csu.awaiting.set r.bogie.val false }

theorem shapeAndOffer_eq (s : State) (r : SteeringResult) (rest : List SteeringResult) :
    shapeAndOffer (s.setOsu { s.osu with results := rest }) r = closeIfDue (offered s r rest) := by
  simp [shapeAndOffer, countOffer, offered]

theorem offered_results (s : State) (r : SteeringResult) (rest : List SteeringResult) :
    (offered s r rest).osu.results = rest := by
  simp [offered, takeOffer_results, shapeResult_results]

theorem offered_upToClose (s : State) (r : SteeringResult) (rest : List SteeringResult) :
    UpToClose s (offered s r rest) := by
  constructor <;> simp [offered]

theorem offered_awaiting (s : State) (r : SteeringResult) (rest : List SteeringResult) :
    (offered s r rest).csu.awaiting = s.csu.awaiting.set r.bogie.val false := rfl

/-- A plain close leaves the marks of the bogies that await offer. -/
theorem closeIfDue_awaiting {s : State} (plain : PlainClose s) :
    (closeIfDue s).csu.awaiting = s.csu.awaiting := by
  unfold closeIfDue
  split
  · rw [closeCycle_plain plain]
    simp [becomeIdle]
  · rfl

/-! ## The three ends -/

/-- Bogie 3 handed on: the end report is in, and the computation goes on (R84). -/
theorem lastBogie_handedOn {s : State} (enabled : s.tables.bogie[(3 : Fin 4)].enabled = true)
    (running : s.sdu.part ≠ .config) :
    (determineNext s 3).slu.next = none ∧ (determineNext s 3).sgc.held = [] ∧
    (determineNext s 3).csu = { s.csu with
      awaiting := s.csu.awaiting.set 3 true, endReport := true
      supervision := (determine s 3).csu.supervision } ∧
    (determineNext s 3).mrh = (determine s 3).mrh ∧
    (determineNext s 3).osu.results = s.osu.results ++ [resultOf (determine s 3) 3] := by
  have handed : handOn (determine s 3) 3 = _ :=
    handOn_enabled (by simpa using enabled) (by simpa using running)
  rw [determineNext_last_enabled enabled running]
  refine ⟨by simp [workEnded], workEnded_held _, ?_, by simp [workEnded], by simp [workEnded, handed]⟩
  have csu : (workEnded (handOn (determine s 3) 3)).csu = { (determine s 3).csu with
      awaiting := s.csu.awaiting.set 3 true, endReport := true } := by simp [workEnded, handed]
  rw [csu, determine_csu]

/-- Bogie 3 handed on to nobody: the cycle closes when no bogie awaits offer (R146). -/
theorem lastBogie_toNobody {s : State}
    (nobody : s.tables.bogie[(3 : Fin 4)].enabled = false ∨ s.sdu.part = .config)
    (active : s.csu.running = true) (none_ : ∀ b : BogieId, s.csu.awaiting[b] = false)
    (plain : PlainClose s) :
    (determineNext s 3).slu.next = none ∧ (determineNext s 3).sgc.held = [] ∧
    Closes s (determineNext s 3) := by
  have off : s.tables.bogie[(3 : Fin 4)].enabled = false ∨ s.sdu.part ≠ .active :=
    nobody.imp_right fun config => by simp [config]
  obtain ⟨-, -, -, csu, mrh, -, -⟩ := determine_off_frame off
  rw [determineNext_last, handOn_to_nobody (by simpa using nobody), endWork_eq]
  have same : UpToClose s (workEnded (determine s 3)) := by
    constructor <;> simp [workEnded, csu, mrh]
  have due : closeDue (workEnded (determine s 3)) = true :=
    (closeDue_iff _).mpr ⟨by simpa [workEnded] using active, rfl, by simpa [workEnded] using none_⟩
  obtain ⟨next, held⟩ := closeIfDue_next_held (same.plain plain)
  exact ⟨next.trans (by simp [workEnded]), held.trans (workEnded_held _),
    closeIfDue_closes same plain due⟩

/-- The offer of the last bogie that awaits one closes the cycle once the end report is in (R145, R146). -/
theorem lastOffer_closes {s : State} {r : SteeringResult} (rest : List SteeringResult)
    (running : s.csu.running = true) (ended : s.csu.endReport = true)
    (last : ∀ b : BogieId, b ≠ r.bogie → s.csu.awaiting[b] = false) (plain : PlainClose s) :
    (closeIfDue (offered s r rest)).csu.awaiting[r.bogie] = false ∧
    Closes s (closeIfDue (offered s r rest)) := by
  have same := offered_upToClose s r rest
  have awaiting (b : BogieId) : (offered s r rest).csu.awaiting[b] = false := by
    rw [offered_awaiting]
    by_cases own : b = r.bogie
    · simp [own]
    · have apart : r.bogie.val ≠ b.val := fun h => own (Fin.ext h.symm)
      simpa [Vector.getElem_set_ne, apart] using last b own
  have due : closeDue (offered s r rest) = true := (closeDue_iff _).mpr ⟨running, ended, awaiting⟩
  refine ⟨?_, closeIfDue_closes same plain due⟩
  rw [closeIfDue_awaiting (same.plain plain)]
  exact awaiting r.bogie

/-- Settles O27: handed on, bogie 3 keeps the cycle open; handed on to nobody, or offered last, it closes it. -/
theorem lastBogieClosesCycle : Obligations.LastBogieClosesCycle := by
  refine ⟨fun s due => ⟨fun enabled running => ?_, fun nobody active none_ plain => ?_⟩,
    fun s r rest front running ended last plain => ?_⟩
  · have follows := determineNext_follows enabled running
    obtain ⟨next, held, csu, mrh, results⟩ := lastBogie_handedOn enabled running
    refine ⟨_, exec_bogieDetermination_due due, next, ?_, ?_, fun quiet => ?_, ⟨_, results, rfl⟩,
      by simp [follows.tables], by simp [follows.als], by simp [follows.part], held⟩
    · rw [csu]
    · rw [mrh]
      exact determine_mrh s 3
    · have still := (determine_reads s 3).quiet quiet
      rw [csu, mrh]
      exact ⟨by rw [still.csu], still.mrh⟩
  · exact ⟨_, exec_bogieDetermination_due due, lastBogie_toNobody nobody active none_ plain⟩
  · refine ⟨_, exec_shaping_next front, ?_⟩
    rw [shapeAndOffer_eq]
    exact ⟨by simp [offered_results], lastOffer_closes rest running ended last plain⟩

end Sys2Proof.Proofs

/-! SUPPORT. What the steering law reads of the route (R38, R39, R89 to R94) when nothing comes between its reads: its
walk goes as `Walks` says, and its curvature reading gives what `Reading` says. -/

namespace Sys2Proof.Proofs

open Sys2Proof.Machine

/-! ## Walks rest on what is held and on the route -/

theorem stretch_congr {s t : State} (opu : t.opu = s.opu) (held : heldHeader t = heldHeader s) :
    stretch t = stretch s := by
  funext place segment
  have step (p : Place) (n : Nat) (h : Header) : onwards t p n h = onwards s p n h := by
    simp only [onwards, opu]
  match place with
  | .trail 0 => simp only [stretch, opu]
  | .trail (n + 1) => simp only [stretch, opu]
  | .current => simp only [stretch, held, step]
  | .beyond q => simp only [stretch, held, step]

theorem walks_congr {s t : State} (same : stretch t = stretch s) {place : Place} {segment off dist : Nat}
    {stop : Option RoutePoint} (h : Walks s place segment off dist stop) :
    Walks t place segment off dist stop := by
  induction h with
  | missing _ _ _ _ found => exact .missing _ _ _ _ (same ▸ found)
  | reached _ _ _ _ _ _ found within => exact .reached _ _ _ _ _ _ (same ▸ found) within
  | cut _ _ _ _ _ found beyond => exact .cut _ _ _ _ _ (same ▸ found) beyond
  | ends _ _ _ _ _ found beyond => exact .ends _ _ _ _ _ (same ▸ found) beyond
  | onward _ _ _ _ _ _ _ _ found beyond _ rest =>
    exact .onward _ _ _ _ _ _ _ _ (same ▸ found) beyond rest

/-- A walk has one end. -/
theorem walks_unique {s : State} {place : Place} {segment off dist : Nat} {a b : Option RoutePoint}
    (h : Walks s place segment off dist a) (k : Walks s place segment off dist b) : a = b := by
  induction h generalizing b with
  | missing _ _ _ _ found => cases k <;> simp_all
  | reached _ _ _ _ _ _ found within => cases k <;> simp_all <;> omega
  | cut _ _ _ _ _ found beyond => cases k <;> simp_all; omega
  | ends _ _ _ _ _ found beyond => cases k <;> simp_all; omega
  | onward _ _ _ _ _ _ _ _ found beyond _ rest =>
    cases k with
    | onward _ _ _ _ _ _ _ _ again _ walked =>
      rw [found] at again
      cases again
      exact rest walked
    | reached _ _ _ _ _ _ again within =>
      rw [found] at again
      cases again
      omega
    | missing _ _ _ _ again => simp [found] at again
    | cut _ _ _ _ _ again => simp [found] at again
    | ends _ _ _ _ _ again => simp [found] at again

/-! ## The walk of the steering law -/

theorem steeringHeader_quiet {s : State} (quiet : s.within = []) (n : Nat) :
    steeringHeader s n = lookupHeader true s n := by rw [steeringHeader, takeWithin_nil s quiet]

theorem steeringBlock_quiet {s : State} (quiet : s.within = []) (n : Nat) (k : Fin 8) :
    steeringBlock s n k = lookupBlock s n k := by rw [steeringBlock, takeWithin_nil s quiet]

/-- With nothing between its reads the steering law walks as the Beacon Reconciliation Unit does. -/
theorem walkFrom_steering {s : State} (quiet : s.within = []) (fuel : Nat) (place : Place)
    (segment off dist : Nat) (gone : Int) : walkFrom .steering fuel s place segment off dist gone =
      walkFrom .beacon fuel s place segment off dist gone := by
  induction fuel generalizing s place segment off dist gone with
  | zero => rfl
  | succ fuel ih =>
    have looked : (lookupHeader true s segment).1.within = [] := by simp [quiet]
    unfold walkFrom
    simp only [Walker.header, steeringHeader_quiet quiet, ih quiet, ih looked]

theorem walk_steering {s : State} (quiet : s.within = []) (start : RoutePoint) (dist : Nat) :
    walk .steering s start dist = walk .beacon s start dist := walkFrom_steering quiet ..

theorem walk_steering_walks {s : State} (quiet : s.within = []) (sound : RouteFit s) (start : RoutePoint)
    (dist : Nat) : Walks s start.place start.segment start.offset dist
      (walk .steering s start dist).stop := by
  rw [walk_steering quiet]
  exact walk_walks sound start dist

/-! ## A walk that leaves its segment -/

theorem walkFrom_visited_pos (w : Walker) (fuel : Nat) (s : State) (place : Place)
    (segment off dist : Nat) (gone : Int) :
    0 < (walkFrom w (fuel + 1) s place segment off dist gone).visited.length := by
  unfold walkFrom
  dsimp only
  (repeat' split) <;> simp

/-- The segments that a walk visits which stands on the trail. -/
theorem walkFrom_trail_visited (w : Walker) (fuel : Nat) (s : State) (n segment off dist : Nat) (gone : Int)
    {e : TrailEntry} (at_ : s.opu.trail[n]? = some e) :
    (walkFrom w (fuel + 1) s (.trail n) segment off dist gone).visited =
      { segment := segment, entered := gone } ::
        if off + dist < e.length then []
        else (onwardsFromTrail s n).elim [] fun next =>
          (walkFrom w fuel s next.1 next.2 0 (off + dist - e.length)
            (gone + dist - ((off + dist - e.length : Nat) : Int))).visited := by
  simp only [walkFrom, at_]
  split
  · rfl
  · cases n with
    | zero => cases at0 : s.opu.position <;> simp [onwardsFromTrail, at0]
    | succ n => cases newer : s.opu.trail[n]? <;> simp [onwardsFromTrail, newer]

/-- A walk that reaches `reach` mm from the start of its segment leaves it (R38). -/
def Leaves (s : State) (place : Place) (segment reach : Nat) : Prop :=
  ∃ length next, stretch s place segment = some (length, some (some next)) ∧ length ≤ reach

section

variable {s : State} {segment off dist : Nat} (fuel : Nat) (gone : Int)

theorem walkFrom_trail_leaves (n : Nat) :
    1 < (walkFrom .beacon (fuel + 2) s (.trail n) segment off dist gone).visited.length ↔
      Leaves s (.trail n) segment (off + dist) := by
  unfold Leaves
  rw [stretch_trail]
  cases entry : s.opu.trail[n]? with
  | none => simp [walkFrom, entry]
  | some e =>
    rw [walkFrom_trail_visited _ _ _ _ _ _ _ _ entry]
    cases next : onwardsFromTrail s n with
    | none => simp
    | some onto =>
      by_cases within : off + dist < e.length
      · simp [within]
      · simp [within, walkFrom_visited_pos, not_lt.mp within]

theorem walkFrom_route_leaves {place : Place} (forward : ∀ n, place ≠ .trail n) :
    1 < (walkFrom .beacon (fuel + 2) s place segment off dist gone).visited.length ↔
      Leaves s place segment (off + dist) := by
  unfold Leaves walkFrom
  rw [stretch_forward s forward, ← lookupHeader_snd s true]
  dsimp only [Walker.header]
  split
  · next n => exact absurd rfl (forward n)
  cases (lookupHeader true s segment).2 with
  | none => simp
  | some h =>
    by_cases within : off + dist < h.length
    · simp [within]
    · by_cases last : h.succ0 = 0
      · simp [within, last, onwards]
      · simp [within, last, onwards_eq s forward segment last, walkFrom_visited_pos, not_lt.mp within]

theorem walkFrom_leaves (place : Place) :
    1 < (walkFrom .beacon (fuel + 2) s place segment off dist gone).visited.length ↔
      Leaves s place segment (off + dist) := by
  cases place with
  | trail n => exact walkFrom_trail_leaves fuel gone n
  | current => exact walkFrom_route_leaves fuel gone nofun
  | beyond q => exact walkFrom_route_leaves fuel gone nofun

end

theorem walk_leaves {s : State} (quiet : s.within = []) (start : RoutePoint) (dist : Nat) :
    1 < (walk .steering s start dist).visited.length ↔
      Leaves s start.place start.segment (start.offset + dist) := by
  rw [walk_steering quiet]
  exact walkFrom_leaves _ 0 start.place

/-! ## The parts of a curvature reading (R89, R93, R94) -/

/-- What steps 1 to 4 of a reading find in what the cache holds (R89). -/
def pointAt (s : State) (segment x : Nat) : Option PointData :=
  match heldHeader s segment with
  | none => none
  | some h =>
    if h.length ≤ x then none
    else (heldBlock s segment (Fin.ofNat 8 (readingScale x h.length / 256 / 4))).map fun b =>
      { index := readingScale x h.length / 256, frac := readingScale x h.length % 256, block := b
        length := h.length }

theorem readPoint_snd {s : State} (quiet : s.within = []) (segment x : Nat) :
    (readPoint s segment x).2 = pointAt s segment x := by
  have looked := lookupHeader_quiet s true segment
  have block (k : Fin 8) : heldBlock (lookupHeader true s segment).1 segment k = heldBlock s segment k := by
    unfold heldBlock
    rw [looked.content]
  simp only [readPoint, steeringHeader_quiet quiet, pointAt, lookupHeader_snd]
  cases heldHeader s segment with
  | none => rfl
  | some h =>
    dsimp only
    split
    · rfl
    · rw [steeringBlock_quiet (looked.within.trans quiet), lookupBlock_snd, block]

theorem curvatureReading_missing {s : State} {pt : RoutePoint}
    (missing : (readPoint s pt.segment pt.offset).2 = none) : (curvatureReading s pt).2 = none := by
  simp only [curvatureReading, missing]

/-- A reading by what its neighbour gives (R89). -/
def readingBy (d : PointData) : Neighbour → Option Int
  | .value k => some (interpolate d.kappa k d.frac)
  | .alone => some d.kappa
  | .missing => none

theorem curvatureReading_found {s : State} {pt : RoutePoint} {d : PointData}
    (found : (readPoint s pt.segment pt.offset).2 = some d) :
    (curvatureReading s pt).2 =
      if d.frac = 0 then some d.kappa
      else readingBy d (neighbour (readPoint s pt.segment pt.offset).1 pt d).2 := by
  simp only [curvatureReading, found]
  split
  · rfl
  · cases (neighbour (readPoint s pt.segment pt.offset).1 pt d).2 <;> rfl

/-- Point 0 of a sub-block as a neighbour, or what its absence leaves. -/
def firstPoint (block : Option SubBlock) (absent : Neighbour) : Neighbour :=
  (block.map fun b => Neighbour.value b.points[(0 : Fin 4)]).getD absent

/-- The neighbour of a reading's point, on what the cache holds (R93, R94; log 12). -/
def NeighbourIs (s : State) (pt : RoutePoint) (d : PointData) (n : Neighbour) : Prop :=
  if d.index < 31 then
    n = if (d.index + 1) % 4 ≠ 0 then .value d.block.points[Fin.ofNat 4 (d.index + 1)]
      else firstPoint (heldBlock s pt.segment (Fin.ofNat 8 ((d.index + 1) / 4))) .missing
  else
    ∃ stop, Walks s pt.place pt.segment pt.offset (d.length - pt.offset) stop ∧
      (Leaves s pt.place pt.segment d.length →
        n = firstPoint (stop.bind fun p => heldBlock s p.segment 0) .alone) ∧
      (¬ Leaves s pt.place pt.segment d.length → n = .alone)

section

variable {s t : State} {pt : RoutePoint} {d : PointData}

theorem NeighbourIs.unique {m n : Neighbour} (h : NeighbourIs s pt d m) (k : NeighbourIs s pt d n) :
    m = n := by
  unfold NeighbourIs at h k
  split at h
  · next inside => rw [if_pos inside] at k; exact h.trans k.symm
  · next last =>
    rw [if_neg last] at k
    obtain ⟨stop, walks, leaves, stays⟩ := h
    obtain ⟨stop', walks', leaves', stays'⟩ := k
    obtain rfl := walks_unique walks walks'
    by_cases leave : Leaves s pt.place pt.segment d.length
    · rw [leaves leave, leaves' leave]
    · rw [stays leave, stays' leave]

theorem NeighbourIs.congr (opu : t.opu = s.opu) (content : contentOf t = contentOf s) {n : Neighbour}
    (h : NeighbourIs s pt d n) : NeighbourIs t pt d n := by
  have held : heldHeader t = heldHeader s := by unfold heldHeader; rw [content]
  have blocks : heldBlock t = heldBlock s := by unfold heldBlock; rw [content]
  have route := stretch_congr opu held
  unfold NeighbourIs Leaves at h ⊢
  rw [blocks, route]
  split
  · next inside => rwa [if_pos inside] at h
  · next last =>
    rw [if_neg last] at h
    obtain ⟨stop, walks, rest⟩ := h
    exact ⟨stop, walks_congr route walks, rest⟩

theorem neighbourBeyond_is (quiet : s.within = []) (sound : RouteFit s) (last : ¬ d.index < 31)
    (inside : pt.offset < d.length) : NeighbourIs s pt d (neighbourBeyond s pt d.length).2 := by
  have walked := (walk_reads s pt (d.length - pt.offset)).quiet quiet
  have leaves := walk_leaves quiet pt (d.length - pt.offset)
  rw [Nat.add_sub_cancel' inside.le] at leaves
  have block (n : Nat) : (steeringBlock (walk .steering s pt (d.length - pt.offset)).state n 0).2 =
      heldBlock s n 0 := by
    rw [steeringBlock_quiet (walked.within.trans quiet), lookupBlock_snd, heldBlock, heldBlock, walked.content]
  unfold NeighbourIs neighbourBeyond
  rw [if_neg last]
  refine ⟨_, walk_steering_walks quiet sound pt _, fun leave => ?_, fun stay => ?_⟩
  · cases stop : (walk .steering s pt (d.length - pt.offset)).stop with
    | none => simp only [stop, firstPoint, Option.bind_none, Option.map_none, Option.getD_none]
    | some p =>
      have visits := leaves.mpr leave
      simp only [stop, if_neg (not_le.mpr visits), block, firstPoint, Option.bind_some]
      cases heldBlock s p.segment 0 <;> rfl
  · have visits := not_lt.mp (mt leaves.mp stay)
    cases stop : (walk .steering s pt (d.length - pt.offset)).stop with
    | none => simp only [stop]
    | some p => simp only [stop, if_pos visits]

theorem neighbour_is (quiet : s.within = []) (sound : RouteFit s) (inside : pt.offset < d.length) :
    NeighbourIs s pt d (neighbour s pt d).2 := by
  unfold neighbour
  split
  · next before =>
    have block : (d.index + 1) / 4 = d.index / 4 ↔ (d.index + 1) % 4 ≠ 0 := by omega
    rw [NeighbourIs, if_pos before]
    by_cases same : (d.index + 1) % 4 ≠ 0
    · rw [if_pos same, if_pos (block.mpr same)]
    · rw [if_neg same, if_neg (mt block.mp same)]
      simp only [steeringBlock_quiet quiet, lookupBlock_snd, firstPoint]
      cases heldBlock s pt.segment (Fin.ofNat 8 ((d.index + 1) / 4)) <;> rfl
  · next last => exact neighbourBeyond_is quiet sound last inside

theorem pointAt_inside (found : pointAt s pt.segment pt.offset = some d) : pt.offset < d.length := by
  unfold pointAt at found
  split at found
  · cases found
  · split at found
    · cases found
    · next h _ inside =>
      obtain ⟨b, -, rfl⟩ := Option.map_eq_some_iff.mp found
      exact not_le.mp inside

/-! ## A curvature reading whole -/

theorem reading_missing (missing : pointAt s pt.segment pt.offset = none) (r : Option Int) :
    Reading s pt r ↔ r = none := by
  unfold Reading
  cases held : heldHeader s pt.segment with
  | none => rfl
  | some h =>
    simp only [pointAt, held] at missing
    dsimp only
    split
    · rfl
    · next inside =>
      rw [if_neg inside, Option.map_eq_none_iff, readingScale] at missing
      simp only [missing]

theorem reading_found (found : pointAt s pt.segment pt.offset = some d) (r : Option Int) :
    Reading s pt r ↔ if d.frac = 0 then r = some d.kappa
      else ∃ n, NeighbourIs s pt d n ∧ r = readingBy d n := by
  unfold Reading
  cases held : heldHeader s pt.segment with
  | none => simp [pointAt, held] at found
  | some h =>
    simp only [pointAt, held] at found
    dsimp only
    split
    · next outside => simp [outside] at found
    next inside =>
    rw [if_neg inside] at found
    obtain ⟨b, block, made⟩ := Option.map_eq_some_iff.mp found
    have index : d.index = pt.offset * 8192 / h.length / 256 := made ▸ rfl
    have frac : d.frac = pt.offset * 8192 / h.length % 256 := made ▸ rfl
    have kappa : d.kappa = b.points[Fin.ofNat 4 (pt.offset * 8192 / h.length / 256)] := made ▸ rfl
    have points : d.block = b := made ▸ rfl
    have length : d.length = h.length := made ▸ rfl
    rw [readingScale] at block
    simp only [block, frac, kappa]
    split
    · rfl
    next part =>
    simp only [NeighbourIs, index, points, length]
    split
    · next before =>
      simp only [exists_eq_left]
      split
      · simp only [readingBy, interpolate, kappa, frac]
      · cases heldBlock s pt.segment (Fin.ofNat 8 ((pt.offset * 8192 / h.length / 256 + 1) / 4)) <;>
          simp [readingBy, firstPoint, interpolate, kappa, frac]
    · next last =>
      have alone : readingBy d .alone = some b.points[Fin.ofNat 4 (pt.offset * 8192 / h.length / 256)] := by
        rw [readingBy, kappa]
      constructor
      · rintro ⟨stop, walks, leaves, stays⟩
        by_cases leave : Leaves s pt.place pt.segment h.length
        · refine ⟨_, ⟨stop, walks, fun _ => rfl, fun stay => absurd leave stay⟩, ?_⟩
          have reads := leaves leave
          cases reached : stop.bind fun p => heldBlock s p.segment 0 <;>
            simpa [reached, readingBy, firstPoint, interpolate, kappa, frac] using reads
        · refine ⟨.alone, ⟨stop, walks, fun leaves => absurd leaves leave, fun _ => rfl⟩, ?_⟩
          rw [alone]
          exact stays fun length next at_ => not_le.mp fun short => leave ⟨length, next, at_, short⟩
      · rintro ⟨n, ⟨stop, walks, leaves, stays⟩, rfl⟩
        refine ⟨stop, walks, fun leave => ?_, fun stay => ?_⟩
        · rw [leaves leave]
          cases reached : stop.bind fun p => heldBlock s p.segment 0 <;>
            simp [readingBy, firstPoint, interpolate, kappa, frac]
        · rw [stays fun ⟨length, next, at_, short⟩ => absurd (stay length next at_) (not_lt.mpr short), alone]

theorem reading_unique {q r : Option Int} (h : Reading s pt q) (k : Reading s pt r) : q = r := by
  cases found : pointAt s pt.segment pt.offset with
  | none => rw [(reading_missing found q).mp h, (reading_missing found r).mp k]
  | some d =>
    rw [reading_found found] at h k
    split at h
    · next whole => rw [if_pos whole] at k; exact h.trans k.symm
    · next part =>
      rw [if_neg part] at k
      obtain ⟨m, isM, rfl⟩ := h
      obtain ⟨n, isN, rfl⟩ := k
      rw [isM.unique isN]

theorem pointAt_congr (content : contentOf t = contentOf s) : pointAt t = pointAt s := by
  funext segment x
  have held : heldHeader t = heldHeader s := by unfold heldHeader; rw [content]
  have blocks : heldBlock t = heldBlock s := by unfold heldBlock; rw [content]
  unfold pointAt
  rw [held, blocks]

theorem reading_congr (opu : t.opu = s.opu) (content : contentOf t = contentOf s) {r : Option Int}
    (h : Reading s pt r) : Reading t pt r := by
  have points := pointAt_congr content
  cases found : pointAt s pt.segment pt.offset with
  | none => exact (reading_missing (points ▸ found) r).mpr ((reading_missing found r).mp h)
  | some d =>
    rw [reading_found (s := t) (points ▸ found)]
    rw [reading_found found] at h
    split
    · next whole => rwa [if_pos whole] at h
    · next part =>
      rw [if_neg part] at h
      obtain ⟨n, isN, reads⟩ := h
      exact ⟨n, isN.congr opu content, reads⟩

/-- A curvature reading with nothing between its reads (R89, R93, R94). -/
theorem curvatureReading_reading (quiet : s.within = []) (sound : RouteFit s) (pt : RoutePoint) :
    Reading s pt (curvatureReading s pt).2 := by
  have read := (readPoint_reads s pt.segment pt.offset).quiet quiet
  have point := readPoint_snd quiet pt.segment pt.offset
  cases found : pointAt s pt.segment pt.offset with
  | none =>
    exact (reading_missing found _).mpr (curvatureReading_missing (point.trans found))
  | some d =>
    rw [reading_found found, curvatureReading_found (point.trans found)]
    split
    · rfl
    · have isN := neighbour_is (read.within.trans quiet) (read.routeFit sound) (pointAt_inside found)
      exact ⟨_, isN.congr read.opu.symm read.content.symm, rfl⟩

end

end Sys2Proof.Proofs

/-! SUPPORT. A computed channel (R89 to R99) when nothing comes between its reads: its gain, its curvature, its angle,
and what is written of it. -/

namespace Sys2Proof.Proofs

open Sys2Proof.Machine

/-! ## What a channel takes from the report and the tables (R83, R90, R96, R97) -/

/-- The gain class at an axle point, 0 where its sub-block is missing (R90). -/
def classAt (s : State) (pt : RoutePoint) : Nat :=
  match heldHeader s pt.segment with
  | none => 0
  | some h =>
    if h.length ≤ pt.offset then 0
    else ((heldBlock s pt.segment
      (Fin.ofNat 8 (pt.offset * 8192 / h.length / 1024))).map SubBlock.gainClass).getD 0

theorem classAt_eq (s : State) (pt : RoutePoint) :
    classAt s pt = ((pointAt s pt.segment pt.offset).map fun d => d.block.gainClass).getD 0 := by
  unfold classAt pointAt
  cases heldHeader s pt.segment with
  | none => rfl
  | some h =>
    dsimp only
    split
    · rfl
    · have block : readingScale pt.offset h.length / 256 / 4 = pt.offset * 8192 / h.length / 1024 := by
        rw [Nat.div_div_eq_div_mul, readingScale]
      rw [block]
      cases heldBlock s pt.segment (Fin.ofNat 8 (pt.offset * 8192 / h.length / 1024)) <;> rfl

/-- The speed band of the cycle (R83). -/
def bandNow (s : State) : Nat := speedBand s.tables.param s.opu.report.speed

/-- The gain schedule entry of a channel (R90). -/
def gainAt (s : State) (pt : RoutePoint) : GainEntry :=
  s.tables.gain[Fin.ofNat 16 (4 * bandNow s + classAt s pt)]

/-- The look-ahead distance of a channel (R90). -/
def reachAt (s : State) (pt : RoutePoint) : Nat :=
  lookAheadDistance s.opu.report.speed (gainAt s pt).lookAheadTime

/-- The record of a channel (R99), before the limit is known. -/
def recordAt (s : State) (pt : RoutePoint) (source : CurvatureSource) (curvature correction : Option Int) :
    ChannelRecord :=
  { source := source, curvature := curvature, band := some (bandNow s)
    gainClass := some (classAt s pt), lookAhead := some (reachAt s pt)
    correction := correction, limited := false }

/-- The feedforward angle of a curvature (R96). -/
def forwardOf (s : State) (semi : Nat) (sign curvature : Int) : Int :=
  let radial := sign * roundDiv ((semi : Int) * curvature) 100
  if (s.opu.report.position.map Located.confirmed).getD false = true then radial
  else roundDiv (radial * 3) 4

/-- The lateral correction of a channel (R97). -/
def correctionAt (s : State) (c : ChannelId) (pt : RoutePoint) : Option Int :=
  lateralCorrection s.sit.gap[c] (gainAt s pt).gain

/-! ## What is taken (R98, R99) -/

/-- An angle taken as a channel's last target, limited, with its record (R98, R99). -/
def Taken (s t : State) (c : ChannelId) (theta : Int) (record : ChannelRecord) : Prop :=
  let most : Int := s.tables.channel[c].thetaMax
  let acted : Bool := decide (theta < -most ∨ most < theta)
  t.slu.lastTarget[c] = max (-most) (min most theta) ∧
  t.slu.record[c] = { record with limited := acted } ∧
  (acted = true → t.flag .thetaClamp = true)

theorem limitAngle_eq (most : Nat) (theta : Int) :
    limitAngle most theta = max (-(most : Int)) (min (most : Int) theta) := by
  rw [limitAngle, limitInt_eq theta (by omega), min_comm]

theorem limitAngle_ne_iff (most : Nat) (theta : Int) :
    limitAngle most theta ≠ theta ↔ theta < -(most : Int) ∨ (most : Int) < theta := by
  rw [limitAngle_eq]
  omega

theorem limitAngle_natAbs (most : Nat) (theta : Int) : (limitAngle most theta).natAbs ≤ most := by
  rw [limitAngle_eq]
  omega

theorem writeChannel_taken (s : State) (c : ChannelId) (theta : Int) (record : ChannelRecord) :
    Taken s (writeChannel s c theta record) c theta record := by
  have acted : decide (limitAngle s.tables.channel[c].thetaMax theta ≠ theta) = decide
      (theta < -(s.tables.channel[c].thetaMax : Int) ∨ (s.tables.channel[c].thetaMax : Int) < theta) :=
    decide_eq_decide.mpr (limitAngle_ne_iff _ _)
  refine ⟨by simp [writeChannel_slu, limitAngle_eq], ?_, fun limited => ?_⟩
  · rw [writeChannel_slu, acted]
    simp
  · rw [writeChannel, State.flag_setFlagIf, acted, limited]
    simp

/-- What was taken stands while the channel's target and record stand and no flag is cleared. -/
theorem Taken.stands {s u t : State} {c : ChannelId} {theta : Int} {record : ChannelRecord}
    (h : Taken s u c theta record) (target : t.slu.lastTarget[c] = u.slu.lastTarget[c])
    (written : t.slu.record[c] = u.slu.record[c])
    (flags : ∀ f, u.flag f = true → t.flag f = true) : Taken s t c theta record :=
  ⟨target.trans h.1, written.trans h.2.1, fun acted => flags _ (h.2.2 acted)⟩

theorem Taken.of_tables {s u t : State} {c : ChannelId} {theta : Int} {record : ChannelRecord}
    (h : Taken u t c theta record) (tables : u.tables = s.tables) : Taken s t c theta record := by
  unfold Taken at h ⊢
  rwa [tables] at h

/-! ## A channel computed -/

/-- An angle taken from a curvature with its source (R96 to R99). -/
def Angled (s t : State) (semi : Nat) (sign : Int) (c : ChannelId) (pt : RoutePoint)
    (source : CurvatureSource) (curvature : Int) : Prop :=
  Taken s t c (forwardOf s semi sign curvature - (correctionAt s c pt).getD 0)
    (recordAt s pt source (some curvature) (correctionAt s c pt))

/-- A channel computed on what the cache holds: from the look-ahead point, else from the axle point, else with its
last target kept (R91, R92); `fell` says whether it fell back (R95). -/
def Steered (s t : State) (semi : Nat) (c : ChannelId) (sign : Int) (pt : RoutePoint) (fell : Bool) : Prop :=
  ∃ stop ahead back, Walks s pt.place pt.segment pt.offset (reachAt s pt) stop ∧
    (stop = none → ahead = none) ∧ (∀ x, stop = some x → Reading s x ahead) ∧
    Reading s pt back ∧ fell = ahead.isNone ∧
    (∀ k, ahead = some k → Angled s t semi sign c pt .lookAhead k) ∧
    (∀ k, ahead = none → back = some k → Angled s t semi sign c pt .axle k) ∧
    (ahead = none → back = none → Taken s t c s.slu.lastTarget[c] (recordAt s pt .held none none))

theorem feedforward_report (s : State) (semi : Nat) (sign curvature : Int) :
    feedforward sign semi curvature ((s.opu.report.position.map Located.confirmed).getD false) =
      forwardOf s semi sign curvature := rfl

section

variable {s w : State} {c : ChannelId} {semi : Nat} {axle : RoutePoint} (quiet : s.within = [])
include quiet

/-- A channel computed, with what it takes from the report, the tables and the axle point named. -/
theorem computeChannel_eq : computeChannel s c semi axle =
    let found := channelCurvature (readPoint s axle.segment axle.offset).1 axle (reachAt s axle)
    found.2.1.elim (keepChannel found.1 c (recordAt s axle found.2.2 none none), true) fun kappa =>
      (writeChannel found.1 c (forwardOf s semi (channelSign c) kappa - (correctionAt s c axle).getD 0)
        (recordAt s axle found.2.2 (some kappa) (correctionAt s c axle)),
        decide (found.2.2 ≠ .lookAhead)) := by
  have cls := classAt_eq s axle
  rw [← readPoint_snd quiet] at cls
  have confirmed := feedforward_report s semi (channelSign c)
  cases read : (readPoint s axle.segment axle.offset).2 with
  | none =>
    replace cls : classAt s axle = 0 := by rw [cls, read]; rfl
    simp only [computeChannel, read, recordAt, correctionAt, reachAt, gainAt, bandNow, cls, ← confirmed]
    generalize channelCurvature _ _ _ = found
    obtain ⟨w, _ | kappa, source⟩ := found
    · rfl
    · cases s.opu.report.position <;> rfl
  | some d =>
    replace cls : classAt s axle = d.block.gainClass := by rw [cls, read]; rfl
    simp only [computeChannel, read, recordAt, correctionAt, reachAt, gainAt, bandNow, cls, ← confirmed]
    generalize channelCurvature _ _ _ = found
    obtain ⟨w, _ | kappa, source⟩ := found
    · rfl
    · cases s.opu.report.position <;> rfl

/-- A channel with a curvature found takes the angle of R96 and R97. -/
theorem computeChannel_angle {k : Int} {source : CurvatureSource}
    (found : channelCurvature (readPoint s axle.segment axle.offset).1 axle (reachAt s axle) =
      (w, some k, source)) :
    computeChannel s c semi axle =
      (writeChannel w c (forwardOf s semi (channelSign c) k - (correctionAt s c axle).getD 0)
        (recordAt s axle source (some k) (correctionAt s c axle)), decide (source ≠ .lookAhead)) := by
  rw [computeChannel_eq quiet, found]
  rfl

/-- A channel with no curvature found keeps its last target (R92). -/
theorem computeChannel_held {source : CurvatureSource}
    (found : channelCurvature (readPoint s axle.segment axle.offset).1 axle (reachAt s axle) =
      (w, none, source)) :
    computeChannel s c semi axle =
      (writeChannel w c w.slu.lastTarget[c] (recordAt s axle source none none), true) := by
  rw [computeChannel_eq quiet, found]
  rfl

omit quiet in
theorem aheadReading_keeps (distance : Nat) :
    (aheadReading s axle distance).1.tables = s.tables ∧ (aheadReading s axle distance).1.slu = s.slu := by
  unfold aheadReading
  split <;> simp [walk_keeps_any]

theorem aheadReading_reading (sound : RouteFit s) {distance : Nat} {x : RoutePoint}
    (stop : (walk .steering s axle distance).stop = some x) :
    Reading s x (aheadReading s axle distance).2 := by
  have walked := (walk_reads s axle distance).quiet quiet
  have reading := curvatureReading_reading (walked.within.trans quiet) (walked.routeFit sound) x
  unfold aheadReading
  rw [stop]
  exact reading_congr walked.opu.symm walked.content.symm reading

/-- A channel is computed as R91 to R99 say; the second part says whether it fell back (R95). -/
theorem computeChannel_steered (sound : RouteFit s) :
    Steered s (computeChannel s c semi axle).1 semi c (channelSign c) axle
      (computeChannel s c semi axle).2 := by
  have read := (readPoint_reads s axle.segment axle.offset).quiet quiet
  have looked := (aheadReading_reads (readPoint s axle.segment axle.offset).1 axle
    (reachAt s axle)).quiet (read.within.trans quiet)
  have reached := read.trans looked
  have route := stretch_congr (s := s) read.opu (congrArg (fun f n => (f n).map Content.header) read.content)
  have walks := walk_steering_walks (read.within.trans quiet) (read.routeFit sound) axle (reachAt s axle)
  have backReads := curvatureReading_reading (reached.within.trans quiet) (reached.routeFit sound) axle
  refine ⟨_, (aheadReading (readPoint s axle.segment axle.offset).1 axle (reachAt s axle)).2, _,
    walks_congr route.symm walks, fun missed => ?_, fun x stop => ?_,
    reading_congr reached.opu.symm reached.content.symm backReads, ?_⟩
  · unfold aheadReading
    rw [missed]
  · exact reading_congr read.opu.symm read.content.symm
      (aheadReading_reading (read.within.trans quiet) (read.routeFit sound) stop)
  cases ahead : (aheadReading (readPoint s axle.segment axle.offset).1 axle (reachAt s axle)).2 with
  | some k =>
    rw [computeChannel_angle quiet (channelCurvature_ahead ahead)]
    refine ⟨rfl, fun k' same => ?_, nofun, nofun⟩
    cases same
    exact (writeChannel_taken ..).of_tables (by simp [aheadReading_keeps])
  | none =>
    have found := channelCurvature_back ahead
    cases back : (curvatureReading
        (aheadReading (readPoint s axle.segment axle.offset).1 axle (reachAt s axle)).1 axle).2 with
    | some k =>
      rw [back] at found
      rw [computeChannel_angle quiet found]
      refine ⟨rfl, nofun, fun k' _ same => ?_, nofun⟩
      cases same
      exact (writeChannel_taken ..).of_tables (by simp [aheadReading_keeps])
    | none =>
      rw [back] at found
      rw [computeChannel_held quiet found]
      refine ⟨rfl, nofun, nofun, fun _ _ => ?_⟩
      have taken := writeChannel_taken (curvatureReading (aheadReading
        (readPoint s axle.segment axle.offset).1 axle (reachAt s axle)).1 axle).1 c s.slu.lastTarget[c]
        (recordAt s axle .held none none)
      simpa [aheadReading_keeps] using taken.of_tables (s := s) (by simp [aheadReading_keeps])

end

/-! ## What a computed channel rests on -/

section

variable {s u t : State} {semi : Nat} {c : ChannelId} {sign : Int} {pt : RoutePoint} {fell : Bool}

theorem classAt_congr (content : contentOf u = contentOf s) : classAt u pt = classAt s pt := by
  have points := pointAt_congr content
  rw [classAt_eq, classAt_eq, points]

/-- The second channel of a bogie finds what the first one found (R87). -/
theorem Steered.of_quiet (h : Steered u t semi c sign pt fell) (same : Quiet s u)
    (tables : u.tables = s.tables) (sit : u.sit = s.sit)
    (target : u.slu.lastTarget[c] = s.slu.lastTarget[c]) : Steered s t semi c sign pt fell := by
  have cls : classAt u pt = classAt s pt := classAt_congr same.content
  have gain : gainAt u pt = gainAt s pt := by simp only [gainAt, bandNow, cls, tables, same.opu]
  have reach : reachAt u pt = reachAt s pt := by rw [reachAt, reachAt, gain, same.opu]
  have record : recordAt u pt = recordAt s pt := by
    unfold recordAt bandNow
    rw [cls, reach, tables, same.opu]
  have angled {source : CurvatureSource} {k : Int} (a : Angled u t semi sign c pt source k) :
      Angled s t semi sign c pt source k := by
    unfold Angled forwardOf correctionAt at a ⊢
    rw [record, gain, same.opu, sit] at a
    exact a.of_tables tables
  have route := stretch_congr same.opu (congrArg (fun f n => (f n).map Content.header) same.content)
  obtain ⟨stop, ahead, back, walks, missed, found, backReads, fallen, first, second, held⟩ := h
  rw [reach] at walks
  rw [record, target] at held
  exact ⟨stop, ahead, back, walks_congr route.symm walks, missed,
    fun x at_ => reading_congr same.opu.symm same.content.symm (found x at_),
    reading_congr same.opu.symm same.content.symm backReads, fallen,
    fun k at_ => angled (first k at_), fun k missing at_ => angled (second k missing at_),
    fun missing none_ => (held missing none_).of_tables tables⟩

/-- What was computed stands while the channel's target and record stand and no flag is cleared. -/
theorem Steered.stands (h : Steered s u semi c sign pt fell)
    (target : t.slu.lastTarget[c] = u.slu.lastTarget[c]) (written : t.slu.record[c] = u.slu.record[c])
    (flags : ∀ f, u.flag f = true → t.flag f = true) : Steered s t semi c sign pt fell := by
  obtain ⟨stop, ahead, back, walks, missed, found, backReads, fallen, first, second, held⟩ := h
  exact ⟨stop, ahead, back, walks, missed, found, backReads, fallen,
    fun k at_ => (first k at_).stands target written flags,
    fun k missing at_ => (second k missing at_).stands target written flags,
    fun missing none_ => (held missing none_).stands target written flags⟩

end

end Sys2Proof.Proofs

/-! SUPPORT. A fill that comes after the look-ahead walk has missed (R92, R102): the lookups before it change neither
the way that it takes nor what it writes, so that the second reading finds it. -/

namespace Sys2Proof.Proofs

open Sys2Proof.Machine

/-! ## The ways after a fill (R61 to R63) -/

theorem writeLine_ways (s : State) (i : Fin 64) (w : Fin 2) (l : Line) (j : Fin 64) :
    (writeLine s i w l).sgc.sets[j].ways =
      if j = i then s.sgc.sets[i].ways.set w.val (some l) else s.sgc.sets[j].ways := by
  split
  · next same => rw [same, writeLine, setCacheSet_same]; rfl
  · next other => rw [writeLine, setCacheSet_other s _ other]

/-- A fill leaves the ways as they stand, or writes a line of its segment into one way of its set. -/
theorem placeFill_ways (s : State) (f : SegmentFill) :
    (∀ j : Fin 64, (placeFill s f).sgc.sets[j].ways = s.sgc.sets[j].ways) ∨
    ∃ (w : Fin 2) (c : Content), ∀ j : Fin 64, (placeFill s f).sgc.sets[j].ways =
      if j = setIndex f.segment then
        s.sgc.sets[setIndex f.segment].ways.set w.val (some { tag := tagOf f.segment, content := some c })
      else s.sgc.sets[j].ways := by
  obtain ⟨w, held, present⟩ | absent := placeFill_cases s f
  · refine .inr ⟨w, filledContent held f, fun j => ?_⟩
    rw [present, fillPresent_sgc, deliverItems_sets, writeLine_ways]
  · rw [absent]
    cases victim : victimWay s (setIndex f.segment) with
    | none => exact .inl fun j => by rw [fillAbsent_conflict f victim]; simp
    | some w =>
      refine .inr ⟨w, filledContent none f, fun j => ?_⟩
      rw [fillAbsent_victim f victim, deliverItems_sets, writeLine_ways]

/-- What is held of a segment stands in a way with its tag (R55). -/
theorem contentOf_some_iff {s : State} (sound : CacheSound s.sgc.sets) {n : Nat} {c : Content} :
    contentOf s n = some c ↔ ∃ (w : Fin 2) (l : Line), s.sgc.sets[setIndex n].ways[w] = some l ∧
      l.tag = n / 64 ∧ l.content = some c := by
  constructor
  · intro held
    cases found : findWay (cacheSetOf s n) (tagOf n) with
    | none => simp [contentOf, lineOf, found] at held
    | some w =>
      obtain ⟨l, here, tag⟩ := (wayHolds_iff _ w _).mp (wayHolds_of_findWay found)
      refine ⟨w, l, here, tag, ?_⟩
      simpa only [contentOf, lineOf, found, here] using held
  · rintro ⟨w, l, here, tag, content⟩
    rw [contentOf_of_first here tag fun v before => ?_, content]
    obtain rfl : v = 0 := by omega
    obtain rfl : w = 1 := by omega
    rintro ⟨m, there, same⟩
    exact (sound (setIndex n)).2 m l there here (same.trans tag.symm)

theorem segment_eq_of_tag {m n : Nat} (index : setIndex m = setIndex n) (tag : m / 64 = n / 64) : m = n := by
  have rest : m % 64 = n % 64 := congrArg Fin.val index
  omega

/-- A fill makes no other segment held. -/
theorem contentOf_placeFill_other {s : State} {f : SegmentFill} {n : Nat} {c : Content}
    (sound : CacheSound s.sgc.sets) (after : CacheSound (placeFill s f).sgc.sets) (other : n ≠ f.segment)
    (held : contentOf (placeFill s f) n = some c) : contentOf s n = some c := by
  obtain ⟨v, l, here, tag, content⟩ := (contentOf_some_iff after).mp held
  refine (contentOf_some_iff sound).mpr ⟨v, l, ?_, tag, content⟩
  obtain stands | ⟨w, written, ways⟩ := placeFill_ways s f
  · rwa [stands] at here
  · rw [ways] at here
    split at here
    · next index =>
      by_cases own : w = v
      · subst own
        have line : l.tag = f.segment / 64 := by
          rw [← Option.some_inj.mp ((Vector.getElem_set_self w.isLt).symm.trans here)]
          rfl
        exact absurd (segment_eq_of_tag index (tag.symm.trans line)) other
      · have apart : w.val ≠ v.val := fun h => own (Fin.ext h)
        have set_ : s.sgc.sets[setIndex n].ways = s.sgc.sets[setIndex f.segment].ways := by simp only [index]
        rw [set_]
        simpa [Vector.getElem_set_ne, apart] using here
    · exact here

/-! ## Lookups of one segment before a fill -/

/-- Lookups of segment `n` alone: where it is not present they do not touch the directory. -/
structure LooksFor (n : Nat) (s t : State) : Prop where
  opu : t.opu = s.opu := by simp
  mrh : t.mrh = s.mrh := by simp
  own : t.rpu.own = s.rpu.own := by simp
  inUse : t.sgc.inUse = s.sgc.inUse := by simp
  ways : ∀ i : Fin 64, t.sgc.sets[i].ways = s.sgc.sets[i].ways := by simp
  sets : findWay (cacheSetOf s n) (tagOf n) = none → t.sgc.sets = s.sgc.sets

theorem LooksFor.trans {n : Nat} {s t u : State} (h : LooksFor n s t) (k : LooksFor n t u) :
    LooksFor n s u where
  opu := k.opu.trans h.opu
  mrh := k.mrh.trans h.mrh
  own := k.own.trans h.own
  inUse := k.inUse.trans h.inUse
  ways i := (k.ways i).trans (h.ways i)
  sets absent := by
    have still : findWay (cacheSetOf t n) (tagOf n) = none :=
      (findWay_congr (h.ways (setIndex n)) _).trans absent
    exact (k.sets still).trans (h.sets absent)

theorem setWithin_looksFor (n : Nat) (s : State) (x : List (List Arrival)) :
    LooksFor n s (s.setWithin x) where
  sets _ := rfl

theorem makeNeed_own (s : State) (n : Need) : (makeNeed s n).rpu.own = s.rpu.own := by
  have offered (u : State) (m : Need) : (offerFetch u m).rpu.own = u.rpu.own := by
    unfold offerFetch offerOther
    (repeat' split) <;> simp [freeFetch]
  unfold makeNeed
  (repeat' split) <;> simp [offered]

theorem LooksFor.setFlagIf {n : Nat} {s t : State} (h : LooksFor n s t) (c : Bool) (f : Flag) :
    LooksFor n (s.setFlagIf c f) (t.setFlagIf c f) where
  opu := by simpa using h.opu
  mrh := by simpa using h.mrh
  own := by simpa using h.own
  inUse := by simpa using h.inUse
  ways := by simpa using h.ways
  sets := by simpa [cacheSetOf] using h.sets

theorem touchSegment_inUse (s : State) (n : Nat) : (touchSegment s n).sgc.inUse = s.sgc.inUse := by
  unfold touchSegment
  split <;> rfl

theorem lookupHeader_looksFor (n : Nat) (s : State) : LooksFor n s (lookupHeader true s n).1 where
  own := by
    simp only [lookupHeader]
    split <;> simp [makeNeed_own]
  inUse := by
    simp only [lookupHeader]
    split <;> simp [touchSegment_inUse]
  ways := (lookupHeader_proceeds s true n).ways
  sets absent := by
    have untouched : touchSegment s n = s := by simp only [touchSegment, absent]
    simp only [lookupHeader, untouched]
    split <;> simp

theorem placeFill_of_findWay {s : State} {f : SegmentFill} {w : Fin 2}
    (found : findWay (cacheSetOf s f.segment) (tagOf f.segment) = some w) :
    placeFill s f = fillPresent s (setIndex f.segment) w (contentOf s f.segment) f := by
  rw [cacheSetOf] at found
  simp only [placeFill, found]

theorem placeFill_of_findWay_none {s : State} {f : SegmentFill}
    (absent : findWay (cacheSetOf s f.segment) (tagOf f.segment) = none) :
    placeFill s f = fillAbsent s (setIndex f.segment) f := by
  rw [cacheSetOf] at absent
  simp only [placeFill, absent]

/-- A fill of the segment looked for takes the way that it would take without the lookups. -/
theorem placeFill_looksFor {f : SegmentFill} {s t : State} (h : LooksFor f.segment s t) (j : Fin 64) :
    (placeFill t f).sgc.sets[j].ways = (placeFill s f).sgc.sets[j].ways := by
  have same : findWay (cacheSetOf t f.segment) (tagOf f.segment) =
      findWay (cacheSetOf s f.segment) (tagOf f.segment) := findWay_congr (h.ways _) _
  cases found : findWay (cacheSetOf s f.segment) (tagOf f.segment) with
  | some w =>
    rw [placeFill_of_findWay found, placeFill_of_findWay (same.trans found)]
    rw [fillPresent_sgc, fillPresent_sgc, deliverItems_sets, deliverItems_sets, writeLine_ways,
      writeLine_ways, h.ways, h.ways, contentOf_congr h.ways]
  | none =>
    have sets := h.sets found
    have victim : victimWay t (setIndex f.segment) = victimWay s (setIndex f.segment) := by
      unfold victimWay wayInUse
      rw [sets, h.inUse]
    rw [placeFill_of_findWay_none found, placeFill_of_findWay_none (same.trans found)]
    cases chosen : victimWay s (setIndex f.segment) with
    | none =>
      rw [fillAbsent_conflict f chosen, fillAbsent_conflict f (victim.trans chosen)]
      simpa using h.ways j
    | some w =>
      rw [fillAbsent_victim f chosen, fillAbsent_victim f (victim.trans chosen), deliverItems_sets,
        deliverItems_sets, writeLine_ways, writeLine_ways, h.ways, h.ways]

theorem takeArrival_segment_keeps (s : State) (d : Delivery) :
    (takeArrival s (.segment d)).opu = s.opu ∧ (takeArrival s (.segment d)).mrh = s.mrh := by
  simp only [takeArrival]
  split <;> simp

/-- A segment that a SEGMENT frame makes held is held alike with lookups of it before the frame. -/
theorem takeArrival_looksFor {n : Nat} {s t : State} (h : LooksFor n s t) (sound : CacheSound s.sgc.sets)
    (d : Delivery) (missing : contentOf s n = none) {c : Content}
    (filled : contentOf (takeArrival s (.segment d)) n = some c) :
    contentOf (takeArrival t (.segment d)) = contentOf (takeArrival s (.segment d)) := by
  have after := sound.takeArrival (.segment d)
  have repeater : forwardOnly t = forwardOnly s := by rw [forwardOnly, forwardOnly, h.own]
  simp only [takeArrival, repeater] at filled after ⊢
  split
  · next idle => simp [idle, missing] at filled
  · next works =>
    rw [if_neg works] at filled after
    cases fill : segmentFill d.payload with
    | none =>
      rw [handleSegment_rejected fill] at filled
      have same : contentOf (s.setFlag .rxReject) n = contentOf s n := contentOf_congr (by simp) n
      simp [same, missing] at filled
    | some f =>
      rw [handleSegment_accepted fill] at filled after ⊢
      rw [handleSegment_accepted fill]
      obtain rfl : n = f.segment := by
        by_contra other
        have before := contentOf_placeFill_other (by simpa using sound) after other filled
        have same : contentOf (s.setFlagIf f.clamped .valueClamp) n = contentOf s n :=
          contentOf_congr (by simp) n
        simp [same, missing] at before
      exact funext (contentOf_congr (placeFill_looksFor (h.setFlagIf f.clamped .valueClamp)))

/-! ## A SEGMENT frame before the second reading (R92, R102) -/

theorem readPoint_taken {w a : State} (taken : takeWithin w = a) (quiet : a.within = []) :
    readPoint w = readPoint a := by
  funext n x
  have header : steeringHeader w n = steeringHeader a n := by
    rw [steeringHeader_quiet quiet, steeringHeader, taken]
  simp only [readPoint, header]

theorem curvatureReading_taken {w a : State} (taken : takeWithin w = a) (quiet : a.within = []) :
    curvatureReading w = curvatureReading a := by
  funext pt
  simp only [curvatureReading, readPoint_taken taken quiet]

/-- A header read before which nothing comes, with something to come later. -/
theorem steeringHeader_later {s : State} {later : List (List Arrival)} (empty : s.within = [] :: later)
    (n : Nat) : steeringHeader s n = lookupHeader true (s.setWithin later) n := by
  simp only [steeringHeader, takeWithin, empty, List.foldl_nil]

/-- What the first reading of a channel and its look-ahead walk leave when the header read is not held: the two
lookups, and the same header not held. -/
structure Missed (n : Nat) (s t : State) (later : List (List Arrival)) : Prop where
  looks : LooksFor n s t
  within : t.within = later
  none_ : contentOf t n = none

theorem steeringHeader_missed {s : State} {n : Nat} {later : List (List Arrival)}
    (empty : s.within = [] :: later) (missing : contentOf s n = none) :
    Missed n s (steeringHeader s n).1 later ∧ (steeringHeader s n).2 = none := by
  have same : contentOf (s.setWithin later) n = contentOf s n := contentOf_congr (fun _ => rfl) n
  have looks := (setWithin_looksFor n s later).trans (lookupHeader_looksFor n (s.setWithin later))
  rw [steeringHeader_later empty]
  refine ⟨⟨looks, by simp, (contentOf_congr looks.ways n).trans missing⟩, ?_⟩
  rw [lookupHeader_snd, heldHeader, same, missing]
  rfl

theorem readPoint_missed {s : State} {n x : Nat} {later : List (List Arrival)}
    (empty : s.within = [] :: later) (missing : contentOf s n = none) :
    Missed n s (readPoint s n x).1 later := by
  obtain ⟨missed, header⟩ := steeringHeader_missed empty missing
  have same : (readPoint s n x).1 = (steeringHeader s n).1 := by simp only [readPoint, header]
  rwa [same]

theorem aheadReading_missed {s : State} {axle : RoutePoint} (current : axle.place = .current)
    {later : List (List Arrival)} (empty : s.within = [] :: later)
    (missing : contentOf s axle.segment = none) (distance : Nat) :
    Missed axle.segment s (aheadReading s axle distance).1 later ∧
      (aheadReading s axle distance).2 = none := by
  obtain ⟨missed, header⟩ := steeringHeader_missed empty missing
  have walked : walk .steering s axle distance =
      { state := (steeringHeader s axle.segment).1, stop := none
        visited := [{ segment := axle.segment, entered := 0 }] } := by
    rw [walk, walkFuel, current]
    unfold walkFrom
    simp only [Walker.header, header]
  rw [aheadReading, walked]
  exact ⟨missed, rfl⟩

/-- A SEGMENT frame that comes after the look-ahead walk has missed makes the reading at the axle point succeed
(R92, R102). -/
theorem channelCurvature_filled {s : State} (sound : RouteFit s) {axle : RoutePoint} {d : Delivery}
    (current : axle.place = .current) (within : s.within = [[], [], [.segment d]])
    (missing : contentOf s axle.segment = none) {k : Int}
    (reads : Reading (takeArrival s (.segment d)) axle (some k)) (distance : Nat) :
    let found := channelCurvature (readPoint s axle.segment axle.offset).1 axle distance
    found.2 = (some k, .axle) ∧ found.1.within = [] := by
  have first := readPoint_missed (x := axle.offset) within missing
  obtain ⟨second, ahead⟩ := aheadReading_missed current first.within first.none_ distance
  have held : ∃ c, contentOf (takeArrival s (.segment d)) axle.segment = some c := by
    refine Option.ne_none_iff_exists'.mp fun none_ => ?_
    have point : pointAt (takeArrival s (.segment d)) axle.segment axle.offset = none := by
      simp [pointAt, heldHeader, none_]
    exact nomatch (reading_missing point (some k)).mp reads
  obtain ⟨c, filled⟩ := held
  rw [channelCurvature_back ahead]
  generalize (aheadReading (readPoint s axle.segment axle.offset).1 axle distance).1 = v at second
  have looks := first.looks.trans (second.looks.trans (setWithin_looksFor axle.segment v []))
  have taken : takeWithin v = takeArrival (v.setWithin []) (.segment d) := by
    simp only [takeWithin, second.within, List.foldl_cons, List.foldl_nil]
  have quiet : (takeArrival (v.setWithin []) (.segment d)).within = [] := by simp
  have fit : RouteFit (takeArrival (v.setWithin []) (.segment d)) :=
    sound.of_parts ((sound.cache.of_ways looks.ways).takeArrival _)
      (by rw [(takeArrival_segment_keeps ..).1, looks.opu]; exact sound.trail)
      (by rw [(takeArrival_segment_keeps ..).2, looks.mrh])
  have reading := curvatureReading_reading quiet fit axle
  have opu : (takeArrival (v.setWithin []) (.segment d)).opu = (takeArrival s (.segment d)).opu := by
    rw [(takeArrival_segment_keeps ..).1, (takeArrival_segment_keeps ..).1, looks.opu]
  have content := takeArrival_looksFor looks sound.cache d missing filled
  have same := reading_unique reading (reading_congr opu content reads)
  have after := (curvatureReading_reads (takeArrival (v.setWithin []) (.segment d)) axle).quiet quiet
  rw [curvatureReading_taken taken quiet, same]
  exact ⟨rfl, after.within.trans quiet⟩

/-- A channel whose curvature was found at its axle point: its record says so, and it fell back (R92, R95, R99). -/
theorem computeChannel_axle {s : State} {c : ChannelId} {semi : Nat} {axle : RoutePoint} {k : Int}
    (found : ∀ distance, let found := channelCurvature (readPoint s axle.segment axle.offset).1 axle distance
      found.2 = (some k, .axle) ∧ found.1.within = []) :
    (computeChannel s c semi axle).1.within = [] ∧ (computeChannel s c semi axle).2 = true ∧
    (computeChannel s c semi axle).1.slu.record[c].source = .axle ∧
    (computeChannel s c semi axle).1.slu.record[c].curvature = some k := by
  unfold computeChannel
  dsimp only
  generalize lookAheadDistance _ _ = distance
  obtain ⟨result, within⟩ := found distance
  generalize channelCurvature _ _ _ = f at result within
  obtain ⟨u, _⟩ := f
  subst result
  simpa [writeChannel_slu] using within

end Sys2Proof.Proofs

/-! SUPPORT. The state, targets and records of an enabled bogie in ACTIVE (R84, R87 to R101): each way of a
determination by what it writes, and what the hand-off keeps of it. -/

namespace Sys2Proof.Proofs

open Sys2Proof.Machine

/-! ## One channel written at a time -/

/-- Only channel `c`'s last target and record may have changed of what is stored of bogies and channels. -/
structure WritesOnly (c : ChannelId) (s t : State) : Prop where
  states : t.slu.bogieState = s.slu.bogieState
  target : ∀ d : ChannelId, d ≠ c → t.slu.lastTarget[d] = s.slu.lastTarget[d]
  record : ∀ d : ChannelId, d ≠ c → t.slu.record[d] = s.slu.record[d]

section

variable (s : State) (c : ChannelId)

theorem writeChannel_only (theta : Int) (record : ChannelRecord) :
    WritesOnly c s (writeChannel s c theta record) where
  states := by simp [writeChannel_slu]
  target d other := by simp [writeChannel_slu, Vector.getElem_set_ne, Fin.val_ne_of_ne other.symm]
  record d other := by simp [writeChannel_slu, Vector.getElem_set_ne, Fin.val_ne_of_ne other.symm]

theorem zeroChannel_only : WritesOnly c s (zeroChannel s c) where
  states := rfl
  target d other := by simp [zeroChannel, Vector.getElem_set_ne, Fin.val_ne_of_ne other.symm]
  record d other := by simp [zeroChannel, Vector.getElem_set_ne, Fin.val_ne_of_ne other.symm]

theorem emptyRecord_only : WritesOnly c s (emptyRecord s c) where
  states := rfl
  target _ _ := rfl
  record d other := by simp [emptyRecord, Vector.getElem_set_ne, Fin.val_ne_of_ne other.symm]

theorem computeChannel_only (semi : Nat) (axle : RoutePoint) :
    WritesOnly c s (computeChannel s c semi axle).1 := by
  obtain ⟨u, theta, record, writes, -, slu, -⟩ := computeChannel_writes s c semi axle
  have only := writeChannel_only u c theta record
  rw [writes]
  exact ⟨slu ▸ only.states, slu ▸ only.target, slu ▸ only.record⟩

theorem computeChannel_natAbs (semi : Nat) (axle : RoutePoint) :
    ((computeChannel s c semi axle).1.slu.lastTarget[c]).natAbs ≤ s.tables.channel[c].thetaMax := by
  obtain ⟨u, theta, record, writes, -, -, tables⟩ := computeChannel_writes s c semi axle
  rw [writes, writeChannel_slu, tables]
  simpa using limitAngle_natAbs _ theta

end

theorem Taken.natAbs {s t : State} {c : ChannelId} {theta : Int} {record : ChannelRecord}
    (h : Taken s t c theta record) : (t.slu.lastTarget[c]).natAbs ≤ s.tables.channel[c].thetaMax := by
  rw [h.1, ← limitAngle_eq]
  exact limitAngle_natAbs _ theta

/-- A determination writes the leading channel, then the trailing one, then the bogie's state (R87). -/
theorem determine_writes (s : State) (b : BogieId) : ∃ u v state, determine s b = storeBogieState v b state ∧
    WritesOnly (leadOf b) s u ∧ WritesOnly (trailOf b) u v := by
  unfold determine
  dsimp only
  split
  · exact ⟨_, _, _, rfl, zeroChannel_only .., zeroChannel_only ..⟩
  split
  · exact ⟨_, _, _, rfl, emptyRecord_only .., emptyRecord_only ..⟩
  split
  · exact ⟨_, _, _, rfl, writeChannel_only .., writeChannel_only ..⟩
  split
  · exact ⟨_, _, _, rfl, computeChannel_only .., computeChannel_only ..⟩
  · exact ⟨_, _, _, rfl, zeroChannel_only .., zeroChannel_only ..⟩

theorem storeBogieState_slu (s : State) (b : BogieId) (state : BogieState) :
    (storeBogieState s b state).slu = { s.slu with bogieState := s.slu.bogieState.set b.val state } := by
  simp [storeBogieState]

theorem determine_channel_other (s : State) {b : BogieId} {c : ChannelId} (lead : c ≠ leadOf b)
    (trail : c ≠ trailOf b) : (determine s b).slu.lastTarget[c] = s.slu.lastTarget[c] ∧
      (determine s b).slu.record[c] = s.slu.record[c] := by
  obtain ⟨u, v, state, is, first, second⟩ := determine_writes s b
  rw [is, storeBogieState_slu]
  exact ⟨(second.target c trail).trans (first.target c lead),
    (second.record c trail).trans (first.record c lead)⟩

theorem determine_state_other (s : State) {b c : BogieId} (other : c ≠ b) :
    (determine s b).slu.bogieState[c] = s.slu.bogieState[c] := by
  obtain ⟨u, v, state, is, first, second⟩ := determine_writes s b
  rw [is, storeBogieState_slu]
  simp [Vector.getElem_set_ne, Fin.val_ne_of_ne other.symm, second.states, first.states]

/-! ## What each way writes (R87 to R101) -/

/-- What was taken of a channel stands when another channel is written and the state is stored. -/
theorem Taken.stored {s u v : State} {b : BogieId} {c d : ChannelId} {theta : Int} {record : ChannelRecord}
    (h : Taken s u c theta record) (only : WritesOnly d u v) (other : c ≠ d)
    (flags : ∀ f, u.flag f = true → v.flag f = true) (state : BogieState) :
    Taken s (storeBogieState v b state) c theta record :=
  h.stands (by rw [storeBogieState_slu, only.target c other]) (by rw [storeBogieState_slu, only.record c other])
    fun f set_ => (storeBogieState_quiet v b state).flags f (flags f set_)

section

variable {s : State} {b : BogieId} (enabled : s.tables.bogie[b].enabled = true) (active : s.sdu.part = .active)
include enabled active

theorem determine_excluded_slu (excluded : bogieExcluded s b = true) : (determine s b).slu = { s.slu with
    bogieState := s.slu.bogieState.set b.val .excluded
    record := (s.slu.record.set (leadOf b).val ChannelRecord.emptied).set (trailOf b).val
      ChannelRecord.emptied } := by
  simp [determine_excluded enabled active excluded, storeBogieState_slu, emptyRecord]

variable (admitted : bogieExcluded s b = false)
include admitted

theorem determine_frozen_taken (still : s.opu.report.standstill = true) :
    (determine s b).slu.bogieState[b] = .frozen ∧
    Taken s (determine s b) (leadOf b) s.slu.lastTarget[leadOf b] ChannelRecord.emptied ∧
    Taken s (determine s b) (trailOf b) s.slu.lastTarget[trailOf b] ChannelRecord.emptied := by
  have apart := leadOf_ne_trailOf b b
  rw [determine_frozen enabled active admitted still]
  unfold keepChannel
  have first := writeChannel_only s (leadOf b) s.slu.lastTarget[leadOf b] ChannelRecord.emptied
  have lead := writeChannel_taken s (leadOf b) s.slu.lastTarget[leadOf b] ChannelRecord.emptied
  generalize u_def : writeChannel s (leadOf b) s.slu.lastTarget[leadOf b] ChannelRecord.emptied = u at first lead
  have tables : u.tables = s.tables := by simp [← u_def]
  rw [first.target (trailOf b) apart.symm]
  have trail := writeChannel_taken u (trailOf b) s.slu.lastTarget[trailOf b] ChannelRecord.emptied
  refine ⟨by simp [storeBogieState_slu], lead.stored (writeChannel_only ..) apart
    (writeChannel_quiet ..).flags _, ?_⟩
  exact (trail.of_tables tables).stands (by rw [storeBogieState_slu]) (by rw [storeBogieState_slu])
    (storeBogieState_quiet ..).flags

variable (moving : s.opu.report.standstill = false)
include moving

theorem determine_passive_slu (unplaced : s.opu.report.position = none ∨
      s.opu.report.axle[leadOf b] = none ∨ s.opu.report.axle[trailOf b] = none) :
    (determine s b).slu = { s.slu with
      bogieState := s.slu.bogieState.set b.val .passive
      lastTarget := (s.slu.lastTarget.set (leadOf b).val 0).set (trailOf b).val 0
      record := (s.slu.record.set (leadOf b).val ChannelRecord.emptied).set (trailOf b).val
        ChannelRecord.emptied } := by
  simp [determine_passive enabled active admitted moving unplaced, storeBogieState_slu, zeroChannel]

end

/-- Whether a channel of the bogie fell back (R95). -/
def fellBack (s : State) (b : BogieId) (lead trail : RoutePoint) : Bool :=
  (leadComputed s b lead).2 || (bothComputed s b lead trail).2

/-- A bogie that is neither EXCLUDED nor FROZEN is PASSIVE, or its channels are computed (R87). -/
theorem determine_moving {s : State} {b : BogieId} (enabled : s.tables.bogie[b].enabled = true)
    (active : s.sdu.part = .active) (admitted : bogieExcluded s b = false)
    (moving : s.opu.report.standstill = false) :
    (determine s b).slu = { s.slu with
      bogieState := s.slu.bogieState.set b.val .passive
      lastTarget := (s.slu.lastTarget.set (leadOf b).val 0).set (trailOf b).val 0
      record := (s.slu.record.set (leadOf b).val ChannelRecord.emptied).set (trailOf b).val
        ChannelRecord.emptied } ∨
    ∃ lead trail, determine s b = storeBogieState (bothComputed s b lead trail).1 b
      (if fellBack s b lead trail then .degraded else .tracking) := by
  by_cases unplaced : s.opu.report.position = none ∨
    s.opu.report.axle[leadOf b] = none ∨ s.opu.report.axle[trailOf b] = none
  · exact .inl (determine_passive_slu enabled active admitted moving unplaced)
  · simp only [not_or] at unplaced
    obtain ⟨located, first, second⟩ := unplaced
    obtain ⟨lead, leadAt⟩ := Option.ne_none_iff_exists'.mp first
    obtain ⟨trail, trailAt⟩ := Option.ne_none_iff_exists'.mp second
    exact .inr ⟨lead, trail, determine_computed enabled active admitted moving located leadAt trailAt⟩

/-- The channels of a bogie that is not EXCLUDED are within their limits (R98). -/
theorem determine_within_limit {s : State} {b : BogieId} (enabled : s.tables.bogie[b].enabled = true)
    (active : s.sdu.part = .active) (admitted : bogieExcluded s b = false) :
    ((determine s b).slu.lastTarget[leadOf b]).natAbs ≤ s.tables.channel[leadOf b].thetaMax ∧
    ((determine s b).slu.lastTarget[trailOf b]).natAbs ≤ s.tables.channel[trailOf b].thetaMax := by
  have apart := leadOf_ne_trailOf b b
  cases still : s.opu.report.standstill with
  | true =>
    obtain ⟨-, lead, trail⟩ := determine_frozen_taken enabled active admitted still
    exact ⟨lead.natAbs, trail.natAbs⟩
  | false =>
    obtain passive | ⟨lead, trail, computed⟩ := determine_moving enabled active admitted still
    · simp [passive, Vector.getElem_set]
    · rw [computed, storeBogieState_slu]
      have only := computeChannel_only (leadComputed s b lead).1 (trailOf b) s.tables.bogie[b].semi trail
      have tables : (leadComputed s b lead).1.tables = s.tables := by simp [leadComputed]
      refine ⟨?_, ?_⟩
      · have bound := computeChannel_natAbs s (leadOf b) s.tables.bogie[b].semi lead
        exact (only.target _ apart).symm ▸ bound
      · exact tables ▸ computeChannel_natAbs (leadComputed s b lead).1 (trailOf b) _ trail

end Sys2Proof.Proofs

/-! SUPPORT. A bogie whose channels are computed (R87 to R101), and O26. -/

namespace Sys2Proof.Proofs

open Sys2Proof.Machine

theorem channelSign_leadOf (b : BogieId) : channelSign (leadOf b) = 1 := by
  simp [channelSign, leadOf]

theorem channelSign_trailOf (b : BogieId) : channelSign (trailOf b) = -1 := by
  simp [channelSign, trailOf]

theorem storeBogieState_degraded (s : State) (b : BogieId) :
    (storeBogieState s b .degraded).flag .dataMissing = true := by
  simp [storeBogieState]

section

variable {s : State} {b : BogieId} {lead trail : RoutePoint}
  (computed : determine s b = storeBogieState (bothComputed s b lead trail).1 b
    (if fellBack s b lead trail then .degraded else .tracking))
include computed

theorem determine_degraded (fell : fellBack s b lead trail = true) :
    (determine s b).slu.bogieState[b] = .degraded ∧ (determine s b).flag .dataMissing = true := by
  rw [computed, fell]
  exact ⟨by simp [storeBogieState_slu], storeBogieState_degraded _ b⟩

theorem determine_tracking (kept : fellBack s b lead trail = false) :
    (determine s b).slu.bogieState[b] = .tracking := by
  rw [computed, kept]
  simp [storeBogieState_slu]

/-- A SEGMENT frame that comes after the look-ahead walk of the leading channel has missed (R92, R102). -/
theorem determine_filled (sound : RouteFit s) {d : Delivery} {k : Int}
    (within : s.within = [[], [], [.segment d]]) (current : lead.place = .current)
    (missing : heldHeader s lead.segment = none) (reads : Reading (takeArrival s (.segment d)) lead (some k)) :
    (determine s b).slu.bogieState[b] = .degraded ∧ (determine s b).flag .dataMissing = true ∧
    (determine s b).slu.record[leadOf b].source = .axle ∧
    (determine s b).slu.record[leadOf b].curvature = some k ∧ (determine s b).within = [] := by
  have absent : contentOf s lead.segment = none := Option.map_eq_none_iff.mp missing
  obtain ⟨quiet, fell, source, curvature⟩ := computeChannel_axle (c := leadOf b)
    (semi := s.tables.bogie[b].semi) (channelCurvature_filled sound current within absent reads)
  have only := computeChannel_only (leadComputed s b lead).1 (trailOf b) s.tables.bogie[b].semi trail
  have record := only.record (leadOf b) (leadOf_ne_trailOf b b)
  have after := (computeChannel_reads (leadComputed s b lead).1 (trailOf b) s.tables.bogie[b].semi trail).quiet quiet
  have degraded := determine_degraded computed (Bool.or_eq_true_iff.mpr (.inl fell))
  refine ⟨degraded.1, degraded.2, ?_⟩
  rw [computed, storeBogieState_slu, (storeBogieState_quiet ..).within]
  exact ⟨record.symm ▸ source, record.symm ▸ curvature, after.within.trans quiet⟩

/-- Both channels of a bogie computed with nothing between the reads: the trailing one finds what the leading one
found (R87). -/
theorem determine_steered (quiet : s.within = []) (sound : RouteFit s) :
    Steered s (determine s b) s.tables.bogie[b].semi (leadOf b) 1 lead (leadComputed s b lead).2 ∧
    Steered s (determine s b) s.tables.bogie[b].semi (trailOf b) (-1) trail (bothComputed s b lead trail).2 := by
  have apart := leadOf_ne_trailOf b b
  have first : Quiet s (leadComputed s b lead).1 := (computeChannel_reads ..).quiet quiet
  have second : Quiet (leadComputed s b lead).1 (bothComputed s b lead trail).1 :=
    (computeChannel_reads ..).quiet (first.within.trans quiet)
  have only := computeChannel_only (leadComputed s b lead).1 (trailOf b) s.tables.bogie[b].semi trail
  have leadSteered := computeChannel_steered (c := leadOf b) (semi := s.tables.bogie[b].semi) (axle := lead)
    quiet sound
  have trailSteered := computeChannel_steered (c := trailOf b) (semi := s.tables.bogie[b].semi) (axle := trail)
    (first.within.trans quiet) (first.routeFit sound)
  rw [channelSign_leadOf] at leadSteered
  rw [channelSign_trailOf] at trailSteered
  have stored := storeBogieState_quiet (bothComputed s b lead trail).1 b
    (if fellBack s b lead trail then .degraded else .tracking)
  have slu := storeBogieState_slu (bothComputed s b lead trail).1 b
    (if fellBack s b lead trail then .degraded else .tracking)
  rw [← computed] at stored slu
  refine ⟨leadSteered.stands ?_ ?_ fun f set_ => stored.flags f (second.flags f set_),
    (trailSteered.of_quiet first ?_ ?_ ?_).stands ?_ ?_ stored.flags⟩
  · rw [slu]
    exact only.target _ apart
  · rw [slu]
    exact only.record _ apart
  · simp [leadComputed]
  · simp [leadComputed]
  · exact (computeChannel_only ..).target _ apart.symm
  · rw [slu]
    rfl
  · rw [slu]
    rfl

end

/-! ## What the hand-off keeps -/

/-- What stands of a determined bogie after its hand-off (R84). -/
structure HandedOn (s w t : State) (b : BogieId) : Prop where
  states : t.slu.bogieState = w.slu.bogieState
  target : t.slu.lastTarget = w.slu.lastTarget
  record : t.slu.record = w.slu.record
  results : t.osu.results = s.osu.results ++ [resultOf w b]
  flags : ∀ f, w.flag f = true → t.flag f = true
  within : t.within = w.within

theorem determineNext_handedOn {s : State} {b : BogieId} (enabled : s.tables.bogie[b].enabled = true)
    (active : s.sdu.part = .active) : HandedOn s (determine s b) (determineNext s b) b := by
  have running : s.sdu.part ≠ .config := by rw [active]; nofun
  have follows := determineNext_follows enabled running
  rw [handOn_enabled (by simpa using enabled) (by simpa using running)] at follows
  exact {
    states := (congrArg Slu.bogieState follows.slu).trans (by simp)
    target := (congrArg Slu.lastTarget follows.slu).trans (by simp)
    record := (congrArg Slu.record follows.slu).trans (by simp)
    results := (congrArg Osu.results follows.osu).trans (by simp)
    flags := follows.flags
    within := follows.within.trans (by simp) }

/-- What a determination and its hand-off leave in ACTIVE, whatever state the bogie comes to. -/
theorem determineNext_frame {s : State} {b : BogieId} (enabled : s.tables.bogie[b].enabled = true)
    (active : s.sdu.part = .active) :
    let t := determineNext s b
    t.csu.awaiting[b] = true ∧ t.tables = s.tables ∧ t.als = s.als ∧
    t.opu = { s.opu with route := t.opu.route } ∧ t.mrh = { s.mrh with prepare := t.mrh.prepare } ∧
    (s.within = [] → t.opu = s.opu ∧ t.mrh = s.mrh ∧ t.within = []) ∧
    t.bru = s.bru ∧ t.sit = s.sit ∧ t.sdu.part = .active := by
  have running : s.sdu.part ≠ .config := by rw [active]; nofun
  have follows := determineNext_follows enabled running
  rw [handOn_enabled (by simpa using enabled) (by simpa using running)] at follows
  have opu := follows.opu.trans (by simp : _ = (determine s b).opu)
  have mrh := follows.mrh.trans (by simp : _ = (determine s b).mrh)
  refine ⟨?_, follows.tables.trans (by simp), follows.als.trans (by simp), ?_, ?_, fun quiet => ?_,
    follows.bru.trans (by simp), follows.sit.trans (by simp), follows.part.trans (by simpa using active)⟩
  · rw [follows.awaiting]
    simp
  · rw [opu]
    exact determine_opu s b
  · rw [mrh]
    exact determine_mrh s b
  · have read := (determine_reads s b).quiet quiet
    exact ⟨opu.trans read.opu, mrh.trans read.mrh,
      follows.within.trans ((by simp : _ = (determine s b).within).trans (read.within.trans quiet))⟩

theorem resultOf_admitted {s : State} {b : BogieId} (active : s.sdu.part = .active)
    (admitted : s.slu.bogieState[b] ≠ .excluded) :
    resultOf s b = { bogie := b, state := s.slu.bogieState[b]
                     targets := some (s.slu.lastTarget[leadOf b], s.slu.lastTarget[trailOf b]) } := by
  simp only [resultOf, active, true_and]
  rw [if_pos admitted]

theorem determine_admitted {s : State} {b : BogieId} (enabled : s.tables.bogie[b].enabled = true)
    (active : s.sdu.part = .active) (admitted : bogieExcluded s b = false) :
    (determine s b).slu.bogieState[b] ≠ .excluded := by
  cases still : s.opu.report.standstill with
  | true => rw [(determine_frozen_taken enabled active admitted still).1]; nofun
  | false =>
    obtain passive | ⟨lead, trail, computed⟩ := determine_moving enabled active admitted still
    · simp [passive]
    · rw [computed, storeBogieState_slu]
      split <;> simp

section

variable {s w t : State} {b : BogieId} (handed : HandedOn s w t b)
include handed

theorem HandedOn.taken {c : ChannelId} {theta : Int} {record : ChannelRecord}
    (h : Taken s w c theta record) : Taken s t c theta record :=
  h.stands (by rw [handed.target]) (by rw [handed.record]) handed.flags

theorem HandedOn.steered {semi : Nat} {c : ChannelId} {sign : Int} {pt : RoutePoint} {fell : Bool}
    (h : Steered s w semi c sign pt fell) : Steered s t semi c sign pt fell :=
  h.stands (by rw [handed.target]) (by rw [handed.record]) handed.flags

end

/-- Settles O26, by the ways of a determination in the order of R87; the hand-off keeps what they wrote. -/
theorem bogieStateInActive : Obligations.BogieStateInActive := by
  intro s b due enabled active
  have handed := determineNext_handedOn enabled active
  refine ⟨_, exec_bogieDetermination_due due, ⟨fun excluded => ?_, fun admitted => ⟨?_, fun still => ?_,
    fun moving => ⟨fun unplaced => ?_, fun located sound lead trail leadAt trailAt => ?_⟩, ?_⟩⟩,
    fun c lead trail => ?_, fun c other => ?_, determineNext_frame enabled active⟩
  · have slu := determine_excluded_slu enabled active excluded
    rw [handed.states, handed.target, handed.record, handed.results, resultOf, slu]
    simp [Fin.val_ne_of_ne (leadOf_ne_trailOf b b).symm]
  · rw [handed.results, handed.states, handed.target, resultOf_admitted (by simpa using active)
      (determine_admitted enabled active admitted)]
  · obtain ⟨state, lead, trail⟩ := determine_frozen_taken enabled active admitted still
    exact ⟨by rw [handed.states, state], handed.taken lead, handed.taken trail⟩
  · rw [handed.states, handed.target, handed.record,
      determine_passive_slu enabled active admitted moving unplaced]
    simp [Vector.getElem_set]
  · have computed := determine_computed enabled active admitted moving located leadAt trailAt
    have fit := (routeSound_iff s).mp sound
    refine ⟨?_, fun d k within current missing reads => ?_, fun quiet => ?_⟩
    · rw [handed.states]
      cases fell : fellBack s b lead trail with
      | true => exact .inr (determine_degraded computed fell).1
      | false => exact .inl (determine_tracking computed fell)
    · obtain ⟨state, flag, record⟩ := determine_filled computed fit within current missing reads
      rw [handed.states, handed.record, handed.within]
      exact ⟨state, handed.flags _ flag, record⟩
    · obtain ⟨leadSteered, trailSteered⟩ := determine_steered computed quiet fit
      refine ⟨_, _, handed.steered leadSteered, handed.steered trailSteered, fun first second => ?_, fun fell => ?_⟩
      · rw [handed.states]
        exact determine_tracking computed (by rw [fellBack, first, second]; rfl)
      · obtain ⟨state, flag⟩ := determine_degraded computed (Bool.or_eq_true_iff.mpr fell)
        exact ⟨by rw [handed.states, state], handed.flags _ flag⟩
  · rw [handed.target]
    exact determine_within_limit enabled active admitted
  · rw [handed.target, handed.record]
    exact determine_channel_other s lead trail
  · rw [handed.states]
    exact determine_state_other s other

end Sys2Proof.Proofs

/-! SUPPORT. The shaping state of one channel written (R110, R113), a selected COMMAND frame, whose codes become
the issued codes (R113, R160, R163, R164), and the codes of a build (R111, R112). -/

namespace Sys2Proof.Proofs

open Sys2Proof.Machine

/-! ## One channel written -/

@[simp] theorem setShaped_channel_self (s : State) (c : ChannelId) (x : OsuChannel) :
    (s.setShaped c x).osu.channel[c] = x := by
  simp [State.setShaped]

theorem setShaped_channel_other (s : State) {c d : ChannelId} (x : OsuChannel) (other : d ≠ c) :
    (s.setShaped c x).osu.channel[d] = s.osu.channel[d] := by
  simp [State.setShaped, Vector.getElem_set_ne, Fin.val_ne_of_ne other.symm]

@[simp] theorem issueCode_channel_self (s : State) (c : ChannelId) (code : Nat) :
    (issueCode s c code).osu.channel[c] =
      { s.osu.channel[c] with issued := some { code := code, inverse := 65535 - code } } :=
  setShaped_channel_self ..

theorem issueCode_channel_other (s : State) {c d : ChannelId} (code : Nat) (other : d ≠ c) :
    (issueCode s c code).osu.channel[d] = s.osu.channel[d] :=
  setShaped_channel_other _ _ other

/-! ## A selected COMMAND frame (R113, R160, R163, R164) -/

section

variable (s : State) (f : CommandFrame)

theorem issueFrame_channel_lead : (issueFrame s f).osu.channel[leadOf f.bogie] =
    { s.osu.channel[leadOf f.bogie] with
      issued := some { code := f.lead, inverse := 65535 - f.lead } } := by
  rw [issueFrame, issueCode_channel_other _ _ (leadOf_ne_trailOf f.bogie f.bogie), issueCode_channel_self]

theorem issueFrame_channel_trail : (issueFrame s f).osu.channel[trailOf f.bogie] =
    { s.osu.channel[trailOf f.bogie] with
      issued := some { code := f.trail, inverse := 65535 - f.trail } } := by
  rw [issueFrame, issueCode_channel_self, issueCode_channel_other _ _ (leadOf_ne_trailOf f.bogie f.bogie).symm]

theorem issueFrame_channel_other {c : ChannelId} (lead : c ≠ leadOf f.bogie) (trail : c ≠ trailOf f.bogie) :
    (issueFrame s f).osu.channel[c] = s.osu.channel[c] := by
  rw [issueFrame, issueCode_channel_other _ _ trail, issueCode_channel_other _ _ lead]

/-- Of the shaping unit only the channels are written: exclusions and results stand. -/
theorem issueFrame_osu :
    (issueFrame s f).osu.excluded = s.osu.excluded ∧ (issueFrame s f).osu.results = s.osu.results := ⟨rfl, rfl⟩

end

/-- With no frame to forward, or two forwarded in a row, the oldest COMMAND goes before any other queued frame
(R160, R163). -/
theorem select_command {r : Rpu} {f : CommandFrame} {rest : List CommandFrame}
    (passed : r.forward = [] ∨ r.forwardCount = 2) (front : r.commands = f :: rest) :
    select r = some (.command f rest) := by
  have queued : selectQueued r = some (.command f rest) := by simp [selectQueued, front]
  have waits : queueLength r ≠ 0 := by simp [queueLength, front]
  unfold select
  split
  · exact queued
  · next oldest others forward =>
    have twice : r.forwardCount = 2 := passed.resolve_left (by simp [forward])
    rw [if_pos ⟨waits, twice⟩, queued]

theorem exec_outSelection_command {s : State} {f : CommandFrame} {rest : List CommandFrame}
    (free : s.rpu.sending = none) (passed : s.rpu.forward = [] ∨ s.rpu.forwardCount = 2)
    (front : s.rpu.commands = f :: rest) :
    exec .outSelection s = .next (issueFrame (s.setRpu { s.rpu with
      commands := rest, sending := some (commandTransmission s.rpu.own f), gap := false
      forwardCount := 0 }) f) := by
  have path : exec .outSelection s = .next (selectNext s) := rfl
  rw [path, selectNext, free, select_command passed front]
  rfl

/-- Settles O14: the selection takes the COMMAND, and its codes are written to its two channels alone. -/
theorem selectedCommandIsIssued : Obligations.SelectedCommandIsIssued := by
  intro s f rest free passed front
  refine ⟨_, exec_outSelection_command free passed front, ?_⟩
  generalize sent_def : s.setRpu _ = sent
  have osu : sent.osu = s.osu := by simp [← sent_def]
  rw [issueFrame_channel_lead, issueFrame_channel_trail, (issueFrame_osu sent f).1, (issueFrame_osu sent f).2, osu]
  refine ⟨?_, rfl, rfl, fun c lead trail => ?_, rfl, rfl, ?_⟩
  · simp [← sent_def, commandTransmission]
  · rw [issueFrame_channel_other sent f lead trail, osu]
  · simp [← sent_def]

/-! ## The codes of a build (R111, R112) -/

theorem stepTowards_zero (code target : Nat) : stepTowards code target 0 = target := rfl

/-- A step that is not 0: the target lies farther above, farther below, or within the step (R112). -/
theorem stepTowards_cases (code target : Nat) {step : Nat} (positive : 0 < step) :
    (code + step < target ∧ stepTowards code target step = code + step) ∨
    (target + step < code ∧ stepTowards code target step = code - step) ∨
    (((target : Int) - code).natAbs ≤ step ∧ stepTowards code target step = target) := by
  have moves : step ≠ 0 := by omega
  by_cases above : code + step < target
  · exact .inl ⟨above, by simp [stepTowards, moves, above]⟩
  by_cases below : target + step < code
  · exact .inr (.inl ⟨below, by simp [stepTowards, moves, above, below]⟩)
  · exact .inr (.inr ⟨by omega, by simp [stepTowards, moves, above, below]⟩)

section

variable {s : State} {c : ChannelId}

theorem buildCode_unissued (code : Nat) (unissued : s.osu.channel[c].issued = none) :
    buildCode s c code = buildTarget s c code := by
  rw [buildCode, unissued]

theorem buildCode_issued (code : Nat) {i : Issued} (issued : s.osu.channel[c].issued = some i) :
    buildCode s c code = stepTowards i.code (buildTarget s c code) (buildStep s c) := by
  rw [buildCode, issued]

end

/-- Settles O29: the built code is the issued code stepped towards its target, by the cases of a step. -/
theorem codesStepTowardsTarget : Obligations.CodesStepTowardsTarget := by
  intro s c code e target step
  have aims : buildTarget s c code = target := rfl
  have limits : buildStep s c = step := rfl
  clear_value target step
  refine ⟨fun unissued => by rw [buildCode_unissued code unissued, aims], fun i issued => ?_⟩
  rw [buildCode_issued code issued, aims, limits]
  refine ⟨fun unlimited => by rw [unlimited, stepTowards_zero], fun positive => ?_⟩
  obtain ⟨above, is⟩ | ⟨below, is⟩ | ⟨near, is⟩ := stepTowards_cases i.code target positive <;> rw [is]
  · omega
  · omega
  · omega

end Sys2Proof.Proofs

/-! SUPPORT. Shaping (R109, R110, R124, R145): the target codes of a result, the offer that they make, and the close
of a cycle at the last offer, whatever is posted and however long supervision has counted. -/

namespace Sys2Proof.Proofs

open Sys2Proof.Machine

/-! ## Target codes (R110) -/

/-- The range limit acts exactly when the calibrated code lies outside the range (R110). -/
theorem rangeLimits_eq (e : ChannelEntry) (theta : Int) : rangeLimits e theta =
    decide (calibrated e theta < e.codeMin ∨ (e.codeMax : Int) < calibrated e theta) := by
  rw [rangeLimits, limitInt, decide_eq_decide]
  split
  · omega
  · split <;> omega

theorem targetCode_eq (e : ChannelEntry) (theta : Int) : targetCode e theta =
    if calibrated e theta < e.codeMin then e.codeMin
    else if (e.codeMax : Int) < calibrated e theta then e.codeMax else (calibrated e theta).toNat := by
  rw [targetCode, limitInt]
  split
  · exact Int.toNat_natCast _
  · split
    · exact Int.toNat_natCast _
    · rfl

theorem calibrated_eq (e : ChannelEntry) (theta : Int) : calibrated e theta =
    32768 + roundDiv (roundDiv theta 4 * (e.gain + 1)) 65536 + e.trim :=
  (add_assoc _ _ _).symm

/-- A target code with its range-limited indicator, for a target angle (R110). -/
def steeredTarget (s : State) (c : ChannelId) (theta : Int) : Nat × Bool :=
  (targetCode s.tables.channel[c] theta, rangeLimits s.tables.channel[c] theta)

/-- The fallback code as target code, the range-limited indicator cleared (R109). -/
def fallbackTarget (s : State) (c : ChannelId) : Nat × Bool := (s.tables.channel[c].fallback, false)

/-- A bogie's target codes written with their range-limited indicators (R110). -/
def writeTargets (s : State) (b : BogieId) (lead trail : Nat × Bool) : State :=
  writeTarget (writeTarget s (leadOf b) lead.1 lead.2) (trailOf b) trail.1 trail.2

theorem writeTargets_eq (s : State) (b : BogieId) (lead trail : Nat × Bool) : writeTargets s b lead trail =
    s.setOsu { s.osu with
      channel := (s.osu.channel.set (leadOf b).val
          { s.osu.channel[leadOf b] with target := some lead.1, rangeLimited := lead.2 }).set (trailOf b).val
        { s.osu.channel[trailOf b] with target := some trail.1, rangeLimited := trail.2 } } := by
  rw [writeTargets, writeTarget, writeTarget, setShaped_channel_other _ _ (leadOf_ne_trailOf b b).symm]
  rfl

/-! ## A result shaped (R109) -/

section

variable {s : State} {r : SteeringResult}

theorem shapeResult_none (held : s.sdu.part = .config ∨ bogieExcluded s r.bogie = true) :
    shapeResult s r = (s, none) := if_pos held

variable (runs : s.sdu.part ≠ .config) (admitted : bogieExcluded s r.bogie = false)
include runs admitted

theorem shapeResult_fallback
    (straight : s.sdu.part = .standby ∨ s.sdu.part = .fallback ∨ r.targets = none) :
    shapeResult s r =
      (writeTargets s r.bogie (fallbackTarget s (leadOf r.bogie)) (fallbackTarget s (trailOf r.bogie)),
        some (fallbackPair s r.bogie)) := by
  have none_ : (if s.sdu.part = .active then r.targets else none) = none := by
    rcases straight with part | part | targets
    · simp [part]
    · simp [part]
    · simp [targets]
  rw [shapeResult, if_neg (by simp [runs, admitted]), none_]
  rfl

theorem shapeResult_steered {lead trail : Int} (active : s.sdu.part = .active)
    (targets : r.targets = some (lead, trail)) :
    shapeResult s r =
      (writeTargets s r.bogie (steeredTarget s (leadOf r.bogie) lead) (steeredTarget s (trailOf r.bogie) trail),
        some (shapedPair s r.bogie (lead, trail))) := by
  rw [shapeResult, if_neg (by simp [runs, admitted]), if_pos active, targets]
  rfl

end

/-! ## An offer taken (R124) -/

/-- What an offer makes of a state: a disabled bogie takes none (log 17), a command outstanding under echo
comparison holds the pair as pending, and otherwise it is built. -/
def Taking (s : State) (b : BogieId) (pair : CodePair) (w : State) : Prop :=
  let compared := s.tables.bogie[b].echoCompare = true ∧ s.als[b].outstanding ≠ none
  (s.tables.bogie[b].enabled = false → w = s) ∧
  (s.tables.bogie[b].enabled = true → compared →
    w = s.setAls (s.als.set b.val { s.als[b] with pending := some pair })) ∧
  (s.tables.bogie[b].enabled = true → ¬ compared → w = build s b pair)

theorem takeOffer_enabled {s : State} {b : BogieId} (pair : CodePair)
    (enabled : s.tables.bogie[b].enabled = true) :
    takeOffer s b (some pair) =
      if s.tables.bogie[b].echoCompare = true ∧ s.als[b].outstanding ≠ none then
        s.setAls (s.als.set b.val { s.als[b] with pending := some pair })
      else build s b pair := by
  rw [takeOffer, enabled]
  simp only [Bool.not_true, Bool.false_eq_true, if_false, Bool.and_eq_true, Option.isSome_iff_ne_none]
  rfl

theorem takeOffer_taking (s : State) (b : BogieId) (pair : CodePair) :
    Taking s b pair (takeOffer s b (some pair)) := by
  refine ⟨fun disabled => ?_, fun enabled compared => ?_, fun enabled free => ?_⟩
  · rw [takeOffer, disabled]
    rfl
  · rw [takeOffer_enabled pair enabled, if_pos compared]
  · rw [takeOffer_enabled pair enabled, if_neg free]

/-! ## The offer counted, and the close at the last one (R145, R146) -/

/-- A close leaves the marks of the bogies that await offer, supervision expiring at it or not. -/
theorem closeCycle_awaiting (s : State) : (closeCycle s).csu.awaiting = s.csu.awaiting := by
  have tested (u : State) : (testSupervision u).csu.awaiting = u.csu.awaiting := by
    unfold testSupervision
    split
    · simp [enterFallback]
    · rfl
  simp [closeCycle, tested, becomeIdle]

/-- The state in which the offer of a result has been taken and not yet counted. -/
def offerTaken (s : State) (r : SteeringResult) (rest : List SteeringResult) : State :=
  let shaped := shapeResult (s.setOsu { s.osu with results := rest }) r
  takeOffer shaped.1 r.bogie shaped.2

theorem offered_eq (s : State) (r : SteeringResult) (rest : List SteeringResult) :
    offered s r rest = (offerTaken s r rest).setCsu { (offerTaken s r rest).csu with
      awaiting := (offerTaken s r rest).csu.awaiting.set r.bogie.val false } := by
  simp [offered, offerTaken]

theorem offered_awaiting_own (s : State) (r : SteeringResult) (rest : List SteeringResult) :
    (offered s r rest).csu.awaiting[r.bogie] = false := by
  simp [offered_awaiting]

theorem offered_awaiting_other (s : State) (r : SteeringResult) (rest : List SteeringResult) {b : BogieId}
    (other : b ≠ r.bogie) : (offered s r rest).csu.awaiting[b] = s.csu.awaiting[b] := by
  simp [offered_awaiting, Vector.getElem_set_ne, Fin.val_ne_of_ne other.symm]

/-- The close is due at the last offer, once the end report is in (R145, R146). -/
theorem closeDue_offered (s : State) (r : SteeringResult) (rest : List SteeringResult) :
    closeDue (offered s r rest) = true ↔ s.csu.running = true ∧ s.csu.endReport = true ∧
      ∀ b : BogieId, b ≠ r.bogie → s.csu.awaiting[b] = false := by
  rw [closeDue_iff]
  refine and_congr_right' (and_congr_right' ⟨fun all b other => ?_, fun others b => ?_⟩)
  · rw [← offered_awaiting_other s r rest other]
    exact all b
  · by_cases own : b = r.bogie
    · rw [own]
      exact offered_awaiting_own s r rest
    · rw [offered_awaiting_other s r rest own]
      exact others b own

theorem closeIfDue_offered_awaiting (s : State) (r : SteeringResult) (rest : List SteeringResult) :
    (closeIfDue (offered s r rest)).csu.awaiting[r.bogie] = false := by
  unfold closeIfDue
  split
  · simp only [closeCycle_awaiting]
    exact offered_awaiting_own s r rest
  · exact offered_awaiting_own s r rest

/-! ## Shaping whole -/

section

variable {s : State} {r : SteeringResult} {rest : List SteeringResult}

theorem offerTaken_none (held : s.sdu.part = .config ∨ bogieExcluded s r.bogie = true) :
    offerTaken s r rest = s.setOsu { s.osu with results := rest } := by
  have nothing := shapeResult_none (s := s.setOsu { s.osu with results := rest }) held
  rw [offerTaken, nothing]
  rfl

/-- Once the target codes are written, the pair of them is what is offered (R109, R124). -/
theorem offerTaken_taking {lead trail : Nat × Bool}
    (shaped : shapeResult (s.setOsu { s.osu with results := rest }) r =
      (writeTargets (s.setOsu { s.osu with results := rest }) r.bogie lead trail,
        some { lead := lead.1, trail := trail.1 })) :
    Taking (writeTargets (s.setOsu { s.osu with results := rest }) r.bogie lead trail) r.bogie
      { lead := lead.1, trail := trail.1 } (offerTaken s r rest) := by
  rw [offerTaken, shaped]
  exact takeOffer_taking ..

end

theorem exec_shaping_none {s : State} (nothing : s.osu.results = []) : exec .shaping s = .next s := by
  have path : exec .shaping s = .next (shapeNext s) := rfl
  rw [path, shapeNext, nothing]

/-- Settles O28: the result is shaped by part state, its offer taken, and the offer counted. -/
theorem shapingTargets : Obligations.ShapingTargets := by
  refine fun s => ⟨exec_shaping_none, fun r rest front => ?_⟩
  refine ⟨offerTaken s r rest, closeIfDue (offered s r rest), ?_, closeIfDue_offered_awaiting s r rest,
    fun running ended last => ?_, fun open_ => ?_, offerTaken_none, fun runs admitted => ⟨fun straight => ?_,
      fun active lead trail targets => ?_⟩⟩
  · rw [exec_shaping_next front, shapeAndOffer_eq]
  · rw [closeIfDue, if_pos ((closeDue_offered s r rest).mpr ⟨running, ended, last⟩), offered_eq]
  · have early : ¬ closeDue (offered s r rest) = true := by
      rw [closeDue_offered]
      rintro ⟨running, ended, last⟩
      rcases open_ with idle | pending | ⟨c, other, waits⟩
      · simp [idle] at running
      · simp [pending] at ended
      · simp [last c other] at waits
    rw [closeIfDue, if_neg early, offered_eq]
  · have taking := offerTaken_taking (shapeResult_fallback (s := s.setOsu { s.osu with results := rest })
      runs admitted straight)
    rw [writeTargets_eq] at taking
    exact taking
  · have taking := offerTaken_taking (shapeResult_steered (s := s.setOsu { s.osu with results := rest })
      runs admitted active targets)
    rw [writeTargets_eq] at taking
    simp only [steeredTarget, targetCode_eq, rangeLimits_eq, calibrated_eq] at taking
    exact taking

end Sys2Proof.Proofs

/-! SUPPORT. The COMMAND group of the transmit queue (R160): which operations leave it as it stands. A FETCH or a
REPLY joins the other group, so no need and no lookup changes it, and no stage of a position update or of a
determination does. -/

namespace Sys2Proof.Proofs

open Sys2Proof.Machine

/-! ## Offers and needs (R71 to R73, R160) -/

@[simp] theorem offerOther_commands (s : State) (f : OtherFrame) :
    (offerOther s f).rpu.commands = s.rpu.commands := by
  unfold offerOther
  split <;> simp

@[simp] theorem offerFetch_commands (s : State) (n : Need) :
    (offerFetch s n).rpu.commands = s.rpu.commands := by
  unfold offerFetch
  split <;> simp

@[simp] theorem makeNeed_commands (s : State) (n : Need) :
    (makeNeed s n).rpu.commands = s.rpu.commands := by
  unfold makeNeed
  (repeat' split) <;> simp

@[simp] theorem makeNeeds_commands (s : State) (ns : List Need) :
    (makeNeeds s ns).rpu.commands = s.rpu.commands := by
  unfold makeNeeds
  induction ns generalizing s with
  | nil => rfl
  | cons n ns ih => simp [ih]

@[simp] theorem makeHeldNeeds_commands (s : State) :
    (makeHeldNeeds s).rpu.commands = s.rpu.commands := by
  simp [makeHeldNeeds]

/-! ## Lookups and walks (R38, R70, R102) -/

@[simp] theorem lookupHeader_commands (s : State) (needs : Bool) (n : Nat) :
    (lookupHeader needs s n).1.rpu.commands = s.rpu.commands := by
  simp only [lookupHeader]
  (repeat' split) <;> simp

@[simp] theorem lookupBlock_commands (s : State) (n : Nat) (k : Fin 8) :
    (lookupBlock s n k).1.rpu.commands = s.rpu.commands := by
  simp only [lookupBlock]
  (repeat' split) <;> simp

/-- A REPLY that answers no confirmed reset joins the other group (R181). -/
theorem sendReply_commands (s : State) (o : Origin) (function : Nat) {r : Reply}
    (h : r.confirms = none) : (sendReply s o function r).rpu.commands = s.rpu.commands := by
  simp only [sendReply, h]
  split <;> simp

@[simp] theorem takeArrival_commands (s : State) (a : Arrival) :
    (takeArrival s a).rpu.commands = s.rpu.commands := by
  cases a with
  | segment frame =>
    simp only [takeArrival]
    split <;> simp
  | routeAppend o count data =>
    simp only [takeArrival, manage]
    split
    · simp [sendReply_commands]
    · rfl
  | routeClear o data =>
    simp only [takeArrival, manage]
    split
    · simp [sendReply_commands]
    · rfl

@[simp] theorem takeArrivals_commands (s : State) (as : List Arrival) :
    (as.foldl takeArrival s).rpu.commands = s.rpu.commands := by
  induction as generalizing s with
  | nil => rfl
  | cons a as ih => simp [ih]

@[simp] theorem takeWithin_commands (s : State) : (takeWithin s).rpu.commands = s.rpu.commands := by
  unfold takeWithin
  split <;> simp

@[simp] theorem steeringHeader_commands (s : State) (n : Nat) :
    (steeringHeader s n).1.rpu.commands = s.rpu.commands := by
  simp [steeringHeader]

@[simp] theorem steeringBlock_commands (s : State) (n : Nat) (k : Fin 8) :
    (steeringBlock s n k).1.rpu.commands = s.rpu.commands := by
  simp [steeringBlock]

@[simp] theorem walkerHeader_commands (s : State) (w : Walker) (n : Nat) :
    (w.header s n).1.rpu.commands = s.rpu.commands := by
  cases w <;> simp [Walker.header]

@[simp] theorem walkFrom_commands (s : State) (w : Walker) (fuel : Nat) (place : Place)
    (segment off dist : Nat) (gone : Int) :
    (walkFrom w fuel s place segment off dist gone).state.rpu.commands = s.rpu.commands := by
  induction fuel generalizing s place segment off dist gone with
  | zero => rfl
  | succ fuel ih =>
    unfold walkFrom
    dsimp only
    (repeat' split) <;> simp [ih]

@[simp] theorem walk_commands (s : State) (w : Walker) (start : RoutePoint) (dist : Nat) :
    (walk w s start dist).state.rpu.commands = s.rpu.commands := by
  simp [walk]

/-! ## The position update (R19, R27, R46, R47) -/

@[simp] theorem advanceFrom_commands (s : State) (fuel : Nat) :
    (advanceFrom fuel s).rpu.commands = s.rpu.commands := by
  induction fuel generalizing s with
  | zero => rfl
  | succ fuel ih =>
    unfold advanceFrom
    dsimp only
    (repeat' split) <;> simp [ih]

@[simp] theorem advanceStage_commands (s : State) :
    (advanceStage s).rpu.commands = s.rpu.commands := by
  simp only [advanceStage]
  (repeat' split) <;> simp

@[simp] theorem derivedPosition_commands (s : State) (n : Fin 2) (e : BeaconEntry) (latched : Int) :
    (derivedPosition s n e latched).1.rpu.commands = s.rpu.commands := by
  simp only [derivedPosition]
  (repeat' split) <;> simp

@[simp] theorem searchAhead_commands (s : State) (fuel : Nat) (place : Place)
    (segment off dist : Nat) (gone : Int) (target : Nat) :
    (searchAhead fuel s place segment off dist gone target).state.rpu.commands = s.rpu.commands := by
  induction fuel generalizing s place segment off dist gone with
  | zero => rfl
  | succ fuel ih =>
    unfold searchAhead
    dsimp only
    (repeat' split) <;> simp [ih]

@[simp] theorem relate_commands (s : State) (p : Located) (d : Derived) :
    (relate s p d).1.rpu.commands = s.rpu.commands := by
  simp only [relate]
  (repeat' split) <;> simp

@[simp] theorem handleKnown_commands (s : State) (n : Fin 2) (e : BeaconEntry) (b : PendingBeacon) :
    (handleKnown s n e b).rpu.commands = s.rpu.commands := by
  simp only [handleKnown]
  (repeat' split) <;> simp

@[simp] theorem handleReader_commands (s : State) (n : Fin 2) :
    (handleReader s n).rpu.commands = s.rpu.commands := by
  simp only [handleReader]
  (repeat' split) <;> simp

@[simp] theorem beaconStage_commands (s : State) : (beaconStage s).rpu.commands = s.rpu.commands := by
  simp [beaconStage]

@[simp] theorem recomputeInUse_commands (s : State) :
    (recomputeInUse s).rpu.commands = s.rpu.commands := by
  simp only [recomputeInUse]
  (repeat' split) <;> simp

@[simp] theorem windowReport_commands (s : State) :
    (windowReport s).rpu.commands = s.rpu.commands := by
  simp only [windowReport]
  (repeat' split) <;> simp

@[simp] theorem positionUpdate_commands (s : State) :
    (positionUpdate s).rpu.commands = s.rpu.commands := by
  simp [positionUpdate]

/-! ## The determination of a bogie (R87 to R99) -/

@[simp] theorem readPoint_commands (s : State) (n x : Nat) :
    (readPoint s n x).1.rpu.commands = s.rpu.commands := by
  simp only [readPoint]
  (repeat' split) <;> simp

@[simp] theorem neighbourBeyond_commands (s : State) (pt : RoutePoint) (length : Nat) :
    (neighbourBeyond s pt length).1.rpu.commands = s.rpu.commands := by
  simp only [neighbourBeyond]
  (repeat' split) <;> simp

@[simp] theorem neighbour_commands (s : State) (pt : RoutePoint) (d : PointData) :
    (neighbour s pt d).1.rpu.commands = s.rpu.commands := by
  simp only [neighbour]
  (repeat' split) <;> simp

@[simp] theorem curvatureReading_commands (s : State) (pt : RoutePoint) :
    (curvatureReading s pt).1.rpu.commands = s.rpu.commands := by
  simp only [curvatureReading]
  (repeat' split) <;> simp

@[simp] theorem aheadReading_commands (s : State) (axle : RoutePoint) (distance : Nat) :
    (aheadReading s axle distance).1.rpu.commands = s.rpu.commands := by
  unfold aheadReading
  split <;> simp

@[simp] theorem channelCurvature_commands (s : State) (axle : RoutePoint) (distance : Nat) :
    (channelCurvature s axle distance).1.rpu.commands = s.rpu.commands := by
  cases ahead : (aheadReading s axle distance).2 with
  | some k => simp [channelCurvature_ahead ahead]
  | none => simp [channelCurvature_back ahead]

@[simp] theorem computeChannel_commands (s : State) (c : ChannelId) (semi : Nat) (axle : RoutePoint) :
    (computeChannel s c semi axle).1.rpu.commands = s.rpu.commands := by
  simp only [computeChannel]
  (repeat' split) <;> simp

@[simp] theorem determine_commands (s : State) (b : BogieId) :
    (determine s b).rpu.commands = s.rpu.commands := by
  simp only [determine]
  (repeat' split) <;> simp

end Sys2Proof.Proofs

/-! SUPPORT. One link written, one offer of a COMMAND, and the three ways in which a build ends (R111, R116, R125,
R132, R160, R161): its frame taken by the queue, refused by it, or not built after a failed copy check. -/

namespace Sys2Proof.Proofs

open Sys2Proof.Machine

/-! ## One link written -/

theorem setLink_als_self (s : State) (b : BogieId) (l : Link) : (s.setLink b l).als[b] = l := by
  simp [State.setLink]

theorem setLink_als_other (s : State) {b c : BogieId} (l : Link) (other : c ≠ b) :
    (s.setLink b l).als[c] = s.als[c] := by
  simp [State.setLink, Vector.getElem_set_ne, Fin.val_ne_of_ne other.symm]

@[simp] theorem setLink_flag (s : State) (b : BogieId) (l : Link) (f : Flag) :
    (s.setLink b l).flag f = s.flag f := rfl

@[simp] theorem setLink_unchanged (s : State) (b : BogieId) : s.setLink b s.als[b] = s := by
  simp [State.setLink]

@[simp] theorem withdrawBogie_flag (s : State) (b : BogieId) (f : Flag) :
    (withdrawBogie s b).flag f = s.flag f := rfl

/-! ## A COMMAND offered (R160, R161) -/

theorem commandTaken_iff (s : State) (b : BogieId) :
    commandTaken s b = true ↔ commandWaits s b = true ∨ queueLength s.rpu < 12 := by
  simp only [commandTaken, queueHasRoom, Bool.or_eq_true, decide_eq_true_eq]
  rfl

theorem offerCommand_flag_mono {s : State} {f : Flag} (c : CommandFrame) (h : s.flag f = true) :
    (offerCommand s c).flag f = true := by
  unfold offerCommand
  split
  · exact h
  · split
    · exact h
    · simp [h]

/-! ## A failed copy check (R116) -/

/-- The exclusion of a bogie and COPY_ERR, before the fallback codes are written. -/
def copyExcluded (s : State) (b : BogieId) : State :=
  (s.setOsu { s.osu with excluded := s.osu.excluded.set b.val true }).setFlag .copyErr

theorem copyError_eq (s : State) (b : BogieId) : copyError s b =
    withdrawBogie (issueCode (issueCode (copyExcluded s b) (leadOf b) (fallbackPair s b).lead) (trailOf b)
      (fallbackPair s b).trail) b := rfl

theorem copyError_rpu (s : State) (b : BogieId) : (copyError s b).rpu =
    { s.rpu with commands := s.rpu.commands.filter fun w => w.bogie ≠ b } := by
  simp [copyError, withdrawBogie]

theorem copyError_flag (s : State) (b : BogieId) (f : Flag) :
    (copyError s b).flag f = (s.flag f || decide (Flag.copyErr = f)) :=
  State.flag_setFlag (s.setOsu { s.osu with excluded := s.osu.excluded.set b.val true }) .copyErr f

theorem copyError_excluded (s : State) (b : BogieId) :
    (copyError s b).osu.excluded = s.osu.excluded.set b.val true := rfl

/-- The fallback codes of both channels become their issued codes (R116). -/
theorem copyError_issued (s : State) (b : BogieId) {c : ChannelId} (own : c = leadOf b ∨ c = trailOf b) :
    (copyError s b).osu.channel[c].issued = some
      { code := s.tables.channel[c].fallback, inverse := 65535 - s.tables.channel[c].fallback } := by
  rw [copyError_eq]
  rcases own with rfl | rfl
  · simp only [withdrawBogie_keeps, issueCode_channel_other _ _ (leadOf_ne_trailOf b b),
      issueCode_channel_self, fallbackPair]
  · simp only [withdrawBogie_keeps, issueCode_channel_self, fallbackPair]

/-! ## The ends of a build (R125, R132) -/

section

variable {s : State} {b : BogieId} (pair : CodePair)

theorem build_taken (lead : copyOk s.osu.channel[leadOf b] = true)
    (trail : copyOk s.osu.channel[trailOf b] = true) (taken : commandTaken s b = true) :
    build s b pair = (offerCommand s (commandFor s b pair)).setLink b
      (s.als[b].sent s.tables.bogie[b].echoCompare (commandFor s b pair) pair) := by
  simp only [build, lead, trail, taken, Bool.and_self, if_true]

theorem build_refused (lead : copyOk s.osu.channel[leadOf b] = true)
    (trail : copyOk s.osu.channel[trailOf b] = true) (waits : commandWaits s b = false)
    (full : 12 ≤ queueLength s.rpu) :
    build s b pair = (s.setFlag .txqFull).setLink b (s.als[b].refusedBy pair) := by
  have refused : commandTaken s b = false := by
    rw [← Bool.not_eq_true, commandTaken_iff]
    simp [waits, full]
  have offered := offerCommand_full s (commandFor s b pair) waits full
  simp only [build, lead, trail, refused, offered, Bool.and_self, if_true, Bool.false_eq_true, if_false]

theorem build_copyFailed
    (failed : copyOk s.osu.channel[leadOf b] = false ∨ copyOk s.osu.channel[trailOf b] = false) :
    build s b pair = (copyError s b).setLink b s.als[b].copyFailed := by
  rcases failed with h | h <;>
    simp only [build, h, Bool.false_and, Bool.and_false, Bool.false_eq_true, if_false]

end

/-- A build ends in one of three ways. -/
theorem build_cases (s : State) (b : BogieId) (pair : CodePair) :
    (commandTaken s b = true ∧ build s b pair = (offerCommand s (commandFor s b pair)).setLink b
        (s.als[b].sent s.tables.bogie[b].echoCompare (commandFor s b pair) pair)) ∨
    (commandWaits s b = false ∧
      build s b pair = (s.setFlag .txqFull).setLink b (s.als[b].refusedBy pair)) ∨
    build s b pair = (copyError s b).setLink b s.als[b].copyFailed := by
  cases lead : copyOk s.osu.channel[leadOf b] with
  | false => exact .inr (.inr (build_copyFailed pair (.inl lead)))
  | true =>
    cases trail : copyOk s.osu.channel[trailOf b] with
    | false => exact .inr (.inr (build_copyFailed pair (.inr trail)))
    | true =>
      cases taken : commandTaken s b with
      | true => exact .inl ⟨rfl, build_taken pair lead trail taken⟩
      | false =>
        obtain ⟨waits, full⟩ := not_or.mp (mt (commandTaken_iff s b).mpr (by simp [taken]))
        rw [Bool.not_eq_true] at waits
        exact .inr (.inl ⟨waits, build_refused pair lead trail waits (Nat.not_lt.mp full)⟩)

theorem build_als_other (s : State) {b c : BogieId} (pair : CodePair) (other : c ≠ b) :
    (build s b pair).als[c] = s.als[c] := by
  obtain ⟨-, h⟩ | ⟨-, h⟩ | h := build_cases s b pair <;> rw [h, setLink_als_other _ _ other] <;> simp

theorem build_flag_mono {s : State} {f : Flag} (b : BogieId) (pair : CodePair) (h : s.flag f = true) :
    (build s b pair).flag f = true := by
  obtain ⟨-, e⟩ | ⟨-, e⟩ | e := build_cases s b pair <;> rw [e, setLink_flag]
  · exact offerCommand_flag_mono _ h
  · simp [h]
  · simp [copyError_flag, h]

/-- Settles O30, by the end of the build: its frame taken in place, at the back, or refused. -/
theorem commandBuilt : Obligations.CommandBuilt := by
  intro s b pair lead trail f
  have taken (h : commandWaits s b = true ∨ queueLength s.rpu < 12) :=
    build_taken pair lead trail ((commandTaken_iff s b).mpr h)
  refine ⟨fun waits => ?_, fun waits room => ?_, fun h => ?_, fun waits full => ?_,
    fun c other => build_als_other s pair other, ?_, by simp⟩
  · rw [taken (.inl waits), offerCommand_waits _ (commandFor s b pair) waits]
    rfl
  · rw [taken (.inr room), offerCommand_room _ (commandFor s b pair) waits room]
    rfl
  · rw [taken h, setLink_als_self]
    rfl
  · rw [build_refused pair lead trail waits full, setLink_als_self]
    exact ⟨by simp, by simp, rfl⟩
  · by_cases h : commandWaits s b = true ∨ queueLength s.rpu < 12
    · simp [taken h]
    · obtain ⟨idle, full⟩ := not_or.mp h
      simp [build_refused pair lead trail (Bool.not_eq_true _ ▸ idle) (Nat.not_lt.mp full)]

/-- Settles O31: the copy error of the shaping unit, and the link that it ends. -/
theorem copyFailureEndsBuild : Obligations.CopyFailureEndsBuild := by
  intro s b pair failed t
  have ended : t = (copyError s b).setLink b s.als[b].copyFailed := build_copyFailed pair failed
  have link : t.als[b] = s.als[b].copyFailed := by rw [ended, setLink_als_self]
  have osu : t.osu = (copyError s b).osu := by simp [ended]
  refine ⟨?_, link, fun c other => build_als_other s pair other, ?_, ?_, fun c own => ?_, fun tag e => ?_⟩
  · simp [ended, copyError_rpu]
  · simp [osu, copyError_excluded]
  · simp [ended, copyError_flag]
  · rw [osu]
    exact copyError_issued s b own
  · have idle : t.als[b].outstanding = none := by rw [link]; rfl
    simp only [compareAnswer, idle]

end Sys2Proof.Proofs

/-! SUPPORT. Echoes and returned COMMAND frames (R127 to R129, R131, R133 to R135): the bogie that an address means,
what an echo that is used leaves of its link, and what the comparison of an ANSWER makes of it. -/

namespace Sys2Proof.Proofs

open Sys2Proof.Machine

/-! ## The bogie of an address (R127) -/

/-- An enabled bogie with an actuator address. -/
def Serves (s : State) (address : Addr) (b : BogieId) : Prop :=
  s.tables.bogie[b].enabled = true ∧ s.tables.bogie[b].actuator = address.toNat

theorem serves_iff (s : State) (address : Addr) (b : BogieId) :
    (s.tables.bogie[b].enabled && s.tables.bogie[b].actuator == address.toNat) = true ↔
      Serves s address b := by
  simp only [Serves, Bool.and_eq_true, beq_iff_eq]

theorem bogieOf_eq_none {s : State} {address : Addr} (h : ∀ b, ¬ Serves s address b) :
    bogieOf s address = none := by
  simpa only [bogieOf, List.find?_eq_none, serves_iff] using fun b _ => h b

/-- The first enabled bogie with the address is meant. -/
theorem bogieOf_eq_some {s : State} {address : Addr} {b : BogieId} (h : Serves s address b)
    (first : ∀ c < b, ¬ Serves s address c) : bogieOf s address = some b := by
  rw [bogieOf, List.find?_eq_some_iff_getElem]
  refine ⟨(serves_iff s address b).mpr h, b.val, by simp, by simp, fun j before => ?_⟩
  rw [Bool.not_eq_true', ← Bool.not_eq_true, serves_iff]
  exact first _ (by simpa [Fin.lt_def] using before)

theorem bogieOf_enabled {s : State} {address : Addr} {b : BogieId} (h : bogieOf s address = some b) :
    s.tables.bogie[b].enabled = true :=
  have serves := List.find?_some (p := fun b : BogieId =>
    s.tables.bogie[b].enabled && s.tables.bogie[b].actuator == address.toNat) h
  ((serves_iff s address b).mp serves).1

/-! ## Returned COMMAND frames (R131) -/

theorem exec_returnedCommand {s : State} (destination : Addr) (tag : Tag) (runs : forwardOnly s = false) :
    exec (.returnedCommand destination tag) s = .next (handleReturnedCommand s destination) := by
  show execReturnedCommand destination tag s = _
  simp only [execReturnedCommand, runs, Bool.false_eq_true, if_false]

theorem handleReturnedCommand_some {s : State} {destination : Addr} {b : BogieId}
    (h : bogieOf s destination = some b) : handleReturnedCommand s destination =
      (s.setFlag .actAbsent).setLink b { s.als[b] with outstanding := none } := by
  simp only [handleReturnedCommand, h]

theorem handleReturnedCommand_flag (s : State) (destination : Addr) (f : Flag) :
    (handleReturnedCommand s destination).flag f = (s.setFlag .actAbsent).flag f := by
  unfold handleReturnedCommand
  dsimp only
  split <;> rfl

/-- A link without an outstanding command stands as it is (R131). -/
theorem handleReturnedCommand_idle {s : State} {destination : Addr}
    (idle : ∀ b, bogieOf s destination = some b → s.als[b].outstanding = none) :
    handleReturnedCommand s destination = s.setFlag .actAbsent := by
  cases h : bogieOf s destination with
  | none => simp only [handleReturnedCommand, h]
  | some b =>
    have same : { s.als[b] with outstanding := none } = (s.setFlag .actAbsent).als[b] := by
      rw [← idle b h]
      rfl
    rw [handleReturnedCommand_some h, same, setLink_unchanged]

/-- Settles O11: the link of the bogie whose actuator is addressed loses its command, and nothing else changes. -/
theorem returnedCommandEndsExchange : Obligations.ReturnedCommandEndsExchange := by
  intro destination tag s runs
  refine ⟨_, exec_returnedCommand destination tag runs, ?_, by simp, by simp, by simp, fun f other => ?_,
    fun b own => ?_, handleReturnedCommand_idle⟩
  · simp [handleReturnedCommand_flag]
  · simp [handleReturnedCommand_flag, other.symm]
  · rw [handleReturnedCommand_some own]
    refine ⟨setLink_als_self .., fun c other => by simp [setLink_als_other _ _ other], fun pair => ?_⟩
    rw [takeOffer_enabled pair (by simpa using bogieOf_enabled own), setLink_als_self]
    exact if_neg fun ⟨_, awaited⟩ => awaited rfl

/-! ## What an echo that is used leaves (R133, R134) -/

theorem offTrack_iff (s : State) (c : ChannelId) (measured : Nat) :
    offTrack s c measured = true ↔ BeyondLimit s c measured := by
  unfold offTrack BeyondLimit
  cases s.osu.channel[c].issued <;> simp

theorem trackedCount_beyond {s : State} {c : ChannelId} {measured : Nat} (count : Nat)
    (h : BeyondLimit s c measured) : trackedCount s c measured count = min (count + 1) 15 :=
  if_pos ((offTrack_iff s c measured).mpr h)

theorem trackedCount_within {s : State} {c : ChannelId} {measured : Nat} (count : Nat)
    (h : ¬ BeyondLimit s c measured) : trackedCount s c measured count = 0 :=
  if_neg (mt (offTrack_iff s c measured).mp h)

theorem trackError_iff (s : State) (c : ChannelId) (measured count : Nat) :
    trackError s c measured count = true ↔ BeyondLimit s c measured ∧
      s.tables.channel[c].trackCount ≤ trackedCount s c measured count := by
  simp only [trackError, Bool.and_eq_true, decide_eq_true_eq, offTrack_iff]

/-- The link after an echo of the bogie (R133, R134). -/
def echoLink (s : State) (b : BogieId) (e : Echo) (l : Link) : Link :=
  { l with
    measured := some { lead := e.measuredLead.toNat, trail := e.measuredTrail.toNat }
    status := some (statusOf e.status)
    trackLead := trackedCount s (leadOf b) e.measuredLead.toNat l.trackLead
    trackTrail := trackedCount s (trailOf b) e.measuredTrail.toNat l.trackTrail }

theorem storeEcho_als_self (s : State) (b : BogieId) (e : Echo) :
    (storeEcho s b e).als[b] = echoLink s b e s.als[b] := by
  simp only [storeEcho, State.setFlagIf_keeps, setLink_als_self]
  rfl

theorem storeEcho_als_other (s : State) {b c : BogieId} (e : Echo) (other : c ≠ b) :
    (storeEcho s b e).als[c] = s.als[c] := by
  simp only [storeEcho, State.setFlagIf_keeps, setLink_als_other _ _ other]

/-- The link as it was when an echo came, but for the notice count and the ignoring (R128, R135). -/
def noticed (s : State) (b : BogieId) (notices : Nat) (ignoring : Bool) : State :=
  s.setLink b { s.als[b] with notices := notices, ignoring := ignoring }

theorem noticedEcho_als_self (s : State) (b : BogieId) (e : Echo) (notices : Nat) (ignoring : Bool) :
    (storeEcho (noticed s b notices ignoring) b e).als[b] =
      echoLink s b e { s.als[b] with notices := notices, ignoring := ignoring } := by
  rw [storeEcho_als_self, noticed, setLink_als_self]
  rfl

theorem noticedEcho_als_other (s : State) {b c : BogieId} (e : Echo) (notices : Nat) (ignoring : Bool)
    (other : c ≠ b) : (storeEcho (noticed s b notices ignoring) b e).als[c] = s.als[c] := by
  rw [storeEcho_als_other _ _ other, noticed, setLink_als_other _ _ other]

@[simp] theorem noticed_keeps (s : State) (b : BogieId) (notices : Nat) (ignoring : Bool) :
    (noticed s b notices ignoring).tables = s.tables ∧ (noticed s b notices ignoring).rpu = s.rpu ∧
    (noticed s b notices ignoring).sit = s.sit ∧ (noticed s b notices ignoring).opu = s.opu ∧
    (noticed s b notices ignoring).bru = s.bru ∧ (noticed s b notices ignoring).sgc = s.sgc ∧
    (noticed s b notices ignoring).slu = s.slu ∧ (noticed s b notices ignoring).osu = s.osu ∧
    (noticed s b notices ignoring).csu = s.csu ∧ (noticed s b notices ignoring).mrh = s.mrh ∧
    (noticed s b notices ignoring).sdu = s.sdu := by
  simp [noticed]

theorem noticedEcho_flag (s : State) (b : BogieId) (e : Echo) (notices : Nat) (ignoring : Bool) (f : Flag) :
    (storeEcho (noticed s b notices ignoring) b e).flag f = true ↔
      (s.flag f = true ∨ statusOf e.status ≠ 0 ∧ Flag.actStatus = f) ∨
      (trackError s (leadOf b) e.measuredLead.toNat s.als[b].trackLead = true ∨
        trackError s (trailOf b) e.measuredTrail.toNat s.als[b].trackTrail = true) ∧ Flag.trackErr = f := by
  simp only [storeEcho, noticed, State.flag_setFlagIf, setLink_flag, setLink_als_self, Bool.or_eq_true,
    Bool.and_eq_true, decide_eq_true_eq]
  rfl

/-- What an echo leaves is stored as R133 and R134 say, whatever is written of the notices with it. -/
theorem noticedEcho_stored (s : State) (b : BogieId) (e : Echo) (notices : Nat) (ignoring : Bool) :
    EchoStored s b e (storeEcho (noticed s b notices ignoring) b e) := by
  have flag := noticedEcho_flag s b e notices ignoring
  unfold EchoStored
  rw [noticedEcho_als_self]
  refine ⟨rfl, rfl, fun faulty => (flag _).mpr (.inl (.inr ⟨faulty, rfl⟩)), trackedCount_beyond _,
    trackedCount_within _, trackedCount_beyond _, trackedCount_within _, ?_⟩
  simp only [flag, trackError_iff, reduceCtorEq, and_false, or_false, and_true]
  rfl

/-- The fields in which an echo is stored, and the flags, as another state has them. -/
theorem echoStored_of_same {s t u : State} {b : BogieId} {e : Echo} (h : EchoStored s b e t)
    (measured : u.als[b].measured = t.als[b].measured) (status : u.als[b].status = t.als[b].status)
    (lead : u.als[b].trackLead = t.als[b].trackLead) (trail : u.als[b].trackTrail = t.als[b].trackTrail)
    (actStatus : u.flag .actStatus = t.flag .actStatus) (trackErr : u.flag .trackErr = t.flag .trackErr) :
    EchoStored s b e u := by
  unfold EchoStored at h ⊢
  rwa [measured, status, lead, trail, actStatus, trackErr]

/-! ## An ANSWER (R128, R129) -/

theorem exec_answer {s : State} (source : Addr) (tag : Tag) (e : Echo) (runs : forwardOnly s = false) :
    exec (.answer source tag e) s = .next (handleAnswer s source tag e) := by
  show execAnswer source tag e s = _
  simp only [execAnswer, runs, Bool.false_eq_true, if_false]

/-- The state in which an ANSWER has been stored, and is then compared (R128, R133, R134). -/
def answered (s : State) (b : BogieId) (e : Echo) : State := storeEcho (noticed s b 0 false) b e

theorem handleAnswer_some {s : State} {source : Addr} {b : BogieId} (tag : Tag) (e : Echo)
    (h : bogieOf s source = some b) :
    handleAnswer s source tag e = compareAnswer (answered s b e) b tag e := by
  simp only [handleAnswer, h]
  rfl

theorem handleAnswer_none {s : State} {source : Addr} (tag : Tag) (e : Echo)
    (h : bogieOf s source = none) : handleAnswer s source tag e = s := by
  simp only [handleAnswer, h]

theorem answered_als_self (s : State) (b : BogieId) (e : Echo) : (answered s b e).als[b] =
    echoLink s b e { s.als[b] with notices := 0, ignoring := false } := noticedEcho_als_self ..

theorem answered_als_other (s : State) {b c : BogieId} (e : Echo) (other : c ≠ b) :
    (answered s b e).als[c] = s.als[c] := noticedEcho_als_other s e 0 false other

@[simp] theorem answered_keeps (s : State) (b : BogieId) (e : Echo) :
    (answered s b e).tables = s.tables ∧ (answered s b e).rpu = s.rpu ∧
    (answered s b e).sit = s.sit ∧ (answered s b e).opu = s.opu ∧ (answered s b e).bru = s.bru ∧
    (answered s b e).sgc = s.sgc ∧ (answered s b e).slu = s.slu ∧ (answered s b e).osu = s.osu ∧
    (answered s b e).csu = s.csu ∧ (answered s b e).mrh = s.mrh ∧
    (answered s b e).sdu.part = s.sdu.part := by
  simp [answered]

theorem compareAnswer_other {s : State} {b : BogieId} {tag : Tag} (e : Echo)
    (other : ∀ o, s.als[b].outstanding = some o → tag ≠ o.tag) : compareAnswer s b tag e = s := by
  unfold compareAnswer
  split
  · rfl
  · next o awaited => rw [if_neg (other o awaited)]

/-- The link of an ended exchange (R128): a pending pair is still to be built. -/
def exchangeEnded (s : State) (b : BogieId) : State :=
  s.setLink b { s.als[b] with mismatch := 0, outstanding := none }

theorem compareAnswer_equal {s : State} {b : BogieId} {e : Echo} {o : Outstanding}
    (awaited : s.als[b].outstanding = some o) (lead : e.receivedLead.toNat = o.codes.lead)
    (trail : e.receivedTrail.toNat = o.codes.trail) : compareAnswer s b o.tag e =
      match s.als[b].pending with
      | some pair => build (exchangeEnded s b) b pair
      | none => exchangeEnded s b := by
  simp only [compareAnswer, awaited, if_true, lead, trail, and_self]
  rfl

/-- The mismatch counted, with ECHO_MISMATCH, before the command is resent (R129). -/
def mismatched (s : State) (b : BogieId) : State :=
  (s.setFlag .echoMismatch).setLink b { s.als[b] with mismatch := s.als[b].mismatch + 1 }

/-- The bogie excluded for actuator fault at the third mismatch, before its frame is withdrawn (R129). -/
def faulted (s : State) (b : BogieId) : State :=
  ((s.setFlag .echoMismatch).setLink b { s.als[b] with
    mismatch := 3, excluded := true, outstanding := none, pending := none }).setFlag .actFault

theorem compareAnswer_differs {s : State} {b : BogieId} {e : Echo} {o : Outstanding}
    (awaited : s.als[b].outstanding = some o)
    (differs : ¬ (e.receivedLead.toNat = o.codes.lead ∧ e.receivedTrail.toNat = o.codes.trail)) :
    compareAnswer s b o.tag e = answerDiffers s b o := by
  simp only [compareAnswer, awaited, if_true, if_neg differs]

theorem answerDiffers_resent {s : State} {b : BogieId} (o : Outstanding) (h : s.als[b].mismatch < 2) :
    answerDiffers s b o = build (mismatched s b) b (s.als[b].pending.getD o.targets) :=
  if_pos (Nat.succ_lt_succ h)

theorem answerDiffers_third {s : State} {b : BogieId} (o : Outstanding) (h : 2 ≤ s.als[b].mismatch) :
    answerDiffers s b o = withdrawBogie (faulted s b) b :=
  if_neg (Nat.not_lt.mpr (Nat.succ_le_succ h))

/-- Settles O32: the first enabled bogie with the address is meant, and its ANSWER is stored, then compared. -/
theorem answerHandled : Obligations.AnswerHandled := by
  intro source tag e s serves
  refine ⟨fun nobody => ?_, fun b serving first => ?_⟩
  · have none_ : bogieOf s source = none := bogieOf_eq_none nobody
    exact ⟨none_, fun runs => by rw [exec_answer _ _ _ runs, handleAnswer_none _ _ none_]⟩
  have own : bogieOf s source = some b := bogieOf_eq_some serving first
  refine ⟨own, ?_⟩
  intro runs stored
  have link := answered_als_self s b e
  have echo : EchoStored s b e (answered s b e) := noticedEcho_stored s b e 0 false
  have pending : (answered s b e).als[b].pending = s.als[b].pending := by rw [link]; rfl
  have outstanding : (answered s b e).als[b].outstanding = s.als[b].outstanding := by rw [link]; rfl
  rw [exec_answer _ _ _ runs, handleAnswer_some _ _ own]
  refine ⟨fun other => ⟨_, rfl, ?_⟩, fun o awaited same lead trail => ?_⟩
  · rw [compareAnswer_other e (by rwa [outstanding])]
    refine ⟨⟨echo, ?_, ?_, ?_, pending, fun c other => answered_als_other s e other, by simp, by simp,
      by simp, by simp, by simp, by simp, by simp, by simp⟩, outstanding, ?_⟩
    all_goals rw [link]; rfl
  · rw [same, compareAnswer_equal (outstanding.trans awaited) lead trail, pending]
    have ended : (exchangeEnded (answered s b e) b).als[b] =
        { (answered s b e).als[b] with mismatch := 0, outstanding := none } := setLink_als_self ..
    refine ⟨exchangeEnded (answered s b e) b, ⟨?_, ?_, ?_, ?_, ?_, fun c other => ?_, ?_⟩, ?_, ?_,
      fun idle => by rw [idle], fun pair waits => by rw [waits]⟩
    · exact echoStored_of_same echo (by rw [ended]) (by rw [ended]) (by rw [ended]) (by rw [ended]) rfl rfl
    · rw [ended, link]; rfl
    · rw [ended, link]; rfl
    · rw [ended, link]; rfl
    · rw [ended]; exact pending
    · rw [exchangeEnded, setLink_als_other _ _ other, answered_als_other s e other]
    · simp [exchangeEnded]
    · rw [ended]
    · rw [ended]

/-! ## O33

In a namespace of its own: the model has a function of the same name. -/

namespace Echoes

/-- Settles O33: the third mismatch excludes the bogie, and one before it is counted and built again. -/
theorem answerDiffers : Obligations.AnswerDiffers := by
  intro source e s b o runs own awaited differs
  have link := answered_als_self s b e
  have echo : EchoStored s b e (answered s b e) := noticedEcho_stored s b e 0 false
  have outstanding : (answered s b e).als[b].outstanding = s.als[b].outstanding := by rw [link]; rfl
  have pending : (answered s b e).als[b].pending = s.als[b].pending := by rw [link]; rfl
  have mismatch : (answered s b e).als[b].mismatch = s.als[b].mismatch := by rw [link]; rfl
  rw [exec_answer _ _ _ runs, handleAnswer_some _ _ own, compareAnswer_differs (outstanding.trans awaited) differs]
  refine ⟨_, rfl, ?_⟩
  by_cases few : s.als[b].mismatch < 2
  · rw [answerDiffers_resent o (mismatch ▸ few), pending]
    have counted : (mismatched (answered s b e) b).als[b] = { (answered s b e).als[b] with
        mismatch := (answered s b e).als[b].mismatch + 1 } := setLink_als_self ..
    refine ⟨build_flag_mono _ _ (by simp [mismatched]), fun third => absurd few (Nat.not_lt.mpr third),
      fun _ => ⟨mismatched (answered s b e) b, ?_⟩⟩
    refine ⟨?_, by simp [mismatched], by simp [mismatched], by simp [mismatched], by simp [mismatched],
      by simp [mismatched], by simp [mismatched], by simp [mismatched], by simp [mismatched],
      by simp [mismatched], by simp [mismatched], by simp [mismatched], fun c other => ?_,
      ?_, ?_, ?_, ?_, ?_, ?_, rfl⟩
    · exact echoStored_of_same echo (by rw [counted]) (by rw [counted]) (by rw [counted]) (by rw [counted])
        (by simp [mismatched]) (by simp [mismatched])
    · rw [mismatched, setLink_als_other _ _ other]
      simpa using answered_als_other s e other
    all_goals rw [counted, link]; rfl
  · have faulty : (withdrawBogie (faulted (answered s b e) b) b).als[b] = { (answered s b e).als[b] with
        mismatch := 3, excluded := true, outstanding := none, pending := none } := by
      simp only [withdrawBogie_keeps, faulted, State.setFlag_keeps, setLink_als_self]
    rw [answerDiffers_third o (mismatch ▸ Nat.not_lt.mp few)]
    refine ⟨by simp [faulted], fun _ => ⟨?_, by simp [faulted], ?_, ?_, ?_, ?_, by simp [faulted], ?_⟩,
      fun few' => absurd few' few⟩
    · exact echoStored_of_same echo (by rw [faulty]) (by rw [faulty]) (by rw [faulty]) (by rw [faulty])
        (by simp [faulted]) (by simp [faulted])
    · rw [faulty]
    · rw [faulty]
    · rw [faulty]
    · rw [faulty]
    · simp [withdrawBogie, faulted]

end Echoes

/-! ## A NOTICE (R135) -/

theorem exec_notice {s : State} (source : Addr) (tag : Tag) (e : Echo) (runs : forwardOnly s = false) :
    exec (.notice source tag e) s = .next (handleNotice s source e) := by
  show execNotice source tag e s = _
  simp only [execNotice, runs, Bool.false_eq_true, if_false]

section

variable {s : State} {source : Addr} {b : BogieId} (e : Echo) (own : bogieOf s source = some b)
include own

theorem handleNotice_ignored (ignoring : s.als[b].ignoring = true) : handleNotice s source e = s := by
  simp only [handleNotice, own, ignoring, if_true]

theorem handleNotice_counted (heeded : s.als[b].ignoring = false) (few : s.als[b].notices < 5) :
    handleNotice s source e = storeEcho (noticed s b (s.als[b].notices + 1) s.als[b].ignoring) b e := by
  simp only [handleNotice, own, heeded, Bool.false_eq_true, if_false, few, if_true]
  rfl

/-- The sixth notice in a row is not stored: the ignoring begins (R135). -/
theorem handleNotice_saturated (heeded : s.als[b].ignoring = false) (many : 5 ≤ s.als[b].notices) :
    handleNotice s source e = (noticed s b 6 true).setFlag .noticeSat := by
  simp only [handleNotice, own, heeded, Bool.false_eq_true, if_false, Nat.not_lt.mpr many]
  rfl

end

/-- Settles O34, by the notice count and the ignoring of the bogie that the source means. -/
theorem noticeHandled : Obligations.NoticeHandled := by
  intro source tag e s runs
  rw [exec_notice _ _ _ runs]
  refine ⟨fun nobody => ?_, fun b own => ⟨fun ignoring => ?_, fun heeded sixth => ?_, fun heeded few => ?_⟩⟩
  · simp only [handleNotice, nobody]
  · rw [handleNotice_ignored e own ignoring]
  · rw [handleNotice_saturated e own heeded sixth.ge]
    rfl
  · rw [handleNotice_counted e own heeded few]
    refine ⟨_, rfl, noticedEcho_stored .., ?_, ?_, ?_, ?_, ?_, ?_,
      fun c other => noticedEcho_als_other s e _ _ other, by simp⟩
    all_goals rw [noticedEcho_als_self]
    case refine_2 => exact heeded
    all_goals rfl

end Sys2Proof.Proofs

/-! SUPPORT. The links while nothing may be sent (R125) and the COMMAND frames that wait (R161): one relation between
two states, said of each bogie, and the two ways in which an operation stands in it: it lets a bogie's exchange be or
ends part of it, or it leaves nothing of it. -/

namespace Sys2Proof.Proofs

open Sys2Proof.Machine

/-! ## One relation for the two invariants -/

theorem barred_iff (s : State) (b : BogieId) : barred s b = true ↔
    s.osu.excluded[b] = true ∨ s.als[b].excluded = true ∨ s.tables.bogie[b].enabled = false ∨
    s.sdu.part = .config := by
  simp only [barred, bogieExcluded, Bool.or_eq_true, Bool.not_eq_true', decide_eq_true_eq, or_assoc]

/-- A barred bogie has no outstanding command, no pending pair and no waiting frame (R125). -/
def QuietAt (s : State) (b : BogieId) : Prop :=
  barred s b = true →
    s.als[b].outstanding = none ∧ s.als[b].pending = none ∧ commandWaits s b = false

/-- The waiting frames of a bogie carry the tag and the codes of its outstanding command (R161). -/
def MatchAt (s : State) (b : BogieId) : Prop :=
  ∀ f ∈ s.rpu.commands, f.bogie = b → ∀ o, s.als[b].outstanding = some o →
    o.tag = f.tag ∧ o.codes = { lead := f.lead, trail := f.trail }

theorem linksQuiet_iff (s : State) : LinksQuiet s ↔ ∀ b, QuietAt s b := Iff.rfl

theorem framesMatch_iff (s : State) : FramesMatch s ↔ ∀ b, MatchAt s b := by
  constructor
  · rintro h b f waits rfl
    exact h f waits
  · exact fun h f waits => h f.bogie f waits rfl

/-- What of the two is so in `s` is so in `t` for a bogie. -/
structure KeepsAt (s t : State) (b : BogieId) : Prop where
  quiet : LinksQuiet s → QuietAt t b
  frames : FramesMatch s → MatchAt t b

/-- What of the two is so in `s` is so in `t`. -/
def KeepsLinks (s t : State) : Prop := ∀ b, KeepsAt s t b

theorem KeepsLinks.linksQuiet {s t : State} (h : KeepsLinks s t) (hs : LinksQuiet s) : LinksQuiet t :=
  (linksQuiet_iff t).mpr fun b => (h b).quiet hs

theorem KeepsLinks.framesMatch {s t : State} (h : KeepsLinks s t) (hs : FramesMatch s) : FramesMatch t :=
  (framesMatch_iff t).mpr fun b => (h b).frames hs

theorem KeepsLinks.refl (s : State) : KeepsLinks s s := fun b =>
  ⟨fun h => (linksQuiet_iff s).mp h b, fun h => (framesMatch_iff s).mp h b⟩

theorem KeepsLinks.trans {s t u : State} (h : KeepsLinks s t) (k : KeepsLinks t u) : KeepsLinks s u :=
  fun b => ⟨(k b).quiet ∘ h.linksQuiet, (k b).frames ∘ h.framesMatch⟩

/-- An operation that is left out by a test. -/
theorem KeepsLinks.ite {s t u : State} (c : Prop) [Decidable c] (ht : KeepsLinks s t)
    (hu : KeepsLinks s u) : KeepsLinks s (if c then t else u) := by
  split
  · exact ht
  · exact hu

/-! ## An exchange let be, or ended in part -/

/-- A link that has of an exchange no more than another: no other command outstanding, no new pair pending. -/
structure LinkCalms (l m : Link) : Prop where
  outstanding : ∀ o, m.outstanding = some o →
    ∃ p, l.outstanding = some p ∧ p.tag = o.tag ∧ p.codes = o.codes
  pending : l.pending = none → m.pending = none

theorem LinkCalms.of_same {l m : Link} (outstanding : m.outstanding = l.outstanding)
    (pending : m.pending = l.pending) : LinkCalms l m :=
  ⟨fun o h => ⟨o, outstanding ▸ h, rfl, rfl⟩, pending.trans⟩

@[simp] theorem LinkCalms.refl (l : Link) : LinkCalms l l := .of_same rfl rfl

/-- The command ended, the pair as it was. -/
theorem LinkCalms.of_idle {l m : Link} (idle : m.outstanding = none) (pending : m.pending = l.pending) :
    LinkCalms l m := ⟨fun _ h => (nomatch idle.symm.trans h), pending.trans⟩

theorem LinkCalms.trans {l m n : Link} (h : LinkCalms l m) (k : LinkCalms m n) : LinkCalms l n where
  outstanding o awaited := by
    obtain ⟨p, held, tag, codes⟩ := k.outstanding o awaited
    obtain ⟨q, held', tag', codes'⟩ := h.outstanding p held
    exact ⟨q, held', tag'.trans tag, codes'.trans codes⟩
  pending := k.pending ∘ h.pending

/-- A bogie of which a later state has no more: it is barred only if it was, its exchange and its waiting frames
are of those that it had. What an operation leaves as it stands is left to the frame lemmas. -/
structure CalmsAt (s t : State) (b : BogieId) : Prop where
  admitted : barred t b = true → barred s b = true := by simp [barred_iff]
  link : LinkCalms s.als[b] t.als[b] := by simp
  commands : ∀ f ∈ t.rpu.commands, f.bogie = b → f ∈ s.rpu.commands := by simp +contextual

theorem CalmsAt.trans {s t u : State} {b : BogieId} (h : CalmsAt s t b) (k : CalmsAt t u b) :
    CalmsAt s u b where
  admitted := h.admitted ∘ k.admitted
  link := h.link.trans k.link
  commands f waits own := h.commands f (k.commands f waits own) own

theorem CalmsAt.keepsAt {s t : State} {b : BogieId} (h : CalmsAt s t b) : KeepsAt s t b where
  quiet hs bars := by
    obtain ⟨idle, nothing, unsent⟩ := hs b (h.admitted bars)
    refine ⟨Option.eq_none_iff_forall_ne_some.mpr fun o awaited => ?_, h.link.pending nothing, ?_⟩
    · obtain ⟨p, held, -⟩ := h.link.outstanding o awaited
      rw [idle] at held
      cases held
    · rw [← Bool.not_eq_true, commandWaits_iff] at unsent ⊢
      rintro ⟨f, waits, own⟩
      exact unsent ⟨f, h.commands f waits own, own⟩
  frames hs f waits own o awaited := by
    obtain ⟨p, held, tag, codes⟩ := h.link.outstanding o awaited
    obtain ⟨tag', codes'⟩ := (framesMatch_iff s).mp hs b f (h.commands f waits own) own p held
    exact ⟨tag.symm.trans tag', codes.symm.trans codes'⟩

theorem KeepsLinks.of_calms {s t : State} (h : ∀ b, CalmsAt s t b) : KeepsLinks s t :=
  fun b => (h b).keepsAt

/-! ## An exchange of which nothing is left -/

/-- A bogie with no command outstanding, no pair pending and no frame waiting. -/
structure Silenced (t : State) (b : BogieId) : Prop where
  outstanding : t.als[b].outstanding = none
  pending : t.als[b].pending = none
  commands : ∀ f ∈ t.rpu.commands, f.bogie ≠ b

theorem Silenced.keepsAt {t : State} {b : BogieId} (h : Silenced t b) (s : State) : KeepsAt s t b where
  quiet _ _ := by
    refine ⟨h.outstanding, h.pending, ?_⟩
    rw [← Bool.not_eq_true, commandWaits_iff]
    rintro ⟨f, waits, own⟩
    exact h.commands f waits own
  frames _ f waits own := absurd own (h.commands f waits)

theorem KeepsLinks.of_silenced {s t : State} (h : ∀ b, Silenced t b) : KeepsLinks s t :=
  fun b => (h b).keepsAt s

/-- One bogie silenced, the others let be. -/
theorem KeepsLinks.of_silenced_one {s t : State} (b : BogieId) (own : Silenced t b)
    (others : ∀ c, c ≠ b → CalmsAt s t c) : KeepsLinks s t := fun c => by
  by_cases h : c = b
  · rw [h]
    exact own.keepsAt s
  · exact (others c h).keepsAt

/-! ## Single fields and single links -/

theorem setFlag_keepsLinks (s : State) (f : Flag) : KeepsLinks s (s.setFlag f) := .of_calms fun _ => {}

theorem setFlagIf_keepsLinks (s : State) (c : Bool) (f : Flag) : KeepsLinks s (s.setFlagIf c f) :=
  .of_calms fun _ => {}

theorem setCsu_keepsLinks (s : State) (x : Csu) : KeepsLinks s (s.setCsu x) := .of_calms fun _ => {}

theorem setOpu_keepsLinks (s : State) (x : Opu) : KeepsLinks s (s.setOpu x) := .of_calms fun _ => {}

theorem setSlu_keepsLinks (s : State) (x : Slu) : KeepsLinks s (s.setSlu x) := .of_calms fun _ => {}

theorem setMrh_keepsLinks (s : State) (x : Mrh) : KeepsLinks s (s.setMrh x) := .of_calms fun _ => {}

/-- The Ring Port Unit replaced by one with no other COMMAND frame. -/
theorem setRpu_keepsLinks (s : State) {x : Rpu} (h : x.commands ⊆ s.rpu.commands) :
    KeepsLinks s (s.setRpu x) := .of_calms fun _ => { commands := fun _ waits _ => h waits }

/-- The shaping unit replaced by one that excludes no other bogie. -/
theorem setOsu_keepsLinks (s : State) {x : Osu}
    (h : ∀ b : BogieId, x.excluded[b] = true → s.osu.excluded[b] = true) : KeepsLinks s (s.setOsu x) :=
  .of_calms fun b => {
    admitted := by
      rw [barred_iff, barred_iff]
      exact Or.imp_left (h b) }

/-- A part state that is CONFIG only if it was. -/
theorem setSdu_keepsLinks (s : State) {x : Sdu} (h : x.part = .config → s.sdu.part = .config) :
    KeepsLinks s (s.setSdu x) :=
  .of_calms fun b => {
    admitted := by
      rw [barred_iff, barred_iff]
      exact Or.imp_right (Or.imp_right (Or.imp_right h)) }

/-- Every link replaced by one with no more of an exchange, and excluded only if it was. -/
theorem setAls_keepsLinks (s : State) {x : Vector Link 4}
    (calms : ∀ b : BogieId, LinkCalms s.als[b] x[b])
    (excluded : ∀ b : BogieId, x[b].excluded = true → s.als[b].excluded = true) :
    KeepsLinks s (s.setAls x) :=
  .of_calms fun b => {
    admitted := by
      rw [barred_iff, barred_iff]
      exact Or.imp_right (Or.imp_left (excluded b))
    link := calms b }

theorem setLink_calmsAt_other (s : State) {b c : BogieId} (l : Link) (other : c ≠ b) :
    CalmsAt s (s.setLink b l) c where
  admitted := by
    rw [barred_iff, barred_iff, setLink_als_other s l other]
    simp
  link := by
    rw [setLink_als_other s l other]
    exact .refl _

theorem setLink_keepsLinks (s : State) (b : BogieId) {l : Link} (calms : LinkCalms s.als[b] l)
    (excluded : l.excluded = s.als[b].excluded) : KeepsLinks s (s.setLink b l) := .of_calms fun c => by
  by_cases own : c = b
  · subst own
    refine { admitted := ?_, link := ?_ }
    · rw [barred_iff, barred_iff, setLink_als_self, excluded]
      simp
    · rwa [setLink_als_self]
  · exact setLink_calmsAt_other s l own

theorem withdrawBogie_commands (s : State) (b : BogieId) :
    ∀ f ∈ (withdrawBogie s b).rpu.commands, f.bogie ≠ b := by
  simp [withdrawBogie]

theorem withdrawBogie_commands_subset (s : State) (b : BogieId) :
    (withdrawBogie s b).rpu.commands ⊆ s.rpu.commands := List.filter_subset_self _

theorem withdrawAll_keepsLinks (s : State) : KeepsLinks s (withdrawAll s) :=
  setRpu_keepsLinks s (List.nil_subset _)

end Sys2Proof.Proofs

/-! SUPPORT. The actuator links keep R125 and R161: builds and offers, echoes, timeouts and returned frames, and the
entries into the part states. -/

namespace Sys2Proof.Proofs

open Sys2Proof.Machine

/-! ## Builds and offers (R116, R124, R125, R132) -/

/-- A COMMAND offered for one bogie changes no waiting frame of another (R160). -/
theorem offerCommand_commands {s : State} {c : CommandFrame} {f : CommandFrame}
    (waits : f ∈ (offerCommand s c).rpu.commands) (other : f.bogie ≠ c.bogie) :
    f ∈ s.rpu.commands := by
  unfold offerCommand at waits
  split at waits
  · obtain ⟨w, held, becomes⟩ := List.mem_map.mp waits
    split at becomes
    · exact absurd (becomes ▸ rfl) other
    · exact becomes ▸ held
  · split at waits
    · exact (List.mem_append.mp waits).resolve_right fun h =>
        other (by rw [List.mem_singleton.mp h])
    · simpa using waits

/-- A COMMAND that the queue takes is the one frame of its bogie that waits (R160, R161). -/
theorem offerCommand_own {s : State} {c f : CommandFrame} (taken : commandTaken s c.bogie = true)
    (waits : f ∈ (offerCommand s c).rpu.commands) (own : f.bogie = c.bogie) : f = c := by
  cases held : commandWaits s c.bogie with
  | true =>
    rw [offerCommand_waits s c held] at waits
    obtain ⟨w, -, becomes⟩ := List.mem_map.mp waits
    split at becomes
    · exact becomes.symm
    · next other => exact absurd (becomes ▸ own) other
  | false =>
    have room := ((commandTaken_iff s c.bogie).mp taken).resolve_left (by simp [held])
    rw [offerCommand_room s c held room] at waits
    refine (List.mem_append.mp waits).elim (fun before => ?_) List.mem_singleton.mp
    rw [← Bool.not_eq_true, commandWaits_iff] at held
    exact absurd ⟨f, before, own⟩ held

theorem offerCommand_calmsAt (s : State) {c : CommandFrame} {b : BogieId} (other : b ≠ c.bogie) :
    CalmsAt s (offerCommand s c) b where
  commands _ waits own := offerCommand_commands waits (own ▸ other)

theorem copyError_calmsAt (s : State) {b c : BogieId} (other : c ≠ b) : CalmsAt s (copyError s b) c where
  admitted := by
    rw [barred_iff, barred_iff, copyError_excluded]
    simp [Vector.getElem_set_ne, Fin.val_ne_of_ne other.symm]
  commands f waits _ := by
    rw [copyError_rpu] at waits
    exact List.mem_of_mem_filter waits

/-- A build ended by a failed copy check leaves nothing of the exchange (R116, R132). -/
theorem copyFailed_silenced (s : State) (b : BogieId) :
    Silenced ((copyError s b).setLink b s.als[b].copyFailed) b where
  outstanding := by rw [setLink_als_self]; rfl
  pending := by rw [setLink_als_self]; rfl
  commands := by simp [copyError_rpu]

theorem build_calmsAt (s : State) {b c : BogieId} (pair : CodePair) (other : c ≠ b) :
    CalmsAt s (build s b pair) c := by
  obtain ⟨-, h⟩ | ⟨-, h⟩ | h := build_cases s b pair <;> rw [h]
  · exact (offerCommand_calmsAt s other).trans (setLink_calmsAt_other _ _ other)
  · have flagged : CalmsAt s (s.setFlag .txqFull) c := {}
    exact flagged.trans (setLink_calmsAt_other _ _ other)
  · exact (copyError_calmsAt s other).trans (setLink_calmsAt_other _ _ other)

/-- A bogie whose link is written with its exclusion as it was is barred as before. -/
theorem setLink_barred {s t : State} {b : BogieId} {l : Link} (osu : t.osu = s.osu)
    (tables : t.tables = s.tables) (part : t.sdu.part = s.sdu.part)
    (excluded : l.excluded = s.als[b].excluded) : barred (t.setLink b l) b = barred s b := by
  rw [Bool.eq_iff_iff, barred_iff, barred_iff, setLink_als_self, excluded]
  simp [osu, tables, part]

/-- A command under echo comparison is outstanding with the tag and the codes of its frame (R125). -/
theorem sent_outstanding {l : Link} {compare : Bool} {f : CommandFrame} {pair : CodePair} {o : Outstanding}
    (awaited : (l.sent compare f pair).outstanding = some o) :
    o.tag = f.tag ∧ o.codes = { lead := f.lead, trail := f.trail } := by
  cases compare with
  | true => cases awaited; exact ⟨rfl, rfl⟩
  | false => cases awaited

/-- The bogie of a build keeps both, when something may be sent to it (R125, R132, R161). -/
theorem build_keepsAt_own (s : State) (b : BogieId) (pair : CodePair)
    (free : LinksQuiet s → barred s b = false) : KeepsAt s (build s b pair) b := by
  have quiet {t : State} {l : Link} (same : barred (t.setLink b l) b = barred s b) :
      LinksQuiet s → QuietAt (t.setLink b l) b := fun hs bars =>
    absurd (same.symm.trans bars) (by rw [free hs]; nofun)
  obtain ⟨taken, h⟩ | ⟨-, h⟩ | h := build_cases s b pair <;> rw [h]
  · refine ⟨quiet (setLink_barred (by simp) (by simp) (by simp) rfl), fun _ f waits own o awaited => ?_⟩
    rw [setLink_als_self] at awaited
    rw [offerCommand_own (c := commandFor s b pair) taken (by simpa using waits) own]
    exact sent_outstanding awaited
  · refine ⟨quiet (setLink_barred (by simp) (by simp) (by simp) rfl), fun _ f _ _ o awaited => ?_⟩
    rw [setLink_als_self] at awaited
    cases awaited
  · exact (copyFailed_silenced s b).keepsAt s

theorem build_keepsLinks (s : State) (b : BogieId) (pair : CodePair)
    (free : LinksQuiet s → barred s b = false) : KeepsLinks s (build s b pair) := fun c => by
  by_cases own : c = b
  · exact own ▸ build_keepsAt_own s b pair free
  · exact (build_calmsAt s pair own).keepsAt

/-- A bogie with a command outstanding is not barred (R125). -/
theorem not_barred_of_outstanding {s : State} {b : BogieId} {o : Outstanding} (hs : LinksQuiet s)
    (awaited : s.als[b].outstanding = some o) : barred s b = false := by
  rw [← Bool.not_eq_true]
  exact fun bars => nomatch (hs b bars).1.symm.trans awaited

/-- A bogie with a pair pending is not barred (R125). -/
theorem not_barred_of_pending {s : State} {b : BogieId} {pair : CodePair} (hs : LinksQuiet s)
    (waits : s.als[b].pending = some pair) : barred s b = false := by
  rw [← Bool.not_eq_true]
  exact fun bars => nomatch (hs b bars).2.1.symm.trans waits

/-- A pair held as pending for a bogie with a command outstanding (R124). -/
theorem setPending_keepsLinks {s : State} {b : BogieId} {o : Outstanding} (pair : CodePair)
    (awaited : s.als[b].outstanding = some o) :
    KeepsLinks s (s.setLink b { s.als[b] with pending := some pair }) := fun c => by
  by_cases own : c = b
  · subst own
    refine ⟨fun hs bars => ?_, fun hs f waits own o' awaited' => ?_⟩
    · rw [setLink_barred (s := s) (t := s) rfl rfl rfl (by rfl), not_barred_of_outstanding hs awaited] at bars
      cases bars
    · rw [setLink_als_self] at awaited'
      exact (framesMatch_iff s).mp hs c f waits own o' awaited'
  · exact (setLink_calmsAt_other s _ own).keepsAt

/-- An offer is taken for a bogie that is neither excluded nor in CONFIG, if there is one (R109, R124). -/
theorem takeOffer_keepsLinks (s : State) (b : BogieId) {offer : Option CodePair}
    (made : offer ≠ none → s.sdu.part ≠ .config ∧ bogieExcluded s b = false) :
    KeepsLinks s (takeOffer s b offer) := by
  cases offer with
  | none => exact .refl s
  | some pair =>
    obtain ⟨running, admitted⟩ := made nofun
    cases enabled : s.tables.bogie[b].enabled with
    | false =>
      rw [(takeOffer_taking s b pair).1 enabled]
      exact .refl s
    | true =>
      rw [takeOffer_enabled pair enabled]
      split
      · next compared =>
        obtain ⟨o, awaited⟩ := Option.ne_none_iff_exists'.mp compared.2
        exact setPending_keepsLinks pair awaited
      · refine build_keepsLinks s b pair fun _ => ?_
        rw [barred, admitted, enabled, decide_eq_false running]
        rfl

/-! ## Echoes (R127 to R129, R133 to R135) -/

theorem storeEcho_keepsLinks (s : State) (b : BogieId) (e : Echo) : KeepsLinks s (storeEcho s b e) :=
  (setLink_keepsLinks s b (l := echoLink s b e s.als[b]) (.of_same rfl rfl) rfl).trans
    ((setFlagIf_keepsLinks _ _ _).trans (setFlagIf_keepsLinks _ _ _))

theorem noticed_keepsLinks (s : State) (b : BogieId) (notices : Nat) (ignoring : Bool) :
    KeepsLinks s (noticed s b notices ignoring) := setLink_keepsLinks s b (.of_same rfl rfl) rfl

/-- The third mismatch leaves nothing of the exchange (R129). -/
theorem faulted_keepsLinks (s : State) (b : BogieId) : KeepsLinks s (withdrawBogie (faulted s b) b) := by
  have link : (withdrawBogie (faulted s b) b).als[b] = { s.als[b] with
      mismatch := 3, excluded := true, outstanding := none, pending := none } := by
    simp only [withdrawBogie_keeps, faulted, State.setFlag_keeps, setLink_als_self]
  refine .of_silenced_one b ⟨by rw [link], by rw [link], withdrawBogie_commands _ b⟩ fun c other => ?_
  have flagged : CalmsAt s (s.setFlag .echoMismatch) c := {}
  have ended := flagged.trans (setLink_calmsAt_other _ { s.als[b] with
    mismatch := 3, excluded := true, outstanding := none, pending := none } other)
  have faulty : CalmsAt s (faulted s b) c :=
    ended.trans (show CalmsAt _ (State.setFlag _ .actFault) c from {})
  exact faulty.trans { commands := fun f waits _ => withdrawBogie_commands_subset _ b waits }

/-- A resend is for a bogie with a command outstanding, to which something may be sent (R129). -/
theorem answerDiffers_keepsLinks {s : State} {b : BogieId} {o : Outstanding}
    (awaited : s.als[b].outstanding = some o) : KeepsLinks s (answerDiffers s b o) := by
  by_cases few : s.als[b].mismatch < 2
  · rw [answerDiffers_resent o few]
    have counted : KeepsLinks s (mismatched s b) :=
      (setFlag_keepsLinks s _).trans (setLink_keepsLinks _ b (.of_same (by simp) (by simp)) (by simp))
    refine counted.trans (build_keepsLinks _ b _ fun hs => not_barred_of_outstanding (o := o) hs ?_)
    rw [mismatched, setLink_als_self]
    exact awaited
  · rw [answerDiffers_third o (Nat.not_lt.mp few)]
    exact faulted_keepsLinks s b

/-- A pending pair waits for a bogie to which something may be sent (R128). -/
theorem answerEqual_keepsLinks (s : State) (b : BogieId) : KeepsLinks s (answerEqual s b) := by
  have ended : KeepsLinks s (exchangeEnded s b) := setLink_keepsLinks s b (.of_idle rfl rfl) rfl
  cases waits : s.als[b].pending with
  | none =>
    have nothing : answerEqual s b = exchangeEnded s b := by
      simp only [answerEqual, exchangeEnded, waits]
    exact nothing ▸ ended
  | some pair =>
    have built : answerEqual s b = build (exchangeEnded s b) b pair := by
      simp only [answerEqual, exchangeEnded, waits]
    rw [built]
    refine ended.trans (build_keepsLinks _ b pair fun hs => not_barred_of_pending (pair := pair) hs ?_)
    rw [exchangeEnded, setLink_als_self]
    exact waits

theorem compareAnswer_keepsLinks (s : State) (b : BogieId) (tag : Tag) (e : Echo) :
    KeepsLinks s (compareAnswer s b tag e) := by
  unfold compareAnswer
  split
  · exact .refl s
  · next o awaited =>
    exact .ite _ (.ite _ (answerEqual_keepsLinks s b) (answerDiffers_keepsLinks awaited)) (.refl s)

theorem handleAnswer_keepsLinks (s : State) (source : Addr) (tag : Tag) (e : Echo) :
    KeepsLinks s (handleAnswer s source tag e) := by
  cases own : bogieOf s source with
  | none =>
    rw [handleAnswer_none tag e own]
    exact .refl s
  | some b =>
    rw [handleAnswer_some tag e own]
    exact (noticed_keepsLinks s b 0 false).trans
      ((storeEcho_keepsLinks _ b e).trans (compareAnswer_keepsLinks _ b tag e))

theorem handleNotice_keepsLinks (s : State) (source : Addr) (e : Echo) :
    KeepsLinks s (handleNotice s source e) := by
  unfold handleNotice
  split
  · exact .refl s
  · next b _ =>
    exact .ite _ (.refl s) (.ite _ ((noticed_keepsLinks s b _ _).trans (storeEcho_keepsLinks _ b e))
      ((noticed_keepsLinks s b _ _).trans (setFlag_keepsLinks _ _)))

/-! ## Timeout, return and restart (R122, R130, R131) -/

theorem timeoutLink_keepsLinks (s : State) (b : BogieId) : KeepsLinks s (timeoutLink s b) := by
  unfold timeoutLink
  split
  · have ended : KeepsLinks s (s.setLink b { s.als[b] with outstanding := none }) :=
      setLink_keepsLinks s b (.of_idle rfl rfl) rfl
    exact .ite _ (ended.trans (setFlag_keepsLinks _ _)) (.refl s)
  · exact .refl s

/-- A command one mark older keeps its tag and codes (R130). -/
theorem older_calms (l : Link) : LinkCalms l l.older where
  outstanding o aged := by
    obtain ⟨p, held, grown⟩ := Option.map_eq_some_iff.mp aged
    exact ⟨p, held, grown ▸ rfl, grown ▸ rfl⟩
  pending := id

theorem ageLinks_keepsLinks (s : State) : KeepsLinks s (ageLinks s) := by
  have aged : KeepsLinks s (agedLinks s) :=
    setAls_keepsLinks s (fun b => by simpa using older_calms _) (fun b => by simp [Link.older])
  refine aged.trans ?_
  show KeepsLinks (agedLinks s) ((List.finRange 4).foldl timeoutLink (agedLinks s))
  generalize agedLinks s = t
  generalize List.finRange 4 = bs
  induction bs generalizing t with
  | nil => exact .refl t
  | cons b bs ih => exact (timeoutLink_keepsLinks t b).trans (ih _)

theorem handleReturnedCommand_keepsLinks (s : State) (destination : Addr) :
    KeepsLinks s (handleReturnedCommand s destination) := by
  have flagged := setFlag_keepsLinks s .actAbsent
  unfold handleReturnedCommand
  dsimp only
  split
  · exact flagged
  · exact flagged.trans (setLink_keepsLinks _ _ (.of_idle rfl (by simp)) (by simp))

theorem restartLink_silenced (s : State) (b : BogieId) : Silenced (restartLink s b) b := by
  obtain ⟨link, rpu⟩ := restartLink_at s b
  exact ⟨by rw [link]; rfl, by rw [link]; rfl, by simp [rpu]⟩

/-- A bogie entry stored silences its bogie when the link fields change, and leaves all when they do not: whether it
is enabled is one of them (R122). -/
theorem storeBogie_keepsLinks (s : State) (i : Fin 4) (new : BogieEntry) :
    KeepsLinks s (storeBogie s i new) := by
  have bogie : (storeBogie s i new).tables.bogie = s.tables.bogie.set i.val new := by simp
  by_cases differ : linkFieldsDiffer s.tables.bogie[i] new = true
  · have restarted : storeBogie s i new = restartLink
        (s.setTables { s.tables with bogie := s.tables.bogie.set i.val new }) i := if_pos differ
    refine .of_silenced_one i (restarted ▸ restartLink_silenced _ i) fun c other => ?_
    have link : (storeBogie s i new).als[c] = s.als[c] := (storeBogie_link s i new).others c other
    refine { admitted := ?_, link := link ▸ .refl _, commands := fun f waits _ => ?_ }
    · rw [barred_iff, barred_iff, link, bogie]
      simp [Vector.getElem_set_ne, Fin.val_ne_of_ne other.symm]
    · rw [restarted, (restartLink_at _ i).2] at waits
      exact List.mem_of_mem_filter waits
  · have stored : storeBogie s i new =
        s.setTables { s.tables with bogie := s.tables.bogie.set i.val new } := if_neg differ
    have enabled : s.tables.bogie[i].enabled = new.enabled :=
      not_not.mp fun h => differ ((linkFieldsDiffer_iff _ _).mpr (.inl h))
    rw [stored]
    refine .of_calms fun c => { admitted := ?_ }
    rw [barred_iff, barred_iff]
    by_cases own : c = i
    · subst own
      rw [enabled]
      simp
    · simp [Vector.getElem_set_ne, Fin.val_ne_of_ne (Ne.symm own)]

/-! ## Part states (R137, R150, R171) -/

theorem endLinks_silenced (s : State) (b : BogieId) : Silenced (endLinks s) b where
  outstanding := by simp [endLinks, Link.ended]
  pending := by simp [endLinks, Link.ended]
  commands := by simp [endLinks, withdrawAll]

theorem Silenced.of_same {t u : State} {b : BogieId} (h : Silenced t b) (als : u.als = t.als)
    (commands : u.rpu.commands = t.rpu.commands) : Silenced u b :=
  ⟨als ▸ h.outstanding, als ▸ h.pending, commands ▸ h.commands⟩

@[simp] theorem endLookupsIfLeft_commands (s : State) (was : PartState) :
    (endLookupsIfLeft was s).rpu.commands = s.rpu.commands := by
  unfold endLookupsIfLeft
  split <;> simp

theorem enterConfig_keepsLinks (s : State) : KeepsLinks s (enterConfig s) :=
  .of_silenced fun b => (endLinks_silenced (leaveIfActive s) b).of_same
    (by simp [enterConfig]) (by simp [enterConfig])

theorem enterStandby_keepsLinks (s : State) : KeepsLinks s (enterStandby s) :=
  .of_silenced fun b => (endLinks_silenced (clearIssued (leaveIfActive s)) b).of_same
    (by simp [enterStandby]) (by simp [enterStandby])

/-- At an entry into FALLBACK an exchange is let be or ended, and no frame waits (R137). -/
theorem fallbackLinks_keepsLinks (s : State) : KeepsLinks s (fallbackLinks s) := by
  refine (setAls_keepsLinks s (fun b => ?_) (fun b => ?_)).trans (withdrawAll_keepsLinks _)
  all_goals
    simp only [Fin.getElem_fin, Vector.getElem_ofFn]
    split
  · exact .of_idle rfl rfl
  · exact .refl _
  · exact id
  · exact id

theorem leaveIfActive_keepsLinks (s : State) : KeepsLinks s (leaveIfActive s) := .of_calms fun _ => {}

theorem endLookupsIfLeft_keepsLinks (was : PartState) (s : State) :
    KeepsLinks s (endLookupsIfLeft was s) := .of_calms fun _ => {}

theorem enterFallback_keepsLinks (s : State) : KeepsLinks s (enterFallback s) := by
  have ended := (leaveIfActive_keepsLinks s).trans (fallbackLinks_keepsLinks _)
  refine (ended.trans ((setCsu_keepsLinks _ _).trans ((setSdu_keepsLinks _ ?_).trans
    (setFlag_keepsLinks _ _)))).trans (endLookupsIfLeft_keepsLinks _ _)
  nofun

theorem testSupervision_keepsLinks (s : State) : KeepsLinks s (testSupervision s) :=
  .ite _ (enterFallback_keepsLinks s) (.refl s)

theorem reset_keepsLinks (s : State) (straps : Addr) (cause : ResetCause) (tables : Tables) :
    KeepsLinks s (resetPart s straps cause tables) :=
  .of_silenced fun b => ⟨by simp [Link.initial], by simp [Link.initial], by simp [resetRpu, Rpu.initial]⟩

end Sys2Proof.Proofs

/-! SUPPORT. Every request keeps R125 and R161: the path of a request, what is applied at once and from the posted
slot, and the handlers. -/

namespace Sys2Proof.Proofs

open Sys2Proof.Machine

/-! ## The path of a request (R180 to R182) -/

theorem sendReply_keepsLinks (s : State) (o : Origin) (function : Nat) (r : Reply) :
    KeepsLinks s (sendReply s o function r) := by
  have offered : KeepsLinks s (offerOther s (.reply (replyFrame s o function r))) := .of_calms fun _ => {}
  simp only [sendReply]
  refine .ite _ (.refl s) ?_
  split
  · exact .ite _ offered (offered.trans (reset_keepsLinks _ _ _ _))
  · exact offered

/-- A request's handling that keeps both. -/
def HandlerKeeps (g : State → State × Reply) : Prop := ∀ s, KeepsLinks s (g s).1

/-- A handler that leaves the state as it stands. -/
theorem HandlerKeeps.of_fst {g : State → State × Reply} (h : ∀ s, (g s).1 = s) : HandlerKeeps g :=
  fun s => (h s).symm ▸ .refl s

theorem HandlerKeeps.ite (c : Prop) [Decidable c] {g h : State → State × Reply}
    (hg : HandlerKeeps g) (hh : HandlerKeeps h) : HandlerKeeps (if c then g else h) := by
  split
  · exact hg
  · exact hh

theorem withoutData_keepsLinks {g : State → State × Reply} (hg : HandlerKeeps g) (data : List Word) :
    HandlerKeeps (withoutData g data) := fun s => by
  unfold withoutData
  split
  · exact hg s
  · exact .refl s

theorem manage_keepsLinks (s : State) (o : Origin) (function : Nat) {g : State → State × Reply}
    (hg : HandlerKeeps g) : KeepsLinks s (manage s o function g) := by
  have cancelled : KeepsLinks s (cancelPrepare s) := .of_calms fun _ => {}
  have alive (t : State) : KeepsLinks t (managementKeepAlive t) := .of_calms fun _ => {}
  exact .ite _ (cancelled.trans ((hg _).trans ((sendReply_keepsLinks _ o function _).trans (alive _))))
    (.refl s)

/-! ## Requests applied (R183, R184) -/

@[simp] theorem applySource_bogie (s : State) (i : Fin 24) (e : Option SourceEntry) :
    (applySource s i e).tables.bogie = s.tables.bogie := by
  obtain ⟨_, -, stored⟩ := applySource_tables s i e
  rw [stored]

@[simp] theorem applyAxle_bogie (s : State) (i : Fin 8) (e : Option AxleEntry) :
    (applyAxle s i e).tables.bogie = s.tables.bogie := by
  obtain ⟨_, -, stored⟩ := applyAxle_tables s i e
  rw [stored]

@[simp] theorem applyBeacon_bogie (s : State) (i : Fin 64) (e : Option BeaconEntry) :
    (applyBeacon s i e).tables.bogie = s.tables.bogie := by
  obtain ⟨_, -, stored⟩ := applyBeacon_tables s i e
  rw [stored]

/-- Only a bogie entry bears on what may be sent (R122). -/
theorem applyRequest_keepsLinks (s : State) (r : HeldRequest) : KeepsLinks s (applyRequest s r) := by
  cases r with
  | source i e => exact .of_calms fun b => show CalmsAt s (applySource s i e) b from {}
  | axle i e => exact .of_calms fun b => show CalmsAt s (applyAxle s i e) b from {}
  | channel i e => exact .of_calms fun b => show CalmsAt s (applyChannel s i e) b from {}
  | beacon i e => exact .of_calms fun b => show CalmsAt s (applyBeacon s i e) b from {}
  | gain i e =>
    exact .of_calms fun b =>
      show CalmsAt s (s.setTables { s.tables with gain := s.tables.gain.set i.val e }) b from {}
  | param e => exact .of_calms fun b => show CalmsAt s (s.setTables { s.tables with param := e }) b from {}
  | bogie i e =>
    exact .ite _ (storeBogie_keepsLinks s i e)
      ((storeBogie_keepsLinks s i _).trans (setFlag_keepsLinks _ _))
  | positionSet segment offset trail =>
    exact .of_calms fun b => show CalmsAt s (applyPosition s segment offset trail) b from {}
  | invalidate n => exact .of_calms fun b => show CalmsAt s (invalidateSegment s n) b from {}
  | invalidateAll => exact .of_calms fun b => show CalmsAt s (invalidateAll s) b from {}

theorem applyPosted_keepsLinks (s : State) : KeepsLinks s (applyPosted s) := by
  unfold applyPosted
  split
  · exact .refl s
  · exact (setMrh_keepsLinks s _).trans (applyRequest_keepsLinks _ _)

theorem applyOrPost_keepsLinks (s : State) (o : Origin) (r : HeldRequest) (limited tableWrite : Bool) :
    KeepsLinks s (applyOrPost s o r limited tableWrite).1 := by
  rcases applyOrPost_cases s o r limited tableWrite with h | h | h <;> rw [h]
  · exact (setFlagIf_keepsLinks s _ _).trans (applyRequest_keepsLinks _ r)
  · exact (setMrh_keepsLinks s _).trans (setFlagIf_keepsLinks _ _ _)
  · exact .refl s

theorem answerWrite_keepsLinks (s : State) (o : Origin) (v : Verdict) :
    KeepsLinks s (answerWrite s o v).1 := by
  cases v with
  | refusedState => exact .refl s
  | refusedRange => exact .refl s
  | accepted r limited => exact applyOrPost_keepsLinks s o r limited true

/-! ## The handlers of the requests -/

/-- The seven table writes with their entry keep both. -/
structure WritesKeep (o : Origin) (index : Nat) (entry : List Word) : Prop where
  source : HandlerKeeps (writeSource o index entry)
  axle : HandlerKeeps (writeAxle o index entry)
  bogie : HandlerKeeps (writeBogie o index entry)
  channel : HandlerKeeps (writeChannelEntry o index entry)
  gain : HandlerKeeps (writeGain o index entry)
  beacon : HandlerKeeps (writeBeacon o index entry)
  param : HandlerKeeps (writeParam o index entry)

/-- A table write answers the verdict of its check, or is refused for its length (R187). -/
theorem writes_keepLinks (o : Origin) (index : Nat) (entry : List Word) : WritesKeep o index entry := by
  constructor
  all_goals
    intro s
    simp only [writeSource, writeAxle, writeBogie, writeChannelEntry, writeGain, writeBeacon, writeParam]
    split
    · exact answerWrite_keepsLinks s o _
    · exact .refl s

theorem writeTable_keepsLinks (o : Origin) (table index : Nat) (entry : List Word) :
    HandlerKeeps (writeTable o table index entry) := by
  have kept := writes_keepLinks o index entry
  intro s
  unfold writeTable
  split
  · exact kept.source s
  split
  · exact kept.axle s
  split
  · exact kept.bogie s
  split
  · exact kept.channel s
  split
  · exact kept.gain s
  split
  · exact kept.beacon s
  split
  · exact kept.param s
  · exact .refl s

/-- The part state let be, what else the Status and Diagnostics Unit holds changed. -/
theorem cancelDeferred_keepsLinks (s : State) : KeepsLinks s (cancelDeferred s) :=
  setSdu_keepsLinks s id

theorem stateSetConfig_keepsLinks : HandlerKeeps stateSetConfig := fun s => by
  unfold stateSetConfig
  split
  case h_1 => exact .refl s
  all_goals exact enterConfig_keepsLinks s

theorem checkedStandby_keepsLinks : HandlerKeeps checkedStandby := fun s => by
  unfold checkedStandby
  split
  · exact enterStandby_keepsLinks s
  · exact setSdu_keepsLinks s id

theorem stateSetStandby_keepsLinks : HandlerKeeps stateSetStandby := fun s => by
  unfold stateSetStandby
  split
  · exact checkedStandby_keepsLinks s
  · exact cancelDeferred_keepsLinks s
  · exact enterStandby_keepsLinks s
  · split
    · exact checkedStandby_keepsLinks s
    · exact setSdu_keepsLinks s id

theorem stateSetActive_keepsLinks (data : List Word) : HandlerKeeps (stateSetActive data) := fun s => by
  rcases stateSetActive_cases data s with ⟨-, h⟩ | ⟨-, -, -, h⟩ | ⟨-, -, h⟩ | ⟨-, reason, h, -⟩ <;> rw [h]
  · exact cancelDeferred_keepsLinks s
  · exact setSdu_keepsLinks s id
  · exact .refl s
  · exact (cancelDeferred_keepsLinks s).trans (setSdu_keepsLinks _ id)

theorem stateSet_keepsLinks (target : Nat) (data : List Word) : HandlerKeeps (stateSet target data) := by
  intro s
  unfold stateSet
  split
  · exact withoutData_keepsLinks stateSetConfig_keepsLinks data s
  split
  · exact withoutData_keepsLinks stateSetStandby_keepsLinks data s
  split
  · exact stateSetActive_keepsLinks data s
  · exact .refl s

theorem setPosition_keepsLinks (o : Origin) (count : Nat) (data : List Word) :
    HandlerKeeps (setPosition o count data) := fun s => by
  unfold setPosition
  split
  · split
    · exact applyOrPost_keepsLinks s o _ _ _
    · exact .refl s
  · exact .refl s

/-- An acknowledgement lifts exclusions, and changes no exchange (R117, R136, R177). -/
theorem acknowledge_keepsLinks (s : State) (mask : BitVec 32) : KeepsLinks s (acknowledge s mask) := by
  have cleared : KeepsLinks s (s.setSdu { s.sdu with
      flags := acknowledged s.sdu.flags mask (conditionWord s) }) := setSdu_keepsLinks s id
  have copied (t : State) : KeepsLinks t (liftCopyErrors t) := setOsu_keepsLinks t (by simp)
  have lifted (t : State) : KeepsLinks t (liftActuatorFaults t) := by
    refine setAls_keepsLinks t (fun b => ?_) (fun b => ?_)
    all_goals
      simp only [Fin.getElem_fin, Vector.getElem_map, Link.readmitted]
      split
    · exact .of_same rfl rfl
    · exact .refl _
    · nofun
    · exact id
  have copies := KeepsLinks.ite (mask.getLsbD Flag.copyErr.bit = true) (cleared.trans (copied _)) cleared
  exact .ite _ (copies.trans (lifted _)) copies

theorem ackFlags_keepsLinks (data : List Word) : HandlerKeeps (ackFlags data) := fun s => by
  unfold ackFlags
  split
  · exact acknowledge_keepsLinks s _
  · exact .refl s

theorem invalidateOne_keepsLinks (o : Origin) (data : List Word) : HandlerKeeps (invalidateOne o data) :=
  fun s => by
  unfold invalidateOne
  split
  · split
    · exact applyOrPost_keepsLinks s o _ _ _
    · exact .refl s
  · exact .refl s

theorem invalidateEvery_keepsLinks (o : Origin) (data : List Word) :
    HandlerKeeps (invalidateEvery o data) := fun s => by
  unfold invalidateEvery
  split
  · exact applyOrPost_keepsLinks s o _ _ _
  · exact .refl s

theorem prepareReset_keepsLinks (o : Origin) (data : List Word) : HandlerKeeps (prepareReset o data) :=
  fun s => by
  unfold prepareReset
  split
  · exact setMrh_keepsLinks s _
  · exact .refl s

theorem confirmReset_keepsLinks (held : Option Prepare) (straps : Addr) (o : Origin) (data : List Word) :
    HandlerKeeps (confirmReset held straps o data) := fun s => by
  unfold confirmReset
  split
  · split
    · exact .refl s
    · split
      · exact .refl s
      · split
        · exact .refl s
        · exact setMrh_keepsLinks s _
  · exact .refl s

theorem appendRoute_keepsLinks (count : Nat) (data : List Word) : HandlerKeeps (appendRoute count data) :=
  fun _ => .of_calms fun _ => {}

theorem clearRoute_keepsLinks : HandlerKeeps clearRoute := fun _ => .of_calms fun _ => {}

theorem handlerOf_keepsLinks (u : State) (straps : Addr) (o : Origin) (function a b : Nat)
    (data : List Word) : HandlerKeeps (handlerOf u straps o function a b data) :=
  .ite _ (.of_fst (readStatus_fst b data)) <|
  .ite _ (writeTable_keepsLinks o a b data) <|
  .ite _ (.of_fst (readTable_fst a b data)) <|
  .ite _ (stateSet_keepsLinks b data) <|
  .ite _ (setPosition_keepsLinks o b data) <|
  .ite _ (appendRoute_keepsLinks b data) <|
  .ite _ (withoutData_keepsLinks clearRoute_keepsLinks data) <|
  .ite _ (ackFlags_keepsLinks data) <|
  .ite _ (.ite _ (invalidateEvery_keepsLinks o data) (invalidateOne_keepsLinks o data)) <|
  .ite _ (.of_fst (readCache_fst data)) <|
  .ite _ (.of_fst (readChannel_fst a b data)) <|
  .ite _ (prepareReset_keepsLinks o data) <|
  .ite _ (confirmReset_keepsLinks u.mrh.prepare straps o data) (.of_fst fun _ => rfl)

theorem handleManage_keepsLinks (s : State) (straps : Addr) (o : Origin) (payload : List Word) :
    KeepsLinks s (handleManage s straps o payload) := by
  unfold handleManage
  split
  · exact .ite _ (.refl s) (setFlag_keepsLinks s _)
  · exact manage_keepsLinks s o _ (handlerOf_keepsLinks s straps o _ _ _ _)

end Sys2Proof.Proofs

/-! SUPPORT. The cycle, the frames and the OUT port keep R125 and R161; with that every command does, and every
step. -/

namespace Sys2Proof.Proofs

open Sys2Proof.Machine

/-! ## Cycle close (R146, R170, R184) -/

theorem takeDeferred_keepsLinks (s : State) : KeepsLinks s (takeDeferred s) := by
  unfold takeDeferred enterActive
  split
  · split
    · exact setSdu_keepsLinks s nofun
    · exact setSdu_keepsLinks s id
  · exact .refl s

theorem closeIfDue_keepsLinks (s : State) : KeepsLinks s (closeIfDue s) :=
  .ite _ ((setCsu_keepsLinks s _).trans ((applyPosted_keepsLinks _).trans
    ((testSupervision_keepsLinks _).trans (takeDeferred_keepsLinks _)))) (.refl s)

/-! ## The computation in flight (R84, R109, R124) -/

theorem endWork_keepsLinks (s : State) : KeepsLinks s (endWork s) := by
  have reported (t : State) : KeepsLinks t (makeHeldNeeds t) := .of_calms fun _ => {}
  exact ((setSlu_keepsLinks s _).trans (reported _)).trans
    ((setCsu_keepsLinks _ _).trans (closeIfDue_keepsLinks _))

theorem handOn_keepsLinks (s : State) (b : BogieId) : KeepsLinks s (handOn s b) := by
  have joined := setOsu_keepsLinks s (x := { s.osu with results := s.osu.results ++ [resultOf s b] })
    fun _ => id
  exact .ite _ (joined.trans (setCsu_keepsLinks _ _)) (.refl s)

theorem determineNext_keepsLinks (s : State) (b : BogieId) : KeepsLinks s (determineNext s b) := by
  have determined : KeepsLinks s (determine s b) := .of_calms fun _ => {}
  have handed := determined.trans (handOn_keepsLinks _ b)
  unfold determineNext
  dsimp only
  split
  · exact handed.trans (setSlu_keepsLinks _ _)
  · exact handed.trans (endWork_keepsLinks _)

@[simp] theorem shapeResult_excluded (s : State) (r : SteeringResult) :
    (shapeResult s r).1.osu.excluded = s.osu.excluded := by
  unfold shapeResult
  split
  · rfl
  · split <;> rfl

/-- An offer is made only for a bogie that is neither excluded nor in CONFIG (R109). -/
theorem shapeResult_offers {s : State} {r : SteeringResult} (made : (shapeResult s r).2 ≠ none) :
    s.sdu.part ≠ .config ∧ bogieExcluded s r.bogie = false := by
  refine ⟨fun config => made ?_, Bool.not_eq_true _ ▸ fun excluded => made ?_⟩
  · rw [shapeResult_none (.inl config)]
  · rw [shapeResult_none (.inr excluded)]

theorem shapeNext_keepsLinks (s : State) : KeepsLinks s (shapeNext s) := by
  unfold shapeNext
  split
  · exact .refl s
  · next r rest _ =>
    have taken := setOsu_keepsLinks s (x := { s.osu with results := rest }) fun _ => id
    have shaped (t : State) : KeepsLinks t (shapeResult t r).1 := .of_calms fun _ => {}
    refine taken.trans ((shaped _).trans ((takeOffer_keepsLinks _ _ fun made => ?_).trans
      ((setCsu_keepsLinks _ _).trans (closeIfDue_keepsLinks _))))
    simpa [bogieExcluded] using shapeResult_offers made

/-! ## Marks and time (R142 to R144, R149) -/

theorem takeMark_keepsLinks (s : State) : KeepsLinks s (takeMark s) := by
  have begun : KeepsLinks s (ageFetches (evaluateSlots (beginCycle s))) := .of_calms fun _ => {}
  exact (begun.trans (ageLinks_keepsLinks _)).trans (setOpu_keepsLinks _ _)

theorem handleCycle_keepsLinks (s : State) (payload : List Word) : KeepsLinks s (handleCycle s payload) := by
  have heard (n : Nat) : KeepsLinks s (hearCycle s n) := .of_calms fun _ => {}
  unfold handleCycle
  split
  · exact .ite _ ((heard _).trans (setFlag_keepsLinks _ _)) ((heard _).trans (takeMark_keepsLinks _))
  · exact setFlag_keepsLinks s _

theorem expireSubstitute_keepsLinks (s : State) : KeepsLinks s (expireSubstitute s) := by
  have reloaded : KeepsLinks s (reloadSubstitute s (2 * s.tables.param.period)) := setCsu_keepsLinks s _
  exact .ite _ (reloaded.trans (setFlag_keepsLinks _ _)) (reloaded.trans
    ((takeMark_keepsLinks _).trans ((setFlag_keepsLinks _ _).trans (setCsu_keepsLinks _ _))))

theorem tick_keepsLinks (s : State) : KeepsLinks s (tick s) := by
  have gap : KeepsLinks s (s.setRpu { s.rpu with gap := false }) := setRpu_keepsLinks s fun _ h => h
  have substitute (t : State) : KeepsLinks t (tickSubstitute t) := by
    unfold tickSubstitute
    split
    · exact .refl t
    · exact .ite _ (expireSubstitute_keepsLinks t) (setCsu_keepsLinks t _)
  have supervision (t : State) : KeepsLinks t (tickSupervision t) :=
    .ite _ ((setCsu_keepsLinks t _).trans (testSupervision_keepsLinks _)) (.refl t)
  exact gap.trans ((substitute _).trans (supervision _))

/-! ## Delivered frames (R155, R157) -/

theorem handleSample_keepsLinks (s : State) (source : Addr) (payload : List Word) :
    KeepsLinks s (handleSample s source payload) := .of_calms fun _ => {}

theorem handleSegment_keepsLinks (s : State) (payload : List Word) :
    KeepsLinks s (handleSegment s payload) := .of_calms fun _ => {}

theorem handleReturnedFetch_keepsLinks (s : State) (n : Option Nat) :
    KeepsLinks s (handleReturnedFetch s n) := .of_calms fun _ => {}

theorem handleEcho_keepsLinks (s : State) (source : Addr) (tag : Tag) (payload : List Word) :
    KeepsLinks s (handleEcho s source tag payload) := by
  unfold handleEcho
  split
  · exact handleAnswer_keepsLinks s _ _ _
  · exact handleNotice_keepsLinks s _ _
  · exact setFlag_keepsLinks s _

theorem handleReturned_keepsLinks (s : State) (f : ValidFrame) : KeepsLinks s (handleReturned s f) := by
  unfold handleReturned
  split
  · exact handleReturnedCommand_keepsLinks s _
  · exact handleReturnedFetch_keepsLinks s _
  all_goals exact setFlag_keepsLinks s _

theorem deliver_keepsLinks (s : State) (straps : Addr) (f : ValidFrame) (broadcast : Bool) :
    KeepsLinks s (deliver s straps f broadcast) := by
  unfold deliver
  cases f.header.cls with
  | sample => exact handleSample_keepsLinks s _ _
  | echo => exact handleEcho_keepsLinks s _ _ _
  | segment => exact handleSegment_keepsLinks s _
  | cycle => exact handleCycle_keepsLinks s _
  | manage => exact handleManage_keepsLinks s _ _ _
  | command | fetch | reply => exact .ite _ (.refl s) (setFlag_keepsLinks s _)

theorem forwardFrame_keepsLinks (s : State) (bytes : List Byte) : KeepsLinks s (forwardFrame s bytes) := by
  rcases forwardFrame_cases s bytes with ⟨-, h⟩ | ⟨-, h⟩ <;> rw [h]
  · exact setRpu_keepsLinks s fun _ h => h
  · exact setFlag_keepsLinks s _

theorem dispose_keepsLinks (s : State) (straps : Addr) (f : ValidFrame) :
    KeepsLinks s (dispose s straps f) :=
  .ite _ (forwardFrame_keepsLinks s _) <|
  .ite _ (handleReturned_keepsLinks s f) <|
  .ite _ (deliver_keepsLinks s straps f false) <|
  .ite _ ((forwardFrame_keepsLinks s _).trans (deliver_keepsLinks _ straps f true))
    (forwardFrame_keepsLinks s _)

theorem setAssembler_keepsLinks (s : State) (a : Assembler) : KeepsLinks s (s.setAssembler a) :=
  setRpu_keepsLinks s fun _ h => h

theorem receiveBurst_keepsLinks (s : State) (burst : List Byte) (straps : Addr) :
    KeepsLinks s (receiveBurst s burst straps) := by
  have closed := (setAssembler_keepsLinks s (s.rpu.assembler.collect burst)).trans
    (setAssembler_keepsLinks _ (s.rpu.assembler.collect burst).emptied)
  unfold receiveBurst closeFrame
  dsimp only
  split
  · exact closed.trans (dispose_keepsLinks _ straps _)
  · exact closed.trans (setFlag_keepsLinks _ _)

/-! ## The OUT port (R160, R163, R164) -/

@[simp] theorem issueFrame_excluded (s : State) (f : CommandFrame) :
    (issueFrame s f).osu.excluded = s.osu.excluded := rfl

theorem issueFrame_keepsLinks (s : State) (f : CommandFrame) : KeepsLinks s (issueFrame s f) :=
  .of_calms fun _ => {}

/-- A frame that leaves the queue for the OUT port waits no more (R163). -/
theorem startSending_keepsLinks (s : State) {x : Selection} (h : FrontOf s.rpu x) :
    KeepsLinks s (startSending s x) := by
  cases x with
  | forwarded bytes rest => exact setRpu_keepsLinks s fun _ h => h
  | command f rest =>
    have front : s.rpu.commands = f :: rest := h
    refine (setRpu_keepsLinks s ?_).trans (issueFrame_keepsLinks _ f)
    rw [front]
    exact List.subset_cons_self f rest
  | other f rest => exact setRpu_keepsLinks s fun _ h => h

theorem selectNext_keepsLinks (s : State) : KeepsLinks s (selectNext s) := by
  unfold selectNext
  split
  · next x _ h => exact startSending_keepsLinks s (select_front h)
  · exact .refl s

theorem endSending_keepsLinks (s : State) : KeepsLinks s (endSending s) :=
  setRpu_keepsLinks s fun _ h => h

theorem replyLeft_keepsLinks (s : State) (straps : Addr) : KeepsLinks s (replyLeft s straps) := by
  unfold replyLeft
  split
  · exact .ite _ ((endSending_keepsLinks s).trans (reset_keepsLinks _ _ _ _)) (endSending_keepsLinks s)
  · exact .refl s

theorem transmissionEnded_keepsLinks (s : State) : KeepsLinks s (transmissionEnded s) := by
  unfold transmissionEnded
  split
  · exact .refl s
  · exact .refl s
  · exact endSending_keepsLinks s

/-! ## Every command -/

theorem exec_keepsLinks (c : Instr) (s t : State) (h : exec c s = .next t) : KeepsLinks s t := by
  cases c <;> cases h
  case powerOnReset straps => exact reset_keepsLinks s _ _ _
  case resetLine straps => exact reset_keepsLinks s _ _ _
  case frameClose burst => exact .ite _ (.refl s) (receiveBurst_keepsLinks s _ _)
  case sample d => exact .ite _ (.refl s) (handleSample_keepsLinks s _ _)
  case answer source tag e => exact .ite _ (.refl s) (handleAnswer_keepsLinks s _ _ _)
  case notice source tag e => exact .ite _ (.refl s) (handleNotice_keepsLinks s _ _)
  case segment d => exact .ite _ (.refl s) (handleSegment_keepsLinks s _)
  case cycle d => exact .ite _ (.refl s) (handleCycle_keepsLinks s _)
  case returnedCommand d tag => exact .ite _ (.refl s) (handleReturnedCommand_keepsLinks s _)
  case returnedFetch n => exact .ite _ (.refl s) (handleReturnedFetch_keepsLinks s _)
  case returnedReply => exact .ite _ (.refl s) (setFlag_keepsLinks s _)
  case substituteTimerExpiry => exact .ite _ (expireSubstitute_keepsLinks s) (.refl s)
  case sampleExpired n => exact .of_calms fun _ => {}
  case fetchTimeout n => exact .of_calms fun _ => {}
  case echoTimeout b => exact timeoutLink_keepsLinks s b
  case positionUpdate =>
    have updated : KeepsLinks s (Machine.positionUpdate s) := .of_calms fun _ => {}
    exact .ite _ updated (.refl s)
  case bogieDetermination =>
    split
    · exact determineNext_keepsLinks s _
    · exact .refl s
  case shaping => exact shapeNext_keepsLinks s
  case supervisionExpiry =>
    exact .ite _ ((setCsu_keepsLinks s _).trans (enterFallback_keepsLinks _)) (.refl s)
  case outSelection => exact selectNext_keepsLinks s
  case replyLeftOut straps => exact replyLeft_keepsLinks s straps
  case statusRead o page data => exact manage_keepsLinks s o 1 (.of_fst (readStatus_fst _ data))
  case tableRead o n i data => exact manage_keepsLinks s o 3 (.of_fst (readTable_fst _ _ data))
  case tableWriteSource o i entry => exact manage_keepsLinks s o 2 (writes_keepLinks o _ entry).source
  case tableWriteAxle o i entry => exact manage_keepsLinks s o 2 (writes_keepLinks o _ entry).axle
  case tableWriteBogie o i entry => exact manage_keepsLinks s o 2 (writes_keepLinks o _ entry).bogie
  case tableWriteChannel o i entry => exact manage_keepsLinks s o 2 (writes_keepLinks o _ entry).channel
  case tableWriteGainSchedule o i entry =>
    exact manage_keepsLinks s o 2 (writes_keepLinks o _ entry).gain
  case tableWriteBeacon o i entry =>
    exact manage_keepsLinks s o 2 (writes_keepLinks o _ entry).beacon
  case tableWriteParameter o i entry =>
    exact manage_keepsLinks s o 2 (writes_keepLinks o _ entry).param
  case stateSetConfig o data =>
    exact manage_keepsLinks s o 4 (withoutData_keepsLinks stateSetConfig_keepsLinks data)
  case stateSetStandby o data =>
    exact manage_keepsLinks s o 4 (withoutData_keepsLinks stateSetStandby_keepsLinks data)
  case stateSetActive o data => exact manage_keepsLinks s o 4 (stateSetActive_keepsLinks data)
  case positionSet o n data => exact manage_keepsLinks s o 5 (setPosition_keepsLinks o _ data)
  case routeAppend o n data => exact manage_keepsLinks s o 6 (appendRoute_keepsLinks _ data)
  case routeClear o data =>
    exact manage_keepsLinks s o 7 (withoutData_keepsLinks clearRoute_keepsLinks data)
  case diagAck o data => exact manage_keepsLinks s o 8 (ackFlags_keepsLinks data)
  case cacheInvalidate o data => exact manage_keepsLinks s o 9 (invalidateOne_keepsLinks o data)
  case cacheInvalidateAll o data => exact manage_keepsLinks s o 9 (invalidateEvery_keepsLinks o data)
  case cacheRead o data => exact manage_keepsLinks s o 10 (.of_fst (readCache_fst data))
  case channelRead o part b data => exact manage_keepsLinks s o 11 (.of_fst (readChannel_fst _ _ data))
  case resetPrepare o data => exact manage_keepsLinks s o 12 (prepareReset_keepsLinks o data)
  case resetConfirm o data => exact manage_keepsLinks s o 13 (confirmReset_keepsLinks _ _ o _)
  case refusedFunction o f data =>
    exact .ite _ (manage_keepsLinks s o _ (.of_fst fun _ => rfl)) (.refl s)
  case lineIdle => exact setAssembler_keepsLinks s _
  case frameTransmissionEnd => exact transmissionEnded_keepsLinks s

theorem step_keepsLinks (s t : State) (h : step s = .next t) : KeepsLinks s t := by
  unfold step at h
  split at h
  · cases h
    exact tick_keepsLinks s
  · next c rest _ =>
    have taken : KeepsLinks s (s.setPending rest) := .of_calms fun _ => {}
    exact taken.trans (exec_keepsLinks c _ t h)

/-- Settles O54: what every command keeps of the links and their waiting frames, a step does. -/
theorem linksStayQuiet : Obligations.LinksStayQuiet :=
  ⟨fun s t hs h => (step_keepsLinks s t h).linksQuiet hs,
   fun s t hs h => (step_keepsLinks s t h).framesMatch hs⟩

end Sys2Proof.Proofs

/-! SUPPORT. The supervision timer goes on counting through the reads of the steering computation (R102, R148,
R149): what comes between two reads can only renew it. -/

namespace Sys2Proof.Proofs

open Sys2Proof.Machine

/-! ## Keep-alives (R148, R149, R151) -/

@[simp] theorem keepAlive_counting {s : State} (counts : s.csu.supervision.counting = true) :
    (keepAlive s).csu.supervision.counting = true := by
  unfold keepAlive
  (repeat' split) <;> simp [counts, timerStarted]

@[simp] theorem managementKeepAlive_counting {s : State} (counts : s.csu.supervision.counting = true) :
    (managementKeepAlive s).csu.supervision.counting = true := by
  unfold managementKeepAlive
  split <;> simp [counts]

/-! ## What comes between two reads (R102) -/

@[simp] theorem takeArrival_counting {s : State} (counts : s.csu.supervision.counting = true)
    (a : Arrival) : (takeArrival s a).csu.supervision.counting = true := by
  cases a with
  | segment frame =>
    simp only [takeArrival]
    split <;> simp [counts]
  | routeAppend o count data =>
    simp only [takeArrival, manage]
    split <;> simp [sendReply_keeps, counts]
  | routeClear o data =>
    simp only [takeArrival, manage]
    split <;> simp [sendReply_keeps, counts]

@[simp] theorem takeWithin_counting {s : State} (counts : s.csu.supervision.counting = true) :
    (takeWithin s).csu.supervision.counting = true := by
  unfold takeWithin
  split
  · exact counts
  · next now later _ =>
    exact List.foldlRecOn now takeArrival (b := s.setWithin later)
      (motive := fun t => t.csu.supervision.counting = true) counts
      fun _ still a _ => takeArrival_counting still a

@[simp] theorem steeringHeader_counting {s : State} (counts : s.csu.supervision.counting = true)
    (n : Nat) : (steeringHeader s n).1.csu.supervision.counting = true := by
  simp [steeringHeader, counts]

@[simp] theorem steeringBlock_counting {s : State} (counts : s.csu.supervision.counting = true)
    (n : Nat) (k : Fin 8) : (steeringBlock s n k).1.csu.supervision.counting = true := by
  simp [steeringBlock, counts]

/-! ## Walks, readings and channels (R38, R89 to R99) -/

theorem walkFrom_counting {s : State} (counts : s.csu.supervision.counting = true) (fuel : Nat)
    (place : Place) (segment off dist : Nat) (gone : Int) :
    (walkFrom .steering fuel s place segment off dist gone).state.csu.supervision.counting = true := by
  induction fuel generalizing s place segment off dist gone with
  | zero => exact counts
  | succ fuel ih =>
    unfold walkFrom
    dsimp only [Walker.header]
    (repeat' split) <;> simp [counts, ih]

@[simp] theorem walk_counting {s : State} (counts : s.csu.supervision.counting = true)
    (start : RoutePoint) (dist : Nat) :
    (walk .steering s start dist).state.csu.supervision.counting = true :=
  walkFrom_counting counts ..

@[simp] theorem readPoint_counting {s : State} (counts : s.csu.supervision.counting = true)
    (n x : Nat) : (readPoint s n x).1.csu.supervision.counting = true := by
  simp only [readPoint]
  (repeat' split) <;> simp [counts]

@[simp] theorem neighbour_counting {s : State} (counts : s.csu.supervision.counting = true)
    (pt : RoutePoint) (d : PointData) : (neighbour s pt d).1.csu.supervision.counting = true := by
  simp only [neighbour, neighbourBeyond]
  (repeat' split) <;> simp [counts]

@[simp] theorem curvatureReading_counting {s : State} (counts : s.csu.supervision.counting = true)
    (pt : RoutePoint) : (curvatureReading s pt).1.csu.supervision.counting = true := by
  simp only [curvatureReading]
  (repeat' split) <;> simp [counts]

@[simp] theorem aheadReading_counting {s : State} (counts : s.csu.supervision.counting = true)
    (axle : RoutePoint) (distance : Nat) :
    (aheadReading s axle distance).1.csu.supervision.counting = true := by
  unfold aheadReading
  split <;> simp [counts]

@[simp] theorem channelCurvature_counting {s : State} (counts : s.csu.supervision.counting = true)
    (axle : RoutePoint) (distance : Nat) :
    (channelCurvature s axle distance).1.csu.supervision.counting = true := by
  cases ahead : (aheadReading s axle distance).2 with
  | some k => simp [channelCurvature_ahead ahead, counts]
  | none => simp [channelCurvature_back ahead, counts]

@[simp] theorem computeChannel_counting {s : State} (counts : s.csu.supervision.counting = true)
    (c : ChannelId) (semi : Nat) (axle : RoutePoint) :
    (computeChannel s c semi axle).1.csu.supervision.counting = true := by
  simp only [computeChannel]
  split <;> simp [counts]

theorem determine_counting {s : State} (counts : s.csu.supervision.counting = true) (b : BogieId) :
    (determine s b).csu.supervision.counting = true := by
  simp only [determine]
  (repeat' split) <;> simp [counts]

end Sys2Proof.Proofs

/-! SUPPORT. The part state with its timers, and the computation in flight (R142, R145, R146, R149 to R151, R170):
the phases of a computation, and one relation between two states for what most operations leave of both. -/

namespace Sys2Proof.Proofs

open Sys2Proof.Machine

/-! ## The phases of a computation (R84, R142, R145, R146) -/

/-- The bogies awaiting offer are those of the results handed on, one result of each at most (R145). -/
def AwaitsResults (s : State) : Prop :=
  (s.osu.results.map SteeringResult.bogie).Nodup ∧
  ∀ b : BogieId, s.csu.awaiting[b] = true ↔ b ∈ s.osu.results.map SteeringResult.bogie

/-- Where a computation stands: IDLE; RUNNING with the position update due; with a bogie to be determined, those
before it handed on; or with the end report in and results still to be shaped. -/
inductive Phase (s : State) : Prop
  | idle (running : s.csu.running = false) (due : s.opu.updateDue = false) (next : s.slu.next = none)
      (results : s.osu.results = []) (ended : s.csu.endReport = false) (awaits : AwaitsResults s)
  | updating (running : s.csu.running = true) (due : s.opu.updateDue = true) (next : s.slu.next = none)
      (results : s.osu.results = []) (ended : s.csu.endReport = false) (awaits : AwaitsResults s)
  | steering (b : BogieId) (running : s.csu.running = true) (due : s.opu.updateDue = false)
      (next : s.slu.next = some b) (before : ∀ r ∈ s.osu.results, r.bogie < b)
      (ended : s.csu.endReport = false) (awaits : AwaitsResults s)
  | offering (running : s.csu.running = true) (due : s.opu.updateDue = false) (next : s.slu.next = none)
      (results : s.osu.results ≠ []) (ended : s.csu.endReport = true) (awaits : AwaitsResults s)

theorem inFlight_iff (s : State) : InFlight s ↔ Phase s := by
  constructor
  · rintro ⟨idle, updating, steering, offering, nodup, awaiting, before⟩
    have awaits : AwaitsResults s := ⟨nodup, awaiting⟩
    cases running : s.csu.running with
    | false =>
      obtain ⟨due, next, results, ended⟩ := idle running
      exact .idle running due next results ended awaits
    | true =>
      cases due : s.opu.updateDue with
      | true =>
        obtain ⟨next, results, ended⟩ := updating due
        exact .updating running due next results ended awaits
      | false =>
        have works := steering running due
        cases next : s.slu.next with
        | some b =>
          exact .steering b running due next (before b next) (works.mp (by simp [next])) awaits
        | none =>
          have ended : s.csu.endReport = true := by simpa [next] using works
          exact .offering running due next (offering running ended) ended awaits
  · rintro (⟨running, due, next, results, ended, awaits⟩ | ⟨running, due, next, results, ended, awaits⟩ |
      ⟨b, running, due, next, before, ended, awaits⟩ | ⟨running, due, next, results, ended, awaits⟩)
    · exact ⟨by simp [due, next, results, ended], by simp [due], by simp [running], by simp [running],
        awaits.1, awaits.2, by simp [next]⟩
    · exact ⟨by simp [running], by simp [next, results, ended], by simp [due], by simp [ended],
        awaits.1, awaits.2, by simp [next]⟩
    · refine ⟨by simp [running], by simp [due], by simp [next, ended], by simp [ended], awaits.1,
        awaits.2, fun c now => ?_⟩
      rw [next] at now
      cases now
      exact before
    · exact ⟨by simp [running], by simp [due], by simp [next, ended], fun _ _ => results, awaits.1,
        awaits.2, by simp [next]⟩

/-- With no result handed on no bogie awaits offer. -/
theorem awaitsResults_nil {s : State} (results : s.osu.results = [])
    (none_ : ∀ b : BogieId, s.csu.awaiting[b] = false) : AwaitsResults s := by
  simp only [AwaitsResults, results, none_]
  simp

/-! ## What stands through an operation -/

/-- The part state, a deferred entry, the counting of supervision and the re-arm indicator stand. -/
structure SamePart (s t : State) : Prop where
  part : t.sdu.part = s.sdu.part
  deferred : t.sdu.deferred = s.sdu.deferred
  counting : t.csu.supervision.counting = s.csu.supervision.counting
  rearm : t.csu.rearm = s.csu.rearm

theorem SamePart.refl (s : State) : SamePart s s := ⟨rfl, rfl, rfl, rfl⟩

theorem SamePart.trans {s t u : State} (h : SamePart s t) (k : SamePart t u) : SamePart s u :=
  ⟨k.part.trans h.part, k.deferred.trans h.deferred, k.counting.trans h.counting, k.rearm.trans h.rearm⟩

theorem SamePart.statesAgree {s t : State} (h : SamePart s t) (agree : StatesAgree s) : StatesAgree t := by
  unfold StatesAgree at agree ⊢
  rwa [h.part, h.deferred, h.counting, h.rearm]

/-- The point that the computation in flight has reached stands. -/
structure SameComputation (s t : State) : Prop where
  running : t.csu.running = s.csu.running
  awaiting : t.csu.awaiting = s.csu.awaiting
  ended : t.csu.endReport = s.csu.endReport
  due : t.opu.updateDue = s.opu.updateDue
  next : t.slu.next = s.slu.next
  results : t.osu.results = s.osu.results

theorem SameComputation.refl (s : State) : SameComputation s s := ⟨rfl, rfl, rfl, rfl, rfl, rfl⟩

theorem SameComputation.trans {s t u : State} (h : SameComputation s t) (k : SameComputation t u) :
    SameComputation s u :=
  ⟨k.running.trans h.running, k.awaiting.trans h.awaiting, k.ended.trans h.ended, k.due.trans h.due,
    k.next.trans h.next, k.results.trans h.results⟩

theorem SameComputation.awaitsResults {s t : State} (h : SameComputation s t) (awaits : AwaitsResults s) :
    AwaitsResults t := by
  unfold AwaitsResults at awaits ⊢
  rwa [h.awaiting, h.results]

theorem SameComputation.inFlight {s t : State} (h : SameComputation s t) (flight : InFlight s) :
    InFlight t := by
  unfold InFlight at flight ⊢
  rwa [h.running, h.awaiting, h.ended, h.due, h.next, h.results]

/-! ## One relation for what most operations keep -/

/-- What is so of both in `s` is so in `t`, and neither FALLBACK nor ACTIVE has been entered. -/
structure KeepsControl (s t : State) : Prop where
  agree : StatesAgree s → StatesAgree t
  flight : InFlight s → InFlight t
  part : t.sdu.part = s.sdu.part ∨ t.sdu.part = .config ∨ t.sdu.part = .standby

theorem SamePart.keepsControl {s t : State} (h : SamePart s t) (flight : InFlight s → InFlight t) :
    KeepsControl s t := ⟨h.statesAgree, flight, .inl h.part⟩

/-- An operation that leaves both as they stand. -/
theorem KeepsControl.of_same {s t : State} (h : SamePart s t ∧ SameComputation s t) :
    KeepsControl s t := h.1.keepsControl h.2.inFlight

theorem KeepsControl.refl (s : State) : KeepsControl s s := ⟨id, id, .inl rfl⟩

theorem KeepsControl.trans {s t u : State} (h : KeepsControl s t) (k : KeepsControl t u) :
    KeepsControl s u where
  agree := k.agree ∘ h.agree
  flight := k.flight ∘ h.flight
  part := by
    rcases k.part with same | entered
    · exact same ▸ h.part
    · exact .inr entered

/-- An operation that is left out by a test. -/
theorem KeepsControl.ite {s t u : State} (c : Prop) [Decidable c] (ht : KeepsControl s t)
    (hu : KeepsControl s u) : KeepsControl s (if c then t else u) := by
  split
  · exact ht
  · exact hu

/-! ## How FALLBACK and ACTIVE are entered (R146, R150, R170, R171) -/

/-- FALLBACK as its entry leaves it (R150, R171). -/
structure InFallback (t : State) : Prop where
  part : t.sdu.part = .fallback
  deferred : t.sdu.deferred = false
  counting : t.csu.supervision.counting = false
  rearm : t.csu.rearm = false
  flag : t.flag .supExpired = true

/-- If FALLBACK has been entered, supervision counted in STANDBY or ACTIVE and has expired (R150); if ACTIVE has
been entered, a deferred entry was taken at the close of a cycle (R146, R170). -/
structure EntersByRule (s t : State) : Prop where
  fallback : t.sdu.part = .fallback → s.sdu.part ≠ .fallback → supervised s = true ∧ InFallback t
  active : t.sdu.part = .active → s.sdu.part ≠ .active →
    s.sdu.deferred = true ∧ s.csu.running = true ∧ t.csu.running = false ∧ inconsistency t = none ∧
    t.mrh.posted = none

theorem supervised_iff (s : State) : supervised s = true ↔
    s.csu.supervision.counting = true ∧ (s.sdu.part = .standby ∨ s.sdu.part = .active) := by
  simp [supervised]

theorem SamePart.supervised {s t : State} (h : SamePart s t) : supervised t = supervised s := by
  simp [Machine.supervised, h.part, h.counting]

/-- Neither is entered by what leaves the part state, or enters CONFIG or STANDBY. -/
theorem KeepsControl.entersByRule {s t : State} (h : KeepsControl s t) : EntersByRule s t := by
  constructor <;> rcases h.part with same | entered | entered <;> simp_all

/-- What comes before an entry, with the part state as it stands. -/
theorem EntersByRule.of_same {s u t : State} (h : EntersByRule u t) (same : SamePart s u)
    (running : u.csu.running = s.csu.running) : EntersByRule s t where
  fallback now before := by
    rw [← same.supervised]
    exact h.fallback now (same.part ▸ before)
  active now before := by
    rw [← same.deferred, ← running]
    exact h.active now (same.part ▸ before)

/-- An expiry of supervision (R150). -/
theorem InFallback.entersByRule {s t : State} (h : InFallback t) (counts : supervised s = true) :
    EntersByRule s t where
  fallback _ _ := ⟨counts, h⟩
  active now := by simp [h.part] at now

theorem InFallback.statesAgree {t : State} (h : InFallback t) : StatesAgree t := by
  simp [StatesAgree, h.part, h.deferred, h.counting]

/-- What a step keeps of both, with the ways in which FALLBACK and ACTIVE are entered. -/
structure StepControl (s t : State) : Prop where
  agree : StatesAgree s → StatesAgree t
  flight : InFlight s → InFlight t
  enters : EntersByRule s t

theorem KeepsControl.stepControl {s t : State} (h : KeepsControl s t) : StepControl s t :=
  ⟨h.agree, h.flight, h.entersByRule⟩

end Sys2Proof.Proofs

/-! SUPPORT. The part state's entries, the requests and the actuator links keep the agreement of the part state with
its timers and the computation in flight. -/

namespace Sys2Proof.Proofs

open Sys2Proof.Machine

/-! ## Results handed on, the steering unit's point, and the update due -/

@[simp] theorem leaveIfActive_next (s : State) : (leaveIfActive s).slu.next = s.slu.next := by
  unfold leaveIfActive
  split <;> rfl

@[simp] theorem build_results (s : State) (b : BogieId) (pair : CodePair) :
    (build s b pair).osu.results = s.osu.results := by
  unfold build
  (repeat' split) <;> simp [copyError, issueCode, State.setShaped]

@[simp] theorem handleAnswer_results (s : State) (source : Addr) (tag : Tag) (e : Echo) :
    (handleAnswer s source tag e).osu.results = s.osu.results := by
  simp only [handleAnswer, compareAnswer, answerEqual, answerDiffers]
  (repeat' split) <;> simp

@[simp] theorem applyRequest_updateDue (s : State) (r : HeldRequest) :
    (applyRequest s r).opu.updateDue = s.opu.updateDue := by
  cases r <;> simp [applyRequest, applyPosition, invalidateAll]

@[simp] theorem applyPosted_updateDue (s : State) :
    (applyPosted s).opu.updateDue = s.opu.updateDue := by
  unfold applyPosted
  split <;> simp

/-! ## Part states (R149 to R151, R168, R170, R171) -/

theorem enterConfig_keepsControl (s : State) : KeepsControl s (enterConfig s) where
  agree _ := by simp [StatesAgree, enterConfig, timerStopped]
  flight := SameComputation.inFlight (by constructor <;> simp [enterConfig])
  part := .inr (.inl (by simp [enterConfig]))

theorem enterStandby_keepsControl (s : State) : KeepsControl s (enterStandby s) where
  agree _ := by simp [StatesAgree, enterStandby, timerStarted]
  flight := SameComputation.inFlight (by constructor <;> simp [enterStandby, clearIssued])
  part := .inr (.inr (by simp [enterStandby]))

theorem enterFallback_inFallback (s : State) : InFallback (enterFallback s) where
  part := by simp [enterFallback]
  deferred := by simp [enterFallback]
  counting := by simp [enterFallback]
  rearm := by simp [enterFallback]
  flag := by
    simp only [enterFallback, endLookupsIfLeft]
    split
    · exact (makeHeldNeeds_proceeds _).flags _ (by simp)
    · simp

theorem enterFallback_sameComputation (s : State) : SameComputation s (enterFallback s) := by
  constructor <;> simp [enterFallback]

/-- A keep-alive renews a timer that counts, or re-arms in FALLBACK (R149, R151). -/
theorem keepAlive_keepsControl (s : State) : KeepsControl s (keepAlive s) where
  agree := by
    rintro ⟨counting, rearm, deferred⟩
    unfold keepAlive
    split
    · exact ⟨counting, rearm, deferred⟩
    · next standby => simp_all [StatesAgree, timerStarted]
    · next active => simp_all [StatesAgree, timerStarted]
    · next fallback =>
      split
      · exact ⟨counting, rearm, deferred⟩
      · exact ⟨counting, fun _ => fallback, deferred⟩
  flight := SameComputation.inFlight (by constructor <;> simp)
  part := .inl (by simp)

theorem managementKeepAlive_keepsControl (s : State) : KeepsControl s (managementKeepAlive s) :=
  .ite _ (keepAlive_keepsControl s) (.refl s)

theorem cancelDeferred_keepsControl (s : State) : KeepsControl s (cancelDeferred s) where
  agree := by
    rintro ⟨counting, rearm, -⟩
    exact ⟨by simpa using counting, by simpa using rearm, by simp⟩
  flight := SameComputation.inFlight (by constructor <;> simp)
  part := .inl (by simp)

theorem refuseState_keepsControl (s : State) (reason : Nat) : KeepsControl s (refuseState s reason).1 :=
  .of_same (by constructor <;> constructor <;> rfl)

/-- An entry into ACTIVE is deferred in STANDBY alone (R168, R170). -/
theorem deferActive_keepsControl {s : State} (standby : s.sdu.part = .standby) :
    KeepsControl s (s.setSdu { s.sdu with deferred := true }) where
  agree := by
    rintro ⟨counting, rearm, -⟩
    exact ⟨counting, rearm, fun _ => standby⟩
  flight := SameComputation.inFlight (by constructor <;> simp)
  part := .inl rfl

theorem reset_keepsControl (s : State) (straps : Addr) (cause : ResetCause) (tables : Tables) :
    KeepsControl s (resetPart s straps cause tables) where
  agree _ := by simp [StatesAgree, Csu.initial]
  flight _ := by
    refine (inFlight_iff _).mpr (.idle ?_ ?_ ?_ ?_ ?_ (awaitsResults_nil ?_ fun b => ?_))
    all_goals simp [Csu.initial, Opu.initial, Slu.initial, Osu.initial]
  part := .inr (.inl (by simp))

/-! ## The path of a request (R180 to R182) -/

theorem sendReply_keepsControl (s : State) (o : Origin) (function : Nat) (r : Reply) :
    KeepsControl s (sendReply s o function r) := by
  have offered : KeepsControl s (offerOther s (.reply (replyFrame s o function r))) :=
    .of_same (by constructor <;> constructor <;> simp)
  simp only [sendReply]
  refine .ite _ (.refl s) ?_
  split
  · exact .ite _ offered (offered.trans (reset_keepsControl _ _ _ _))
  · exact offered

/-- A request's handling that keeps both. -/
def HandlerControls (g : State → State × Reply) : Prop := ∀ s, KeepsControl s (g s).1

/-- A handler that leaves the state as it stands. -/
theorem HandlerControls.of_fst {g : State → State × Reply} (h : ∀ s, (g s).1 = s) : HandlerControls g :=
  fun s => (h s).symm ▸ .refl s

theorem HandlerControls.ite (c : Prop) [Decidable c] {g h : State → State × Reply}
    (hg : HandlerControls g) (hh : HandlerControls h) : HandlerControls (if c then g else h) := by
  split
  · exact hg
  · exact hh

theorem withoutData_keepsControl {g : State → State × Reply} (hg : HandlerControls g)
    (data : List Word) : HandlerControls (withoutData g data) := fun s => by
  unfold withoutData
  split
  · exact hg s
  · exact .refl s

theorem manage_keepsControl (s : State) (o : Origin) (function : Nat) {g : State → State × Reply}
    (hg : HandlerControls g) : KeepsControl s (manage s o function g) := by
  have cancelled : KeepsControl s (cancelPrepare s) := .of_same (by constructor <;> constructor <;> simp)
  exact .ite _ (cancelled.trans ((hg _).trans ((sendReply_keepsControl _ o function _).trans
    (managementKeepAlive_keepsControl _)))) (.refl s)

/-! ## Requests applied (R183, R184) -/

theorem applyRequest_keepsControl (s : State) (r : HeldRequest) : KeepsControl s (applyRequest s r) :=
  .of_same (by constructor <;> constructor <;> simp)

theorem applyOrPost_keepsControl (s : State) (o : Origin) (r : HeldRequest) (limited tableWrite : Bool) :
    KeepsControl s (applyOrPost s o r limited tableWrite).1 := by
  rcases applyOrPost_cases s o r limited tableWrite with h | h | h <;> rw [h]
  · refine KeepsControl.trans (.of_same ?_) (applyRequest_keepsControl _ r)
    constructor <;> constructor <;> simp
  · exact .of_same (by constructor <;> constructor <;> simp)
  · exact .refl s

theorem answerWrite_keepsControl (s : State) (o : Origin) (v : Verdict) :
    KeepsControl s (answerWrite s o v).1 := by
  cases v with
  | refusedState => exact .refl s
  | refusedRange => exact .refl s
  | accepted r limited => exact applyOrPost_keepsControl s o r limited true

/-! ## The handlers of the requests -/

/-- The seven table writes with their entry keep both. -/
structure WritesControl (o : Origin) (index : Nat) (entry : List Word) : Prop where
  source : HandlerControls (writeSource o index entry)
  axle : HandlerControls (writeAxle o index entry)
  bogie : HandlerControls (writeBogie o index entry)
  channel : HandlerControls (writeChannelEntry o index entry)
  gain : HandlerControls (writeGain o index entry)
  beacon : HandlerControls (writeBeacon o index entry)
  param : HandlerControls (writeParam o index entry)

/-- A table write answers the verdict of its check, or is refused for its length (R187). -/
theorem writes_keepControl (o : Origin) (index : Nat) (entry : List Word) :
    WritesControl o index entry := by
  constructor
  all_goals
    intro s
    simp only [writeSource, writeAxle, writeBogie, writeChannelEntry, writeGain, writeBeacon, writeParam]
    split
    · exact answerWrite_keepsControl s o _
    · exact .refl s

theorem writeTable_keepsControl (o : Origin) (table index : Nat) (entry : List Word) :
    HandlerControls (writeTable o table index entry) := by
  have kept := writes_keepControl o index entry
  intro s
  unfold writeTable
  split
  · exact kept.source s
  split
  · exact kept.axle s
  split
  · exact kept.bogie s
  split
  · exact kept.channel s
  split
  · exact kept.gain s
  split
  · exact kept.beacon s
  split
  · exact kept.param s
  · exact .refl s

theorem stateSetConfig_keepsControl : HandlerControls stateSetConfig := fun s => by
  unfold stateSetConfig
  split
  case h_1 => exact .refl s
  all_goals exact enterConfig_keepsControl s

theorem checkedStandby_keepsControl : HandlerControls checkedStandby := fun s => by
  unfold checkedStandby
  split
  · exact enterStandby_keepsControl s
  · exact refuseState_keepsControl s _

theorem stateSetStandby_keepsControl : HandlerControls stateSetStandby := fun s => by
  unfold stateSetStandby
  split
  · exact checkedStandby_keepsControl s
  · exact cancelDeferred_keepsControl s
  · exact enterStandby_keepsControl s
  · split
    · exact checkedStandby_keepsControl s
    · exact refuseState_keepsControl s _

theorem stateSetActive_keepsControl (data : List Word) : HandlerControls (stateSetActive data) :=
  fun s => by
  rcases stateSetActive_cases data s with ⟨-, h⟩ | ⟨-, standby, -, h⟩ | ⟨-, -, h⟩ | ⟨-, reason, h, -⟩ <;>
    rw [h]
  · exact cancelDeferred_keepsControl s
  · exact deferActive_keepsControl standby
  · exact .refl s
  · exact (cancelDeferred_keepsControl s).trans (refuseState_keepsControl _ reason)

theorem stateSet_keepsControl (target : Nat) (data : List Word) :
    HandlerControls (stateSet target data) := by
  intro s
  unfold stateSet
  split
  · exact withoutData_keepsControl stateSetConfig_keepsControl data s
  split
  · exact withoutData_keepsControl stateSetStandby_keepsControl data s
  split
  · exact stateSetActive_keepsControl data s
  · exact .refl s

theorem setPosition_keepsControl (o : Origin) (count : Nat) (data : List Word) :
    HandlerControls (setPosition o count data) := fun s => by
  unfold setPosition
  split
  · split
    · exact applyOrPost_keepsControl s o _ _ _
    · exact .refl s
  · exact .refl s

/-- An acknowledgement clears flags and lifts exclusions (R117, R136, R177). -/
theorem acknowledge_keepsControl (s : State) (mask : BitVec 32) :
    KeepsControl s (acknowledge s mask) := by
  have cleared (flags : BitVec 32) : KeepsControl s (s.setSdu { s.sdu with flags := flags }) :=
    .of_same (by constructor <;> constructor <;> simp)
  have copied (t : State) (excluded : Vector Bool 4) :
      KeepsControl t (t.setOsu { t.osu with excluded := excluded }) :=
    .of_same (by constructor <;> constructor <;> simp)
  have lifted (t : State) (als : Vector Link 4) : KeepsControl t (t.setAls als) :=
    .of_same (by constructor <;> constructor <;> simp)
  have copies (flags : BitVec 32) := KeepsControl.ite (mask.getLsbD Flag.copyErr.bit = true)
    ((cleared flags).trans (copied _ (Vector.replicate 4 false))) (cleared flags)
  exact .ite _ ((copies _).trans (lifted _ _)) (copies _)

theorem ackFlags_keepsControl (data : List Word) : HandlerControls (ackFlags data) := fun s => by
  unfold ackFlags
  split
  · exact acknowledge_keepsControl s _
  · exact .refl s

theorem invalidateOne_keepsControl (o : Origin) (data : List Word) :
    HandlerControls (invalidateOne o data) := fun s => by
  unfold invalidateOne
  split
  · split
    · exact applyOrPost_keepsControl s o _ _ _
    · exact .refl s
  · exact .refl s

theorem invalidateEvery_keepsControl (o : Origin) (data : List Word) :
    HandlerControls (invalidateEvery o data) := fun s => by
  unfold invalidateEvery
  split
  · exact applyOrPost_keepsControl s o _ _ _
  · exact .refl s

theorem prepareReset_keepsControl (o : Origin) (data : List Word) :
    HandlerControls (prepareReset o data) := fun s => by
  unfold prepareReset
  split
  · exact .of_same (by constructor <;> constructor <;> simp)
  · exact .refl s

theorem confirmReset_keepsControl (held : Option Prepare) (straps : Addr) (o : Origin)
    (data : List Word) : HandlerControls (confirmReset held straps o data) := fun s => by
  unfold confirmReset
  split
  · split
    · exact .refl s
    · split
      · exact .refl s
      · split
        · exact .refl s
        · exact .of_same (by constructor <;> constructor <;> simp)
  · exact .refl s

theorem appendRoute_keepsControl (count : Nat) (data : List Word) :
    HandlerControls (appendRoute count data) := fun _ =>
  .of_same (by constructor <;> constructor <;> simp)

theorem clearRoute_keepsControl : HandlerControls clearRoute := fun _ =>
  .of_same (by constructor <;> constructor <;> simp)

theorem handlerOf_keepsControl (u : State) (straps : Addr) (o : Origin) (function a b : Nat)
    (data : List Word) : HandlerControls (handlerOf u straps o function a b data) :=
  .ite _ (.of_fst (readStatus_fst b data)) <|
  .ite _ (writeTable_keepsControl o a b data) <|
  .ite _ (.of_fst (readTable_fst a b data)) <|
  .ite _ (stateSet_keepsControl b data) <|
  .ite _ (setPosition_keepsControl o b data) <|
  .ite _ (appendRoute_keepsControl b data) <|
  .ite _ (withoutData_keepsControl clearRoute_keepsControl data) <|
  .ite _ (ackFlags_keepsControl data) <|
  .ite _ (.ite _ (invalidateEvery_keepsControl o data) (invalidateOne_keepsControl o data)) <|
  .ite _ (.of_fst (readCache_fst data)) <|
  .ite _ (.of_fst (readChannel_fst a b data)) <|
  .ite _ (prepareReset_keepsControl o data) <|
  .ite _ (confirmReset_keepsControl u.mrh.prepare straps o data) (.of_fst fun _ => rfl)

theorem handleManage_keepsControl (s : State) (straps : Addr) (o : Origin) (payload : List Word) :
    KeepsControl s (handleManage s straps o payload) := by
  unfold handleManage
  split
  · exact .ite _ (.refl s) (.of_same (by constructor <;> constructor <;> simp))
  · exact manage_keepsControl s o _ (handlerOf_keepsControl s straps o _ _ _ _)

end Sys2Proof.Proofs

/-! SUPPORT. The computation in flight from mark to close (R84, R109, R142, R145, R146): each of its events takes it
from one phase to the next, and a close enters FALLBACK or ACTIVE by rule alone. -/

namespace Sys2Proof.Proofs

open Sys2Proof.Machine

/-! ## Marks (R142 to R144) -/

theorem takeMark_csu (s : State) : (takeMark s).csu = { s.csu with
    cycle := nextCycle s.csu.cycle, running := true, awaiting := Vector.replicate 4 false,
    endReport := false, echoLimit := some s.tables.param.echoTimeout } := by
  simp [takeMark, beginCycle]

theorem takeMark_opu (s : State) : (takeMark s).opu = { s.opu with updateDue := true } := by
  simp [takeMark]

theorem takeMark_samePart (s : State) : SamePart s (takeMark s) where
  part := by simp
  deferred := by simp
  counting := by rw [takeMark_csu]
  rearm := by rw [takeMark_csu]

/-- A mark taken while IDLE makes the position update of its cycle due. -/
theorem takeMark_keepsControl {s : State} (idle : s.csu.running = false) :
    KeepsControl s (takeMark s) := by
  refine (takeMark_samePart s).keepsControl fun flight => (inFlight_iff _).mpr ?_
  obtain ⟨-, -, next, results, -⟩ | ⟨running, -⟩ | ⟨_, running, -⟩ | ⟨running, -⟩ :=
    (inFlight_iff s).mp flight
  case idle =>
    refine .updating ?_ ?_ ?_ ?_ ?_ (awaitsResults_nil ?_ fun b => ?_) <;>
      simp [takeMark_csu, takeMark_opu, next, results]
  all_goals simp [idle] at running

theorem hearCycle_keepsControl (s : State) (n : Nat) : KeepsControl s (hearCycle s n) := by
  have flagged : KeepsControl s (s.setFlagIf (breaksSequence s.csu.lastNumber n) .cycleSeq) :=
    .of_same (by constructor <;> constructor <;> simp)
  exact (KeepsControl.ite _ (flagged.trans (keepAlive_keepsControl _)) flagged).trans
    (.of_same (by constructor <;> constructor <;> rfl))

theorem handleCycle_keepsControl (s : State) (payload : List Word) :
    KeepsControl s (handleCycle s payload) := by
  unfold handleCycle
  split
  · next number =>
    have heard := hearCycle_keepsControl s number.toNat
    dsimp only
    split
    · exact heard.trans (.of_same (by constructor <;> constructor <;> simp))
    · next idle => exact heard.trans (takeMark_keepsControl (Bool.eq_false_iff.mpr idle))
  · exact .of_same (by constructor <;> constructor <;> simp)

theorem reloadSubstitute_samePart (s : State) (time : Nat) : SamePart s (reloadSubstitute s time) :=
  ⟨rfl, rfl, rfl, rfl⟩

theorem reloadSubstitute_sameComputation (s : State) (time : Nat) :
    SameComputation s (reloadSubstitute s time) :=
  ⟨rfl, rfl, rfl, rfl, rfl, rfl⟩

theorem expireSubstitute_samePart (s : State) : SamePart s (expireSubstitute s) := by
  have reloaded := reloadSubstitute_samePart s (2 * s.tables.param.period)
  unfold expireSubstitute
  dsimp only
  split
  · exact reloaded.trans (by constructor <;> simp)
  · exact reloaded.trans ((takeMark_samePart _).trans (by constructor <;> simp))

theorem expireSubstitute_keepsControl (s : State) : KeepsControl s (expireSubstitute s) := by
  have reloaded : KeepsControl s (reloadSubstitute s (2 * s.tables.param.period)) :=
    .of_same ⟨reloadSubstitute_samePart s _, reloadSubstitute_sameComputation s _⟩
  unfold expireSubstitute
  dsimp only
  split
  · exact reloaded.trans (.of_same (by constructor <;> constructor <;> simp))
  · next idle =>
    exact reloaded.trans ((takeMark_keepsControl (Bool.eq_false_iff.mpr idle)).trans
      (.of_same (by constructor <;> constructor <;> simp)))

/-! ## The position update (R19, R84) -/

/-- The position update hands the computation to the steering unit, at bogie 0. -/
theorem positionUpdate_keepsControl {s : State} (due : s.opu.updateDue = true) :
    KeepsControl s (positionUpdate s) := by
  refine SamePart.keepsControl (by constructor <;> simp) fun flight => (inFlight_iff _).mpr ?_
  obtain ⟨_, notDue, -⟩ | ⟨running, -, -, results, ended, awaits⟩ | ⟨_, _, notDue, -⟩ | ⟨_, notDue, -⟩ :=
    (inFlight_iff s).mp flight
  case updating =>
    refine .steering 0 ?_ (positionUpdate_updateDue s) ?_ ?_ ?_ ?_
    all_goals simp_all [positionUpdate_slu, AwaitsResults]
  all_goals simp [due] at notDue

/-! ## Supervision (R149, R150) -/

theorem InFallback.stepControl {s t : State} (h : InFallback t) (counts : supervised s = true)
    (flight : InFlight s → InFlight t) : StepControl s t :=
  ⟨fun _ => h.statesAgree, flight, h.entersByRule counts⟩

theorem testSupervision_cases (s : State) :
    (supervised s = true ∧ testSupervision s = enterFallback s) ∨ testSupervision s = s := by
  unfold testSupervision
  split
  · next reached =>
    rw [supervisionReached, Bool.and_eq_true] at reached
    exact .inl ⟨reached.1, rfl⟩
  · exact .inr rfl

theorem testSupervision_sameComputation (s : State) : SameComputation s (testSupervision s) := by
  rcases testSupervision_cases s with ⟨-, expired⟩ | stands
  · exact expired ▸ enterFallback_sameComputation s
  · rw [stands]
    constructor <;> simp

theorem expireSupervision_stepControl {s : State} (counts : supervised s = true) :
    StepControl s (expireSupervision s) := by
  refine (enterFallback_inFallback _).stepControl counts (SameComputation.inFlight ?_)
  exact SameComputation.trans (by constructor <;> rfl) (enterFallback_sameComputation _)

/-- The supervision timer half a millisecond on (R149). -/
def supervisionCounted (s : State) : State := s.setCsu { s.csu with
  supervision := { s.csu.supervision with elapsed := s.csu.supervision.elapsed + 1 } }

theorem tickSupervision_eq (s : State) : tickSupervision s =
    if supervised s then testSupervision (supervisionCounted s) else s := rfl

theorem supervisionCounted_samePart (s : State) : SamePart s (supervisionCounted s) :=
  ⟨rfl, rfl, rfl, rfl⟩

/-- Half a millisecond of supervision: it expires, or the part state stands. -/
theorem tickSupervision_cases (s : State) : SameComputation s (tickSupervision s) ∧
    ((supervised s = true ∧ InFallback (tickSupervision s)) ∨ SamePart s (tickSupervision s)) := by
  rw [tickSupervision_eq]
  split
  · next counts =>
    refine ⟨SameComputation.trans (by constructor <;> rfl) (testSupervision_sameComputation _), ?_⟩
    rcases testSupervision_cases (supervisionCounted s) with ⟨-, expired⟩ | stands
    · exact .inl ⟨counts, expired ▸ enterFallback_inFallback _⟩
    · rw [stands]
      exact .inr (supervisionCounted_samePart s)
  · exact ⟨.refl s, .inr (.refl s)⟩

theorem tickSubstitute_samePart (s : State) : SamePart s (tickSubstitute s) := by
  unfold tickSubstitute
  (repeat' split)
  · constructor <;> simp
  · exact expireSubstitute_samePart s
  · constructor <;> simp

theorem tickSubstitute_keepsControl (s : State) : KeepsControl s (tickSubstitute s) := by
  unfold tickSubstitute
  (repeat' split)
  · exact .refl s
  · exact expireSubstitute_keepsControl s
  · exact .of_same (by constructor <;> constructor <;> simp)

theorem tick_stepControl (s : State) : StepControl s (tick s) := by
  have gap : KeepsControl s (s.setRpu { s.rpu with gap := false }) :=
    .of_same (by constructor <;> constructor <;> simp)
  have kept := gap.trans (tickSubstitute_keepsControl _)
  have part : SamePart s (tickSubstitute (s.setRpu { s.rpu with gap := false })) :=
    SamePart.trans (by constructor <;> simp) (tickSubstitute_samePart _)
  obtain ⟨computation, ⟨counts, expired⟩ | same⟩ :=
    tickSupervision_cases (tickSubstitute (s.setRpu { s.rpu with gap := false }))
  · exact expired.stepControl (part.supervised ▸ counts) (computation.inFlight ∘ kept.flight)
  · exact (kept.trans (.of_same ⟨same, computation⟩)).stepControl

/-! ## Cycle close (R146, R170, R184) -/

/-- The state at a close in which supervision is tested: IDLE, the posted request applied (R146). -/
def atClose (s : State) : State := applyPosted (becomeIdle s)

theorem atClose_samePart (s : State) : SamePart s (atClose s) := by
  constructor <;> simp [atClose, becomeIdle]

/-- A close at which supervision expires, at which no deferred entry is taken, or at which one is. -/
theorem closeCycle_cases (s : State) :
    (supervised (atClose s) = true ∧ closeCycle s = enterFallback (atClose s)) ∨
    (∃ reason, closeCycle s =
      (atClose s).setSdu { (atClose s).sdu with deferred := false, reason := reason }) ∨
    ((atClose s).sdu.deferred = true ∧ inconsistency (atClose s) = none ∧
      closeCycle s = enterActive (atClose s)) := by
  have path : closeCycle s = takeDeferred (testSupervision (atClose s)) := rfl
  rw [path]
  rcases testSupervision_cases (atClose s) with ⟨counts, expired⟩ | stands
  · rw [expired, takeDeferred_none (enterFallback_inFallback _).deferred]
    exact .inl ⟨counts, rfl⟩
  · rw [stands]
    cases waits : (atClose s).sdu.deferred with
    | false => exact .inr (.inl ⟨(atClose s).sdu.reason, by rw [takeDeferred_none waits, ← waits]; rfl⟩)
    | true =>
      cases fits : inconsistency (atClose s) with
      | none => exact .inr (.inr ⟨rfl, rfl, takeDeferred_taken waits fits⟩)
      | some n => exact .inr (.inl ⟨some n, takeDeferred_cancelled waits fits⟩)

theorem closeCycle_sameComputation (s : State) : SameComputation (atClose s) (closeCycle s) := by
  rcases closeCycle_cases s with ⟨-, expired⟩ | ⟨reason, stands⟩ | ⟨-, -, taken⟩
  · exact expired ▸ enterFallback_sameComputation _
  · rw [stands]
    constructor <;> simp
  · rw [taken]
    constructor <;> simp

theorem closeCycle_agree {s : State} (agree : StatesAgree s) : StatesAgree (closeCycle s) := by
  obtain ⟨counting, rearm, deferred⟩ := (atClose_samePart s).statesAgree agree
  rcases closeCycle_cases s with ⟨-, expired⟩ | ⟨reason, stands⟩ | ⟨waits, -, taken⟩
  · exact expired ▸ (enterFallback_inFallback _).statesAgree
  · rw [stands]
    exact ⟨counting, rearm, nofun⟩
  · have standby := deferred waits
    rw [taken]
    refine ⟨⟨fun _ => .inr rfl, fun _ => counting.mpr (.inl standby)⟩, fun armed => ?_, nofun⟩
    cases standby.symm.trans (rearm armed)

/-- FALLBACK and ACTIVE are entered at a close by an expiry, or by a deferred entry that passes the check. -/
theorem closeCycle_entersByRule {s : State} (running : s.csu.running = true) :
    EntersByRule s (closeCycle s) := by
  have same := atClose_samePart s
  rcases closeCycle_cases s with ⟨counts, expired⟩ | ⟨reason, stands⟩ | ⟨waits, fits, taken⟩
  · rw [expired]
    exact (enterFallback_inFallback _).entersByRule (same.supervised ▸ counts)
  · have part : (closeCycle s).sdu.part = s.sdu.part := by
      rw [stands]
      exact same.part
    constructor <;> simp_all
  · rw [taken]
    refine ⟨nofun, fun _ _ => ⟨same.deferred ▸ waits, running, ?_, fits, ?_⟩⟩
    · simp [atClose, becomeIdle]
    · simp [atClose, applyPosted_posted]

theorem closeIfDue_entersByRule (s : State) : EntersByRule s (closeIfDue s) := by
  unfold closeIfDue
  split
  · next due => exact closeCycle_entersByRule ((closeDue_iff s).mp due).1
  · exact (KeepsControl.refl s).entersByRule

theorem closeIfDue_agree {s : State} (agree : StatesAgree s) : StatesAgree (closeIfDue s) := by
  unfold closeIfDue
  split
  · exact closeCycle_agree agree
  · exact agree

theorem closeCycle_idle {s : State} (due : s.opu.updateDue = false) (next : s.slu.next = none)
    (results : s.osu.results = []) (awaits : AwaitsResults s) : InFlight (closeCycle s) := by
  refine (closeCycle_sameComputation s).inFlight ((inFlight_iff _).mpr (.idle ?_ ?_ ?_ ?_ ?_ ?_))
  all_goals simp_all [atClose, becomeIdle, AwaitsResults]

/-- Once the end report is in, the cycle closes when no result is left to be shaped (R146). -/
theorem closeIfDue_inFlight {s : State} (running : s.csu.running = true)
    (due : s.opu.updateDue = false) (next : s.slu.next = none) (ended : s.csu.endReport = true)
    (awaits : AwaitsResults s) : InFlight (closeIfDue s) := by
  have free : (∀ b : BogieId, s.csu.awaiting[b] = false) ↔ s.osu.results = [] := by
    constructor
    · intro none_
      refine List.eq_nil_iff_forall_not_mem.mpr fun r handed => ?_
      have awaited := (awaits.2 r.bogie).mpr (List.mem_map_of_mem handed)
      rw [none_] at awaited
      cases awaited
    · intro results b
      simpa [results] using awaits.2 b
  unfold closeIfDue
  split
  · next closes => exact closeCycle_idle due next (free.mp ((closeDue_iff s).mp closes).2.2) awaits
  · next open_ =>
    refine (inFlight_iff s).mpr (.offering running due next (fun results => open_ ?_) ended awaits)
    exact (closeDue_iff s).mpr ⟨running, ended, free.mpr results⟩

/-- Before the end report nothing closes. -/
theorem closeIfDue_open {s : State} (ended : s.csu.endReport = false) : closeIfDue s = s := by
  simp [closeIfDue, closeDue, ended]

/-! ## The steering unit's work (R84, R87) -/

theorem computeChannel_next (s : State) (c : ChannelId) (semi : Nat) (axle : RoutePoint) :
    (computeChannel s c semi axle).1.slu.next = s.slu.next := by
  obtain ⟨u, theta, record, writes, -, slu, -⟩ := computeChannel_writes s c semi axle
  rw [writes, writeChannel_slu, slu]

@[simp] theorem determine_next (s : State) (b : BogieId) : (determine s b).slu.next = s.slu.next := by
  simp only [determine]
  (repeat' split) <;> simp [storeBogieState, keepChannel, zeroChannel, emptyRecord, writeChannel_slu,
    computeChannel_next]

theorem determine_sameComputation (s : State) (b : BogieId) : SameComputation s (determine s b) := by
  constructor <;> simp

/-- What is determined in ACTIVE may keep the part alive between its reads; elsewhere nothing is read. -/
theorem determine_keepsControl (s : State) (b : BogieId) : KeepsControl s (determine s b) where
  agree agree := by
    by_cases active : s.sdu.part = .active
    · have counts := determine_counting (agree.1.mpr (.inr active)) b
      obtain ⟨-, rearm, deferred⟩ := agree
      simp_all [StatesAgree, determine_rearm]
    · obtain ⟨-, -, -, csu, -, -, sdu⟩ := determine_off_frame (b := b) (.inr active)
      unfold StatesAgree at agree ⊢
      rwa [csu, sdu]
  flight := (determine_sameComputation s b).inFlight
  part := .inl (by simp)

theorem handOn_samePart (s : State) (b : BogieId) : SamePart s (handOn s b) := by
  unfold handOn
  split <;> constructor <;> simp

/-- A bogie handed on joins the results and the bogies awaiting offer together (R84, R145). -/
theorem handOn_awaits {s : State} {b : BogieId} (before : ∀ r ∈ s.osu.results, r.bogie < b)
    (awaits : AwaitsResults s) :
    AwaitsResults (handOn s b) ∧ ∀ r ∈ (handOn s b).osu.results, r.bogie ≤ b := by
  obtain ⟨nodup, awaiting⟩ := awaits
  unfold handOn
  split
  · refine ⟨⟨?_, fun c => ?_⟩, ?_⟩
    · have apart : b ∉ s.osu.results.map SteeringResult.bogie := fun handed => by
        obtain ⟨r, held, rfl⟩ := List.mem_map.mp handed
        exact lt_irrefl _ (before r held)
      simpa [resultOf, List.nodup_append, nodup] using fun r held => (before r held).ne
    · by_cases own : c = b
      · simp [own, resultOf]
      · have other : b.val ≠ c.val := Fin.val_ne_of_ne (Ne.symm own)
        simpa [resultOf, Vector.getElem_set_ne, other, own] using awaiting c
    · simp only [State.setCsu_osu, State.setOsu_osu, List.mem_append, List.mem_singleton]
      rintro r (held | rfl)
      · exact (before r held).le
      · exact le_rfl
  · exact ⟨⟨nodup, awaiting⟩, fun r held => (before r held).le⟩

theorem handOn_running_ended (s : State) (b : BogieId) : (handOn s b).csu.running = s.csu.running ∧
    (handOn s b).csu.endReport = s.csu.endReport := by
  unfold handOn
  split <;> simp

/-- The determination of a bogie goes on to the next one, or ends the unit's work (R84). -/
theorem determineNext_inFlight {s : State} {b : BogieId} (now : s.slu.next = some b)
    (flight : InFlight s) : InFlight (determineNext s b) := by
  have determined := determine_sameComputation s b
  obtain ⟨_, _, next, -⟩ | ⟨_, _, next, -⟩ | ⟨c, running, due, next, before, ended, awaits⟩ |
    ⟨_, _, next, -⟩ := (inFlight_iff s).mp flight
  case steering =>
    obtain rfl : c = b := Option.some.inj (next.symm.trans now)
    obtain ⟨awaits', upTo⟩ := handOn_awaits (s := determine s c) (b := c)
      (by simpa using before) (determined.awaitsResults awaits)
    obtain ⟨running', ended'⟩ := handOn_running_ended (determine s c) c
    by_cases more : c.val + 1 < 4
    · rw [determineNext_before more]
      refine (inFlight_iff _).mpr (.steering ⟨c.val + 1, more⟩ ?_ ?_ rfl (fun r held => ?_) ?_ awaits')
      · simpa [running'] using running
      · simpa using due
      · exact Nat.lt_succ_of_le (upTo r held)
      · simpa [ended'] using ended
    · obtain rfl : c = 3 := Fin.ext (show c.val = 3 by omega)
      rw [determineNext_last, endWork_eq]
      refine closeIfDue_inFlight ?_ ?_ ?_ rfl ?_
      · simpa [workEnded, running'] using running
      · simpa [workEnded] using due
      · simp [workEnded]
      · simpa [AwaitsResults, workEnded] using awaits'
  all_goals simp [now] at next

theorem workEnded_samePart (s : State) : SamePart s (workEnded s) := by
  constructor <;> simp [workEnded]

theorem determineNext_stepControl {s : State} {b : BogieId} (now : s.slu.next = some b) :
    StepControl s (determineNext s b) := by
  have determined := determine_keepsControl s b
  have handed := handOn_samePart (determine s b) b
  have stays {t : State} (same : SamePart (determine s b) t)
      (path : determineNext s b = t) : StepControl s (determineNext s b) :=
    KeepsControl.stepControl ⟨fun agree => path ▸ same.statesAgree (determined.agree agree),
      determineNext_inFlight now, .inl (by simp [path, same.part])⟩
  by_cases more : b.val + 1 < 4
  · exact stays (handed.trans (by constructor <;> simp)) (determineNext_before more)
  · obtain rfl : b = 3 := Fin.ext (show b.val = 3 by omega)
    by_cases handsOn : s.tables.bogie[(3 : Fin 4)].enabled = true ∧ s.sdu.part ≠ .config
    · exact stays (handed.trans (workEnded_samePart _)) (determineNext_last_enabled handsOn.1 handsOn.2)
    · have nobody : s.tables.bogie[(3 : Fin 4)].enabled = false ∨ s.sdu.part = .config :=
        (not_and_or.mp handsOn).imp Bool.eq_false_iff.mpr not_not.mp
      obtain ⟨-, -, -, csu, -, -, sdu⟩ :=
        determine_off_frame (s := s) (b := 3) (nobody.imp_right fun config => by simp [config])
      have same : SamePart s (workEnded (determine s 3)) := by
        refine SamePart.trans (t := determine s 3) ?_ (workEnded_samePart _)
        constructor <;> simp [csu, sdu]
      have path : determineNext s 3 = closeIfDue (workEnded (determine s 3)) := by
        rw [determineNext_last, handOn_to_nobody (by simpa using nobody), endWork_eq]
      refine ⟨fun agree => ?_, determineNext_inFlight now, ?_⟩
      · exact path ▸ closeIfDue_agree (same.statesAgree agree)
      · exact path ▸ (closeIfDue_entersByRule _).of_same same (by simp [workEnded])

/-! ## Shaping (R109, R124, R145) -/

theorem offered_samePart (s : State) (r : SteeringResult) (rest : List SteeringResult) :
    SamePart s (offered s r rest) := by
  constructor <;> simp [offered]

/-- A result shaped leaves the results and the bogies awaiting offer together (R109, R145). -/
theorem offered_awaits {s : State} {r : SteeringResult} {rest : List SteeringResult}
    (front : s.osu.results = r :: rest) (awaits : AwaitsResults s) :
    AwaitsResults (offered s r rest) := by
  obtain ⟨nodup, awaiting⟩ := awaits
  rw [front, List.map_cons, List.nodup_cons] at nodup
  refine ⟨by rw [offered_results]; exact nodup.2, fun b => ?_⟩
  rw [offered_results]
  by_cases own : b = r.bogie
  · rw [own, offered_awaiting_own]
    simpa using nodup.1
  · rw [offered_awaiting_other s r rest own, awaiting b, front]
    simp [own]

theorem offered_inFlight {s : State} {r : SteeringResult} {rest : List SteeringResult}
    (front : s.osu.results = r :: rest) (flight : InFlight s) :
    InFlight (closeIfDue (offered s r rest)) := by
  have running' : (offered s r rest).csu.running = s.csu.running := rfl
  have ended' : (offered s r rest).csu.endReport = s.csu.endReport := rfl
  have due' : (offered s r rest).opu.updateDue = s.opu.updateDue := by simp [offered]
  have next' : (offered s r rest).slu.next = s.slu.next := by simp [offered]
  obtain ⟨_, _, _, results, -⟩ | ⟨_, _, _, results, -⟩ |
    ⟨b, running, due, next, before, ended, awaits⟩ | ⟨running, due, next, -, ended, awaits⟩ :=
    (inFlight_iff s).mp flight
  case steering =>
    rw [closeIfDue_open (ended'.trans ended)]
    refine (inFlight_iff _).mpr (.steering b (running'.trans running) (due'.trans due)
      (next'.trans next) (fun q held => before q ?_) (ended'.trans ended) (offered_awaits front awaits))
    rw [front]
    exact .tail r (offered_results s r rest ▸ held)
  case offering =>
    exact closeIfDue_inFlight (running'.trans running) (due'.trans due) (next'.trans next)
      (ended'.trans ended) (offered_awaits front awaits)
  all_goals simp [front] at results

theorem shapeNext_stepControl (s : State) : StepControl s (shapeNext s) := by
  unfold shapeNext
  split
  · exact (KeepsControl.refl s).stepControl
  · next r rest front =>
    have same := offered_samePart s r rest
    rw [shapeAndOffer_eq]
    exact ⟨fun agree => closeIfDue_agree (same.statesAgree agree), offered_inFlight front,
      (closeIfDue_entersByRule _).of_same same rfl⟩

end Sys2Proof.Proofs

/-! SUPPORT. The frames and the OUT port keep the agreement of the part state with its timers and the computation in
flight; with that every command does, and every step. -/

namespace Sys2Proof.Proofs

open Sys2Proof.Machine

/-! ## Delivered frames (R155, R157) -/

theorem handleSample_keepsControl (s : State) (source : Addr) (payload : List Word) :
    KeepsControl s (handleSample s source payload) :=
  .of_same (by constructor <;> constructor <;> simp)

theorem handleSegment_keepsControl (s : State) (payload : List Word) :
    KeepsControl s (handleSegment s payload) :=
  .of_same (by constructor <;> constructor <;> simp)

theorem handleAnswer_keepsControl (s : State) (source : Addr) (tag : Tag) (e : Echo) :
    KeepsControl s (handleAnswer s source tag e) :=
  .of_same (by constructor <;> constructor <;> simp)

theorem handleNotice_keepsControl (s : State) (source : Addr) (e : Echo) :
    KeepsControl s (handleNotice s source e) :=
  .of_same (by constructor <;> constructor <;> simp)

theorem handleReturnedCommand_keepsControl (s : State) (d : Addr) :
    KeepsControl s (handleReturnedCommand s d) :=
  .of_same (by constructor <;> constructor <;> simp)

theorem handleReturnedFetch_keepsControl (s : State) (n : Option Nat) :
    KeepsControl s (handleReturnedFetch s n) :=
  .of_same (by constructor <;> constructor <;> simp)

theorem setFlag_keepsControl (s : State) (f : Flag) : KeepsControl s (s.setFlag f) :=
  .of_same (by constructor <;> constructor <;> simp)

theorem handleEcho_keepsControl (s : State) (source : Addr) (tag : Tag) (payload : List Word) :
    KeepsControl s (handleEcho s source tag payload) := by
  unfold handleEcho
  split
  · exact handleAnswer_keepsControl s _ _ _
  · exact handleNotice_keepsControl s _ _
  · exact setFlag_keepsControl s _

theorem handleReturned_keepsControl (s : State) (f : ValidFrame) :
    KeepsControl s (handleReturned s f) := by
  unfold handleReturned
  split
  · exact handleReturnedCommand_keepsControl s _
  · exact handleReturnedFetch_keepsControl s _
  all_goals exact setFlag_keepsControl s _

theorem deliver_keepsControl (s : State) (straps : Addr) (f : ValidFrame) (broadcast : Bool) :
    KeepsControl s (deliver s straps f broadcast) := by
  unfold deliver
  cases f.header.cls with
  | sample => exact handleSample_keepsControl s _ _
  | echo => exact handleEcho_keepsControl s _ _ _
  | segment => exact handleSegment_keepsControl s _
  | cycle => exact handleCycle_keepsControl s _
  | manage => exact handleManage_keepsControl s _ _ _
  | command | fetch | reply => exact .ite _ (.refl s) (setFlag_keepsControl s _)

theorem forwardFrame_keepsControl (s : State) (bytes : List Byte) :
    KeepsControl s (forwardFrame s bytes) := by
  rcases forwardFrame_cases s bytes with ⟨-, h⟩ | ⟨-, h⟩ <;> rw [h]
  · exact .of_same (by constructor <;> constructor <;> simp)
  · exact setFlag_keepsControl s _

theorem dispose_keepsControl (s : State) (straps : Addr) (f : ValidFrame) :
    KeepsControl s (dispose s straps f) :=
  .ite _ (forwardFrame_keepsControl s _) <|
  .ite _ (handleReturned_keepsControl s f) <|
  .ite _ (deliver_keepsControl s straps f false) <|
  .ite _ ((forwardFrame_keepsControl s _).trans (deliver_keepsControl _ straps f true))
    (forwardFrame_keepsControl s _)

theorem setRpu_keepsControl (s : State) (x : Rpu) : KeepsControl s (s.setRpu x) :=
  .of_same (by constructor <;> constructor <;> simp)

theorem receiveBurst_keepsControl (s : State) (burst : List Byte) (straps : Addr) :
    KeepsControl s (receiveBurst s burst straps) := by
  have assembled (t : State) (a : Assembler) : KeepsControl t (t.setAssembler a) :=
    setRpu_keepsControl t _
  have closed := (assembled s (s.rpu.assembler.collect burst)).trans
    (assembled _ (s.rpu.assembler.collect burst).emptied)
  unfold receiveBurst closeFrame
  dsimp only
  split
  · exact closed.trans (dispose_keepsControl _ straps _)
  · exact closed.trans (setFlag_keepsControl _ _)

/-! ## The OUT port (R160, R163, R164, R190) -/

theorem issueFrame_keepsControl (s : State) (f : CommandFrame) : KeepsControl s (issueFrame s f) :=
  .of_same ⟨by constructor <;> simp, ⟨rfl, rfl, rfl, rfl, rfl, rfl⟩⟩

theorem selectNext_keepsControl (s : State) : KeepsControl s (selectNext s) := by
  unfold selectNext startSending
  split
  · split
    · exact setRpu_keepsControl s _
    · exact (setRpu_keepsControl s _).trans (issueFrame_keepsControl _ _)
    · exact setRpu_keepsControl s _
  · exact .refl s

theorem replyLeft_keepsControl (s : State) (straps : Addr) : KeepsControl s (replyLeft s straps) := by
  unfold replyLeft
  split
  · exact .ite _ ((setRpu_keepsControl s _).trans (reset_keepsControl _ _ _ _)) (setRpu_keepsControl s _)
  · exact .refl s

theorem transmissionEnded_keepsControl (s : State) : KeepsControl s (transmissionEnded s) := by
  unfold transmissionEnded
  split
  · exact .refl s
  · exact .refl s
  · exact setRpu_keepsControl s _

/-! ## Every command -/

/-- The commands at which a computation may close or supervision expire. -/
def mayEnter : Instr → Bool
  | .bogieDetermination | .shaping | .supervisionExpiry => true
  | _ => false

theorem exec_keepsControl {c : Instr} (calm : mayEnter c = false) (s t : State)
    (h : exec c s = .next t) : KeepsControl s t := by
  cases c <;> cases h
  case powerOnReset straps => exact reset_keepsControl s _ _ _
  case resetLine straps => exact reset_keepsControl s _ _ _
  case frameClose burst => exact .ite _ (.refl s) (receiveBurst_keepsControl s _ _)
  case sample d => exact .ite _ (.refl s) (handleSample_keepsControl s _ _)
  case answer source tag e => exact .ite _ (.refl s) (handleAnswer_keepsControl s _ _ _)
  case notice source tag e => exact .ite _ (.refl s) (handleNotice_keepsControl s _ _)
  case segment d => exact .ite _ (.refl s) (handleSegment_keepsControl s _)
  case cycle d => exact .ite _ (.refl s) (handleCycle_keepsControl s _)
  case returnedCommand d tag => exact .ite _ (.refl s) (handleReturnedCommand_keepsControl s _)
  case returnedFetch n => exact .ite _ (.refl s) (handleReturnedFetch_keepsControl s _)
  case returnedReply => exact .ite _ (.refl s) (setFlag_keepsControl s _)
  case substituteTimerExpiry => exact .ite _ (expireSubstitute_keepsControl s) (.refl s)
  case sampleExpired n => exact .of_same (by constructor <;> constructor <;> simp)
  case fetchTimeout n => exact .of_same (by constructor <;> constructor <;> simp)
  case echoTimeout b => exact .of_same (by constructor <;> constructor <;> simp)
  case positionUpdate =>
    split
    · next due => exact positionUpdate_keepsControl due
    · exact .refl s
  case bogieDetermination | shaping | supervisionExpiry => cases calm
  case outSelection => exact selectNext_keepsControl s
  case replyLeftOut straps => exact replyLeft_keepsControl s straps
  case statusRead o page data => exact manage_keepsControl s o 1 (.of_fst (readStatus_fst _ data))
  case tableRead o n i data => exact manage_keepsControl s o 3 (.of_fst (readTable_fst _ _ data))
  case tableWriteSource o i entry => exact manage_keepsControl s o 2 (writes_keepControl o _ entry).source
  case tableWriteAxle o i entry => exact manage_keepsControl s o 2 (writes_keepControl o _ entry).axle
  case tableWriteBogie o i entry => exact manage_keepsControl s o 2 (writes_keepControl o _ entry).bogie
  case tableWriteChannel o i entry =>
    exact manage_keepsControl s o 2 (writes_keepControl o _ entry).channel
  case tableWriteGainSchedule o i entry =>
    exact manage_keepsControl s o 2 (writes_keepControl o _ entry).gain
  case tableWriteBeacon o i entry => exact manage_keepsControl s o 2 (writes_keepControl o _ entry).beacon
  case tableWriteParameter o i entry =>
    exact manage_keepsControl s o 2 (writes_keepControl o _ entry).param
  case stateSetConfig o data =>
    exact manage_keepsControl s o 4 (withoutData_keepsControl stateSetConfig_keepsControl data)
  case stateSetStandby o data =>
    exact manage_keepsControl s o 4 (withoutData_keepsControl stateSetStandby_keepsControl data)
  case stateSetActive o data => exact manage_keepsControl s o 4 (stateSetActive_keepsControl data)
  case positionSet o n data => exact manage_keepsControl s o 5 (setPosition_keepsControl o _ data)
  case routeAppend o n data => exact manage_keepsControl s o 6 (appendRoute_keepsControl _ data)
  case routeClear o data =>
    exact manage_keepsControl s o 7 (withoutData_keepsControl clearRoute_keepsControl data)
  case diagAck o data => exact manage_keepsControl s o 8 (ackFlags_keepsControl data)
  case cacheInvalidate o data => exact manage_keepsControl s o 9 (invalidateOne_keepsControl o data)
  case cacheInvalidateAll o data => exact manage_keepsControl s o 9 (invalidateEvery_keepsControl o data)
  case cacheRead o data => exact manage_keepsControl s o 10 (.of_fst (readCache_fst data))
  case channelRead o part b data => exact manage_keepsControl s o 11 (.of_fst (readChannel_fst _ _ data))
  case resetPrepare o data => exact manage_keepsControl s o 12 (prepareReset_keepsControl o data)
  case resetConfirm o data => exact manage_keepsControl s o 13 (confirmReset_keepsControl _ _ o _)
  case refusedFunction o f data =>
    exact .ite _ (manage_keepsControl s o _ (.of_fst fun _ => rfl)) (.refl s)
  case lineIdle => exact setRpu_keepsControl s _
  case frameTransmissionEnd => exact transmissionEnded_keepsControl s

theorem exec_stepControl (c : Instr) (s t : State) (h : exec c s = .next t) : StepControl s t := by
  cases c
  case bogieDetermination =>
    cases h
    split
    · next now => exact determineNext_stepControl now
    · exact (KeepsControl.refl s).stepControl
  case shaping =>
    cases h
    exact shapeNext_stepControl s
  case supervisionExpiry =>
    cases h
    split
    · next counts => exact expireSupervision_stepControl counts
    · exact (KeepsControl.refl s).stepControl
  all_goals exact (exec_keepsControl rfl s t h).stepControl

theorem step_stepControl (s t : State) (h : step s = .next t) : StepControl s t := by
  unfold step at h
  split at h
  · cases h
    exact tick_stepControl s
  · next c rest _ =>
    have taken : KeepsControl s (s.setPending rest) :=
      .of_same (by constructor <;> constructor <;> simp)
    have moved := exec_stepControl c _ t h
    exact ⟨moved.agree ∘ taken.agree, moved.flight ∘ taken.flight,
      moved.enters.of_same ⟨rfl, rfl, rfl, rfl⟩ rfl⟩

/-- Settles O57: a step keeps the agreement, since every command and half a millisecond do. -/
theorem statesKeepAgreeing : Obligations.StatesKeepAgreeing :=
  fun s t agree h => (step_stepControl s t h).agree agree

/-- Settles O58: a step keeps the computation in one of its phases. -/
theorem computationCoherent : Obligations.ComputationCoherent :=
  fun s t flight h => (step_stepControl s t h).flight flight

/-- Settles O60: FALLBACK is entered by an expiry of supervision, ACTIVE by a deferred entry at a close. -/
theorem partStateEntered : Obligations.PartStateEntered := by
  refine ⟨fun s t h now before => ?_, fun s t h => (step_stepControl s t h).enters.active⟩
  obtain ⟨counts, entered⟩ := (step_stepControl s t h).enters.fallback now before
  obtain ⟨counting, part⟩ := (supervised_iff s).mp counts
  exact ⟨part, counting, entered.flag, entered.rearm, entered.deferred⟩

end Sys2Proof.Proofs

/-! SUPPORT. Cycle marks whole (R141 to R144, R147, R149, R151): what a CYCLE frame makes known whether or not its mark
is taken, and what a mark of either origin leaves, taken or not. -/

namespace Sys2Proof.Proofs

open Sys2Proof.Machine

/-! ## Flags of a mark (R12, R74, R130) -/

@[simp] theorem flag_setCsu (s : State) (x : Csu) (f : Flag) : (s.setCsu x).flag f = s.flag f := rfl

/-- The flags that a mark can set. -/
def marksFlag : Flag → Bool
  | .sampleStale | .fetchTimeout | .echoTimeout => true
  | _ => false

section
variable {f : Flag} (other : marksFlag f = false)
include other

theorem evaluateSlots_flag_other (s : State) : (evaluateSlots s).flag f = s.flag f := by
  have apart : Flag.sampleStale ≠ f := by rintro rfl; cases other
  simp only [evaluateSlots, State.flag_setFlagIf, apart, decide_false, Bool.and_false, Bool.or_false]
  rfl

theorem timeoutFetch_flag_other (s : State) (n : Nat) : (timeoutFetch s n).flag f = s.flag f := by
  have apart : Flag.fetchTimeout ≠ f := by rintro rfl; cases other
  have freed : (freeFetch s n).flag f = s.flag f := rfl
  unfold timeoutFetch
  (repeat' split) <;> simp [freed, apart]

theorem ageFetches_flag_other (s : State) : (ageFetches s).flag f = s.flag f :=
  List.foldlRecOn (b := agedFetches s) (agedFetches s).sgc.outstanding _
    (motive := fun t => t.flag f = s.flag f) rfl
    fun t same e _ => (timeoutFetch_flag_other other t e.segment).trans same

theorem timeoutLink_flag_other (s : State) (b : BogieId) : (timeoutLink s b).flag f = s.flag f := by
  have apart : Flag.echoTimeout ≠ f := by rintro rfl; cases other
  have ended (l : Link) : (s.setLink b l).flag f = s.flag f := rfl
  unfold timeoutLink
  (repeat' split) <;> simp [ended, apart]

theorem ageLinks_flag_other (s : State) : (ageLinks s).flag f = s.flag f :=
  List.foldlRecOn (b := agedLinks s) (List.finRange 4) timeoutLink
    (motive := fun t => t.flag f = s.flag f) rfl
    fun t same b _ => (timeoutLink_flag_other other t b).trans same

/-- A mark sets none but its three flags. -/
theorem takeMark_flag_other (s : State) : (takeMark s).flag f = s.flag f := by
  simp only [takeMark, beginCycle, flag_setOpu, ageLinks_flag_other other,
    ageFetches_flag_other other, evaluateSlots_flag_other other, flag_setCsu]

end

/-! ## The sequence of CYCLE frames (R141, R147) -/

theorem inSequence_iff (last : Option Nat) (number : Nat) : inSequence last number = true ↔
    ∃ m, last = some m ∧ number = (m + 1) % 65536 := by
  cases last <;> simp [inSequence, nextCycle]

/-- A frame breaks the sequence when there is a last number that it does not follow. -/
theorem breaksSequence_iff (last : Option Nat) (number : Nat) : breaksSequence last number = true ↔
    last ≠ none ∧ ¬ inSequence last number = true := by
  cases last <;> simp [breaksSequence, inSequence]

theorem validKeepAlive_iff (s : State) (number : Nat) : validKeepAlive s number = true ↔
    inSequence s.csu.lastNumber number = true ∨ s.csu.standbyStart = true := by
  simp [validKeepAlive]

/-- Of 16-bit numbers the one before is said either way about. -/
theorem inSequence_of_previous {last : Option Nat} {number : Word}
    (previous : last = some ((number.toNat + 65535) % 65536)) :
    inSequence last number.toNat = true := by
  refine (inSequence_iff _ _).mpr ⟨_, previous, ?_⟩
  omega

theorem inSequence_iff_previous {last : Option Nat} {number : Word}
    (inRange : last.all (· < 65536) = true) : inSequence last number.toNat = true ↔
      last = some ((number.toNat + 65535) % 65536) := by
  refine ⟨fun follows => ?_, inSequence_of_previous⟩
  obtain ⟨m, rfl, next⟩ := (inSequence_iff _ _).mp follows
  have small : m < 65536 := by simpa only [Option.all_some, decide_eq_true_eq] using inRange
  rw [Option.some.injEq]
  omega

/-! ## Keep-alives (R149, R151) -/

theorem keepAlive_supervised {s : State} (part : s.sdu.part = .standby ∨ s.sdu.part = .active) :
    keepAlive s = s.setCsu { s.csu with supervision := timerStarted } := by
  unfold keepAlive
  rcases part with part | part <;> rw [part]

theorem keepAlive_fallback {s : State} (part : s.sdu.part = .fallback) :
    (keepAlive s).csu.supervision = s.csu.supervision ∧
    ((keepAlive s).csu.rearm = true ↔ s.csu.rearm = true ∨ s.flag .supExpired = false) := by
  unfold keepAlive
  rw [part]
  cases s.flag .supExpired <;> simp

theorem keepAlive_config {s : State} (part : s.sdu.part = .config) : keepAlive s = s := by
  unfold keepAlive
  rw [part]

/-! ## A CYCLE frame heard (R141, R147) -/

theorem hearCycle_csu_eq (s : State) (number : Nat) : (hearCycle s number).csu = { s.csu with
    lastNumber := some number, standbyStart := false, substTimer := some (3 * s.tables.param.period),
    supervision := (hearCycle s number).csu.supervision, rearm := (hearCycle s number).csu.rearm } := by
  simp only [hearCycle, reloadSubstitute, keepAlive]
  (repeat' split) <;> simp

theorem hearCycle_flag (s : State) (number : Nat) (f : Flag) : (hearCycle s number).flag f =
    (s.setFlagIf (breaksSequence s.csu.lastNumber number) .cycleSeq).flag f := by
  have alive (t : State) : (keepAlive t).flag f = t.flag f := by simp [State.flag]
  simp only [hearCycle, reloadSubstitute]
  split
  · exact alive _
  · rfl

theorem hearCycle_supervised {s : State} {number : Nat} (alive : validKeepAlive s number = true)
    (part : s.sdu.part = .standby ∨ s.sdu.part = .active) :
    (hearCycle s number).csu.supervision = { counting := true, elapsed := 0 } ∧
    (hearCycle s number).csu.rearm = s.csu.rearm := by
  have renewed := keepAlive_supervised (s := s.setFlagIf (breaksSequence s.csu.lastNumber number)
    .cycleSeq) (by simpa using part)
  simp [hearCycle, reloadSubstitute, alive, renewed, timerStarted]

theorem hearCycle_fallback {s : State} {number : Nat} (alive : validKeepAlive s number = true)
    (part : s.sdu.part = .fallback) :
    (hearCycle s number).csu.supervision = s.csu.supervision ∧
    ((hearCycle s number).csu.rearm = true ↔ s.csu.rearm = true ∨ s.flag .supExpired = false) := by
  have armed := keepAlive_fallback (s := s.setFlagIf (breaksSequence s.csu.lastNumber number)
    .cycleSeq) (by simpa using part)
  simpa [hearCycle, reloadSubstitute, alive] using armed

theorem hearCycle_unheeded {s : State} {number : Nat}
    (none_ : validKeepAlive s number = false ∨ s.sdu.part = .config) :
    (hearCycle s number).csu.supervision = s.csu.supervision ∧
    (hearCycle s number).csu.rearm = s.csu.rearm := by
  have config (part : s.sdu.part = .config) := keepAlive_config
    (s := s.setFlagIf (breaksSequence s.csu.lastNumber number) .cycleSeq) (by simpa using part)
  simp only [hearCycle, reloadSubstitute]
  split
  · next alive =>
    rw [config (none_.resolve_left (by simp [alive]))]
    simp
  · simp

/-- What a CYCLE frame with this number makes known in a state `s`, left in `t` (R141, R147, R149, R151). -/
structure Hears (s : State) (number : Nat) (t : State) : Prop where
  lastNumber : t.csu.lastNumber = some number
  standbyStart : t.csu.standbyStart = false
  substTimer : t.csu.substTimer = some (3 * s.tables.param.period)
  cycleSeq : t.flag .cycleSeq = true ↔ s.flag .cycleSeq = true ∨
    (s.csu.lastNumber ≠ none ∧ ¬ inSequence s.csu.lastNumber number = true)
  renewed : validKeepAlive s number = true → s.sdu.part = .standby ∨ s.sdu.part = .active →
    t.csu.supervision = { counting := true, elapsed := 0 } ∧ t.csu.rearm = s.csu.rearm
  rearmed : validKeepAlive s number = true → s.sdu.part = .fallback →
    t.csu.supervision = s.csu.supervision ∧
    (t.csu.rearm = true ↔ s.csu.rearm = true ∨ s.flag .supExpired = false)
  unheeded : validKeepAlive s number = false ∨ s.sdu.part = .config →
    t.csu.supervision = s.csu.supervision ∧ t.csu.rearm = s.csu.rearm

theorem hearCycle_hears (s : State) (number : Nat) : Hears s number (hearCycle s number) where
  lastNumber := by rw [hearCycle_csu_eq]
  standbyStart := by rw [hearCycle_csu_eq]
  substTimer := by rw [hearCycle_csu_eq]
  cycleSeq := by simp [hearCycle_flag, breaksSequence_iff]
  renewed := hearCycle_supervised
  rearmed := hearCycle_fallback
  unheeded := hearCycle_unheeded

/-- What is known stays known while the unit and CYCLE_SEQ do. -/
theorem Hears.stands {s t u : State} {number : Nat} (h : Hears s number t)
    (lastNumber : u.csu.lastNumber = t.csu.lastNumber) (standbyStart : u.csu.standbyStart = t.csu.standbyStart)
    (substTimer : u.csu.substTimer = t.csu.substTimer) (supervision : u.csu.supervision = t.csu.supervision)
    (rearm : u.csu.rearm = t.csu.rearm) (flag : u.flag .cycleSeq = t.flag .cycleSeq) :
    Hears s number u := by
  obtain ⟨h1, h2, h3, h4, h5, h6, h7⟩ := h
  rw [← lastNumber, ← standbyStart, ← substTimer, ← supervision, ← rearm, ← flag] at *
  exact ⟨h1, h2, h3, h4, h5, h6, h7⟩

/-! ## The frame handled -/

theorem exec_cycle {s : State} {d : Delivery} (delivers : forwardOnly s = false) :
    exec (.cycle d) s = .next (handleCycle s d.payload) := by
  have path : exec (.cycle d) s =
    .next (if forwardOnly s then s else handleCycle s d.payload) := rfl
  simp [path, delivers]

theorem handleCycle_length {s : State} {payload : List Word} (length : payload.length ≠ 1) :
    handleCycle s payload = s.setFlag .rxReject := by
  unfold handleCycle
  split
  · exact absurd rfl length
  · rfl

theorem exec_cycle_running {s : State} {d : Delivery} {number : Word}
    (delivers : forwardOnly s = false) (word : d.payload = [number])
    (running : s.csu.running = true) :
    exec (.cycle d) s = .next ((hearCycle s number.toNat).setFlag .cycleOverrun) := by
  have runs := (hearCycle_csu s number.toNat).2.trans running
  simp [exec_cycle delivers, word, handleCycle, runs]

theorem takeMark_hears (s : State) (number : Nat) : Hears s number (takeMark (hearCycle s number)) :=
  (hearCycle_hears s number).stands (by rw [takeMark_csu]) (by rw [takeMark_csu]) (by rw [takeMark_csu])
    (by rw [takeMark_csu]) (by rw [takeMark_csu]) (takeMark_flag_other rfl _)

/-- Settles O18: a frame of one word is heard, and its mark taken; another length is rejected. -/
theorem cycleFrameMakesMark : Obligations.CycleFrameMakesMark := by
  refine fun d s delivers => ⟨fun length => ?_, fun number word idle => ?_⟩
  · rw [exec_cycle delivers, handleCycle_length length]
  · intro follows alive
    have heard := takeMark_hears s number.toNat
    have csu := takeMark_csu (hearCycle s number.toNat)
    have counted := (hearCycle_csu s number.toNat).1
    have valid : alive → validKeepAlive s number.toNat = true := fun lives =>
      (validKeepAlive_iff s _).mpr (lives.imp_left inSequence_of_previous)
    have sequence (inRange : s.csu.lastNumber.all (· < 65536) = true) :
        inSequence s.csu.lastNumber number.toNat = true ↔ follows := inSequence_iff_previous inRange
    refine ⟨_, exec_cycle_taken delivers word idle, ?_, ?_, fun b => ?_, ?_, heard.lastNumber,
      heard.standbyStart, heard.substTimer, ?_, ?_, fun inRange => ?_, fun lives part => ?_,
      fun inRange silent => ?_, fun lives part => heard.rearmed (valid lives) part, ?_⟩
    · rw [csu, counted]
      rfl
    · rw [csu]
    · simp [csu]
    · rw [csu]
    · rw [csu, hearCycle_csu_eq]
    · simp [takeMark_opu]
    · rw [heard.cycleSeq, sequence inRange]
    · exact (heard.renewed (valid lives) part).1
    · refine heard.unheeded (.inl (Bool.eq_false_iff.mpr fun lives => silent ?_))
      exact ((validKeepAlive_iff s _).mp lives).imp_left (sequence inRange).mp
    · simp

/-! ## A mark that is not taken (R143) -/

theorem exec_substituteTimerExpiry (s : State) : exec .substituteTimerExpiry s =
    .next (if s.csu.substTimer.isSome then expireSubstitute s else s) := rfl

theorem exec_substitute_running {s : State} (runs : s.csu.substTimer ≠ none)
    (running : s.csu.running = true) : exec .substituteTimerExpiry s =
      .next ((reloadSubstitute s (2 * s.tables.param.period)).setFlag .cycleOverrun) := by
  have counts : s.csu.substTimer.isSome = true := Option.isSome_iff_ne_none.mpr runs
  have still : (reloadSubstitute s (2 * s.tables.param.period)).csu.running = true := running
  simp [exec_substituteTimerExpiry, counts, expireSubstitute, still]

/-- Settles O19: while RUNNING a frame is heard and nothing else is done, and an expiry reloads the timer. -/
theorem markNotTakenWhileRunning : Obligations.MarkNotTakenWhileRunning := by
  refine fun d number s running => ⟨fun delivers word => ?_, fun runs => ?_⟩
  · intro follows alive
    have heard : Hears s number.toNat ((hearCycle s number.toNat).setFlag .cycleOverrun) :=
      (hearCycle_hears s number.toNat).stands rfl rfl rfl rfl rfl (by simp)
    have csu : ((hearCycle s number.toNat).setFlag .cycleOverrun).csu = _ := hearCycle_csu_eq s number.toNat
    have valid : validKeepAlive s number.toNat = true ↔ alive := by
      rw [validKeepAlive_iff, inSequence_iff]
    refine ⟨_, exec_cycle_running delivers word running, by simp, ?_, ?_, ?_, ?_, ?_, ?_,
      heard.lastNumber, heard.standbyStart, heard.substTimer, ?_,
      fun lives part => heard.renewed (valid.mpr lives) part,
      fun lives part => heard.rearmed (valid.mpr lives) part, fun none_ => ?_, ?_⟩
    · rw [csu]
    · rw [csu]
      exact running
    · rw [csu]
    · rw [csu]
    · rw [csu]
    · rw [csu]
    · rw [heard.cycleSeq, inSequence_iff]
    · exact heard.unheeded (none_.imp_left fun silent => Bool.eq_false_iff.mpr (silent ∘ valid.mp))
    · simp
  · exact exec_substitute_running runs running

/-! ## A substitute mark taken (R144) -/

/-- Settles O20: the timer reloaded, the mark is taken, flagged and counted. -/
theorem substituteMarkTaken : Obligations.SubstituteMark := by
  refine fun s => ⟨fun stopped => ?_, fun runs idle => ?_⟩
  · simp [exec_substituteTimerExpiry, stopped]
  · refine ⟨_, exec_substitute_taken runs idle, by simp, ?_, ?_, ?_⟩
    · simp only [State.setCsu_csu, substituteMark, takeMark_csu]
      rfl
    · simp [substituteMark, takeMark_opu]
    · simp [substituteMark]

end Sys2Proof.Proofs

/-! SUPPORT. The entry into FALLBACK at an expiry of supervision (R86, R137, R150, R171), and half a millisecond on an
empty queue (R140, R144, R149, R150; log 7). -/

namespace Sys2Proof.Proofs

open Sys2Proof.Machine

/-! ## The entry into FALLBACK (R137, R150, R171) -/

/-- The timer stops at the value reached (R150). -/
theorem enterFallback_csu (s : State) : (enterFallback s).csu = { s.csu with
    supervision := { counting := false, elapsed := s.csu.supervision.elapsed }, rearm := false } := by
  simp [enterFallback]

/-- The exchange of each bogie whose COMMAND is withdrawn is ended (R137). -/
theorem enterFallback_als (s : State) (b : BogieId) : (enterFallback s).als[b] =
    if commandWaits s b then { s.als[b] with outstanding := none } else s.als[b] := by
  simp [enterFallback, fallbackLinks, withdrawAll, commandWaits]

theorem enterFallback_commands (s : State) : (enterFallback s).rpu.commands = [] := by
  simp [enterFallback, fallbackLinks, withdrawAll]

/-- Out of ACTIVE every bogie is OFF and every last target 0 (R86). -/
theorem enterFallback_slu {s : State} (active : s.sdu.part = .active) :
    (∀ b : BogieId, (enterFallback s).slu.bogieState[b] = .off) ∧
    ∀ c : ChannelId, (enterFallback s).slu.lastTarget[c] = 0 := by
  simp [enterFallback, leaveIfActive, active, leaveActive]

theorem exec_supervisionExpiry (s : State) : exec .supervisionExpiry s =
    .next (if supervised s then expireSupervision s else s) := rfl

/-- Settles O39: an expiry is an entry into FALLBACK with the timer at the effective timeout at least. -/
theorem supervisionExpires : Obligations.SupervisionExpires := by
  refine fun s => ⟨fun idle => by simp [exec_supervisionExpiry, idle], fun counts => ?_⟩
  have entered : InFallback (expireSupervision s) := enterFallback_inFallback _
  have csu : (expireSupervision s).csu = { s.csu with
      supervision := {
        counting := false
        elapsed := max s.csu.supervision.elapsed (2 * effectiveTimeout s.tables.param) }
      rearm := false } := enterFallback_csu _
  refine ⟨expireSupervision s, by rw [exec_supervisionExpiry, if_pos counts], entered.part, entered.flag,
    entered.deferred, entered.rearm, entered.counting, ?_, enterFallback_commands _, by simp,
    enterFallback_als _, fun active => enterFallback_slu active, ?_⟩
  · rw [csu]
    rfl
  · simp [csu]

/-! ## Half a millisecond (R140, R144, R149, R150) -/

theorem step_idle {s : State} (empty : s.pending = []) : step s = .next (tick s) := by
  simp [step, empty]

@[simp] theorem tickSubstitute_supervision (s : State) :
    (tickSubstitute s).csu.supervision = s.csu.supervision := by
  simp only [tickSubstitute, expireSubstitute]
  (repeat' split) <;> simp [takeMark_csu, reloadSubstitute]

theorem tickSubstitute_running {s : State} {n : Nat} (runs : s.csu.substTimer = some (n + 2)) :
    tickSubstitute s = s.setCsu { s.csu with substTimer := some (n + 1) } := by
  simp [tickSubstitute, runs]

theorem tickSubstitute_last {s : State} {n : Nat} (runs : s.csu.substTimer = some n) (last : n ≤ 1) :
    exec .substituteTimerExpiry s = .next (tickSubstitute s) := by
  simp [exec_substituteTimerExpiry, tickSubstitute, runs, last]

theorem supervised_supervisionCounted (s : State) : supervised (supervisionCounted s) = supervised s :=
  (supervisionCounted_samePart s).supervised

/-- Before the effective timeout is reached the timer alone goes on (R149). -/
theorem tickSupervision_before {s : State} (counts : supervised s = true)
    (before : s.csu.supervision.elapsed + 1 < 2 * effectiveTimeout s.tables.param) :
    tickSupervision s = supervisionCounted s := by
  have early : supervisionReached (supervisionCounted s) = false := by
    have late : ¬ 2 * effectiveTimeout s.tables.param ≤ s.csu.supervision.elapsed + 1 := Nat.not_le.mpr before
    simp only [supervisionReached, Bool.and_eq_false_imp, decide_eq_false_iff_not]
    exact fun _ => late
  rw [tickSupervision_eq, if_pos counts, testSupervision, early]
  rfl

/-- The half millisecond that reaches the effective timeout is the moment of the expiry (R150). -/
theorem tickSupervision_reached {s : State} (counts : supervised s = true)
    (reached : 2 * effectiveTimeout s.tables.param ≤ s.csu.supervision.elapsed + 1) :
    exec .supervisionExpiry (supervisionCounted s) = .next (tickSupervision s) := by
  have counts' : supervised (supervisionCounted s) = true := (supervised_supervisionCounted s).trans counts
  have due : supervisionReached (supervisionCounted s) = true := by
    rw [supervisionReached, counts', Bool.true_and, decide_eq_true_eq]
    exact reached
  have value : max (s.csu.supervision.elapsed + 1) (2 * effectiveTimeout s.tables.param) =
      s.csu.supervision.elapsed + 1 := max_eq_left reached
  have expired : expireSupervision (supervisionCounted s) = enterFallback (supervisionCounted s) := by
    simp [expireSupervision, supervisionCounted, value]
  rw [exec_supervisionExpiry, if_pos counts', tickSupervision_eq, if_pos counts, testSupervision, if_pos due,
    expired]

/-- Settles O2: the substitute timer's half millisecond, then supervision's. -/
theorem emptyQueueCountsTime : Obligations.EmptyQueueCountsTime := by
  intro s empty passed
  have path : step s = .next (tickSupervision (tickSubstitute passed)) := step_idle empty
  have elapsed : (tickSubstitute passed).csu.supervision = s.csu.supervision := by simp [passed]
  have param : (tickSubstitute passed).tables = s.tables := by simp [passed]
  have counting : supervised (tickSubstitute passed) = true ↔ s.csu.supervision.counting = true ∧
      (s.sdu.part = .standby ∨ s.sdu.part = .active) := by
    rw [supervised_iff]
    simp [passed]
  refine ⟨tickSubstitute passed, fun stopped => ?_, fun n runs => tickSubstitute_running runs,
    fun n runs last => tickSubstitute_last runs last, ?_⟩
  · simp [tickSubstitute, passed, stopped]
  · intro counted timeout counts
    have same : counted = supervisionCounted (tickSubstitute passed) := by
      simp only [counted, supervisionCounted, elapsed]
    refine ⟨fun idle => ?_, fun on before => ?_, fun on reached => ?_⟩
    · rw [path, tickSupervision_eq, if_neg (mt counting.mp idle)]
    · rw [path, same, tickSupervision_before (counting.mpr on)]
      rw [elapsed, param]
      exact before
    · rw [path, same, tickSupervision_reached (counting.mpr on)]
      rw [elapsed, param]
      exact reached

end Sys2Proof.Proofs

/-! SUPPORT. Reception (R154 to R156, R159, R165): the checks of a closed burst inverted, what a listening assembler
makes of a burst, and the disposition of a valid frame by its source and destination. -/

namespace Sys2Proof.Proofs

open Sys2Proof.Machine

/-! ## The checks of a closed burst (R155) -/

/-- A burst that passes has a header with a guard pair of two values, the length that its header gives, and its
check byte last. -/
theorem checkFrame_eq_some {kept : List Byte} {count : Nat} {f : ValidFrame}
    (valid : checkFrame kept count = some f) :
    ∃ b0 b1 b2 b3 rest, kept = b0 :: b1 :: b2 :: b3 :: rest ∧
      f.header = FrameHeader.ofValue (headerValue b0 b1 b2 b3) ∧
      f.header.guard.getLsbD 1 ≠ f.header.guard.getLsbD 0 ∧
      f.header.length ≤ 24 ∧ count = 5 + 2 * f.header.length ∧
      kept.getLast? = some (checkByte ([b0, b1, b2, b3] ++ rest.take (2 * f.header.length))) ∧
      f.bytes = kept := by
  unfold checkFrame at valid
  split at valid
  · next b0 b1 b2 b3 rest =>
    dsimp only at valid
    split_ifs at valid with guard length check
    cases valid
    obtain ⟨short, counted⟩ := not_or.mp length
    exact ⟨b0, b1, b2, b3, rest, rfl, rfl, guard, Nat.not_lt.mp short, not_not.mp counted, check, rfl⟩
  · cases valid

theorem checkFrame_bytes {kept : List Byte} {count : Nat} {f : ValidFrame}
    (valid : checkFrame kept count = some f) : f.bytes = kept := by
  obtain ⟨_, _, _, _, _, _, _, _, _, _, _, bytes⟩ := checkFrame_eq_some valid
  exact bytes

/-- The guard pair is the two highest bits of the first byte (Table 12.1). -/
theorem guard_getLsbD (b0 b1 b2 b3 : Byte) :
    (FrameHeader.ofValue (headerValue b0 b1 b2 b3)).guard.getLsbD 1 = b0.getLsbD 7 ∧
    (FrameHeader.ofValue (headerValue b0 b1 b2 b3)).guard.getLsbD 0 = b0.getLsbD 6 := by
  have top (k : Nat) : (headerValue b0 b1 b2 b3).getLsbD (24 + k) = b0.getLsbD k := by
    rw [headerValue, BitVec.getLsbD_append, BitVec.getLsbD_append, BitVec.getLsbD_append]
    rw [if_neg (by omega), if_neg (by omega), if_neg (by omega), show 24 + k - 8 - 8 - 8 = k by omega]
  simpa [FrameHeader.ofValue] using And.intro (top 7) (top 6)

/-- What the checks ask of a burst, said of its bytes: a burst that fails one is no frame. -/
theorem checkFrame_fails {burst : List Byte}
    (bad : burst.length < 5 ∨ ∃ b0 b1 b2 b3 rest, burst = b0 :: b1 :: b2 :: b3 :: rest ∧
      (b0.getLsbD 7 = b0.getLsbD 6 ∨
       24 < (FrameHeader.ofValue (headerValue b0 b1 b2 b3)).length ∨
       burst.length ≠ 5 + 2 * (FrameHeader.ofValue (headerValue b0 b1 b2 b3)).length ∨
       burst.getLast? ≠ some (checkByte burst.dropLast))) :
    checkFrame (burst.take Config.maxBurst) burst.length = none := by
  refine Option.eq_none_iff_forall_ne_some.mpr fun f valid => ?_
  obtain ⟨c0, c1, c2, c3, body, kept, header, guard, short, counted, check, -⟩ := checkFrame_eq_some valid
  have whole : burst.take Config.maxBurst = burst := List.take_of_length_le (by simp only [Config.maxBurst]; omega)
  rw [whole] at kept check
  rcases bad with tiny | ⟨b0, b1, b2, b3, rest, parts, fails⟩
  · omega
  · obtain ⟨rfl, rfl, rfl, rfl, rfl⟩ : b0 = c0 ∧ b1 = c1 ∧ b2 = c2 ∧ b3 = c3 ∧ rest = body := by
      simpa using parts.symm.trans kept
    rw [← header] at fails
    rcases fails with equal | long | miscounted | miscomputed
    · obtain ⟨high, low⟩ := guard_getLsbD b0 b1 b2 b3
      rw [header, high, low] at guard
      exact guard equal
    · omega
    · exact miscounted counted
    · have size : rest.length = 2 * f.header.length + 1 := by
        simp only [kept, List.length_cons] at counted
        omega
      have front : burst.dropLast = [b0, b1, b2, b3] ++ rest.take (2 * f.header.length) := by
        simp [List.dropLast_eq_take, kept, size]
      exact miscomputed (front ▸ check)

/-! ## A burst at the assembler (R154) -/

theorem exec_frameClose (burst : List Byte) (straps : Addr) (s : State) :
    exec (.frameClose ⟨burst, straps⟩) s =
      .next (if s.rpu.assembler.waitIdle then s else receiveBurst s burst straps) := rfl

theorem exec_frameClose_waiting {s : State} (burst : List Byte) (straps : Addr)
    (waits : s.rpu.assembler.waitIdle = true) : exec (.frameClose ⟨burst, straps⟩) s = .next s := by
  rw [exec_frameClose, if_pos waits]

section

variable {s : State} {burst : List Byte} (straps : Addr) (listens : Listening s)
include listens

/-- A listening assembler gives the checks the first 53 bytes of a burst and the number that came, and is empty
again afterwards. -/
theorem exec_frameClose_listening : exec (.frameClose ⟨burst, straps⟩) s =
    .next ((checkFrame (burst.take Config.maxBurst) burst.length).elim (s.setFlag .rxReject)
      (dispose s straps)) := by
  have collected : s.rpu.assembler.collect burst =
      { waitIdle := false, kept := burst.take Config.maxBurst, count := burst.length } := by
    rw [listens]
    simp [Assembler.collect]
  have emptied : (s.setAssembler (s.rpu.assembler.collect burst)).setAssembler
      (s.rpu.assembler.collect burst).emptied = s := by
    rw [collected, Assembler.emptied, ← listens]
    rfl
  have takes : s.rpu.assembler.waitIdle = false := congrArg Assembler.waitIdle listens
  simp only [exec_frameClose, takes, Bool.false_eq_true, if_false, receiveBurst, closeFrame]
  rw [show (s.setAssembler (s.rpu.assembler.collect burst)).rpu.assembler = s.rpu.assembler.collect burst from rfl,
    emptied, collected]
  cases checkFrame (burst.take Config.maxBurst) burst.length <;> rfl

theorem exec_frameClose_bad (bad : checkFrame (burst.take Config.maxBurst) burst.length = none) :
    exec (.frameClose ⟨burst, straps⟩) s = .next (s.setFlag .rxReject) := by
  rw [exec_frameClose_listening straps listens, bad]
  rfl

theorem exec_frameClose_valid {f : ValidFrame} (fits : burst.length ≤ 53)
    (valid : checkFrame burst burst.length = some f) :
    exec (.frameClose ⟨burst, straps⟩) s = .next (dispose s straps f) := by
  have whole : burst.take Config.maxBurst = burst := List.take_of_length_le fits
  rw [exec_frameClose_listening straps listens, whole, valid]
  rfl

end

/-- Settles O6: a burst that fails a check is no frame, and only RX_REJECT is set. -/
theorem badFrameDropped : Obligations.BadFrameDropped := fun _ straps _ =>
  ⟨exec_frameClose_waiting _ straps, fun listens bad =>
    exec_frameClose_bad straps listens (checkFrame_fails bad)⟩

/-! ## Disposition (R156, R159, R165) -/

/-- A frame for another node, and every frame in a repeater, is forwarded. -/
theorem dispose_forwarded {s : State} {f : ValidFrame} (straps : Addr)
    (passes : forwardOnly s = true ∨ (f.header.source ≠ s.rpu.own ∧ f.header.destination ≠ s.rpu.own ∧
      f.header.destination ≠ 63)) : dispose s straps f = forwardFrame s f.bytes := by
  unfold dispose
  by_cases repeater : forwardOnly s = true
  · rw [if_pos repeater]
  · obtain ⟨foreign, other, single⟩ := passes.resolve_left repeater
    rw [if_neg repeater, if_neg foreign, if_neg other, if_neg (show _ ≠ Config.broadcast from single)]

theorem dispose_returned {s : State} {f : ValidFrame} (straps : Addr) (works : forwardOnly s = false)
    (own : f.header.source = s.rpu.own) : dispose s straps f = handleReturned s f := by
  rw [dispose, works, if_neg Bool.false_ne_true, if_pos own]

/-- A frame addressed to the part is delivered; a broadcast frame is forwarded first. -/
theorem dispose_delivered {s : State} {f : ValidFrame} (straps : Addr) (works : forwardOnly s = false)
    (foreign : f.header.source ≠ s.rpu.own)
    (reached : f.header.destination = s.rpu.own ∨ f.header.destination = 63) :
    dispose s straps f =
      deliver (if decide (f.header.destination ≠ s.rpu.own) then forwardFrame s f.bytes else s) straps f
        (decide (f.header.destination ≠ s.rpu.own)) := by
  rw [dispose, works, if_neg Bool.false_ne_true, if_neg foreign]
  by_cases addressed : f.header.destination = s.rpu.own
  · simp [addressed]
  · have broadcast : f.header.destination = Config.broadcast := reached.resolve_left addressed
    rw [if_neg addressed, if_pos broadcast]
    simp [addressed]

/-- Settles O8: what R156 and R165 forward is placed at the back of the buffer, or dropped when that holds 4. -/
theorem frameForwarded : Obligations.FrameForwarded := by
  intro burst straps s f listens fits valid passes
  have path : exec (.frameClose ⟨burst, straps⟩) s = .next (forwardFrame s burst) := by
    rw [exec_frameClose_valid straps listens fits valid, dispose_forwarded straps passes, checkFrame_bytes valid]
  rcases forwardFrame_cases s burst with ⟨room, placed⟩ | ⟨full, dropped⟩
  · exact ⟨fun _ => path.trans (congrArg _ placed), fun full => absurd room (Nat.not_lt.mpr full)⟩
  · exact ⟨fun room => absurd room (Nat.not_lt.mpr full), fun _ => path.trans (congrArg _ dropped)⟩

end Sys2Proof.Proofs

/-! SUPPORT. Delivered frames (R127, R156, R158, R180, R182, R186): a frame addressed to the part is the command of
its class; a MANAGE frame is the request that its first payload word names (Table 12.3). -/

namespace Sys2Proof.Proofs

open Sys2Proof.Machine

/-! ## What a broadcast frame's forwarding leaves -/

@[simp] theorem forwardFrame_own (s : State) (bytes : List Byte) :
    (forwardFrame s bytes).rpu.own = s.rpu.own := by
  rcases forwardFrame_cases s bytes with ⟨-, h⟩ | ⟨-, h⟩ <;> simp [h]

theorem forwardOnly_forwardFrame (s : State) (bytes : List Byte) :
    forwardOnly (forwardFrame s bytes) = forwardOnly s := by
  simp only [forwardOnly, forwardFrame_own]

/-! ## The first payload word of a request (Table 12.3) -/

theorem toNat_functionBits (w : Word) : (w.extractLsb' 12 4).toNat = field w 12 4 := by
  simp [field, Nat.shiftRight_eq_div_pow]

theorem toNat_argumentA (w : Word) : (w.extractLsb' 8 4).toNat = field w 8 4 := by
  simp [field, Nat.shiftRight_eq_div_pow]

theorem toNat_argumentB (w : Word) : (w.extractLsb' 0 8).toNat = field w 0 8 := by
  simp [field]

/-- The handling of a request whose first payload word is taken apart. -/
theorem handleManage_cons (u : State) (straps : Addr) (o : Origin) (w : Word) (data : List Word) :
    handleManage u straps o (w :: data) = manage u o (field w 12 4)
      (handlerOf u straps o (field w 12 4) (w.extractLsb' 8 4).toNat (w.extractLsb' 0 8).toNat data) := by
  rw [handleManage, toNat_argumentA, toNat_argumentB]

section

variable {o : Origin} {straps : Addr} {w : Word} {data : List Word} {c : Instr} (u : State)

/-- The tables' writes, each by its table number (R186). -/
theorem exec_requestCommand_tableWrite (function : field w 12 4 = 2)
    (command : requestCommand o straps w data = some c) :
    exec c u = .next (manage u o 2
      (writeTable o (w.extractLsb' 8 4).toNat (w.extractLsb' 0 8).toNat data)) := by
  simp only [requestCommand, function, OfNat.ofNat_ne_one, if_false, if_true] at command
  generalize w.extractLsb' 8 4 = a at *
  split_ifs at command <;> cases command <;> subst a <;> rfl

/-- The three targets of a STATE_SET (R168). -/
theorem exec_requestCommand_stateSet (function : field w 12 4 = 4)
    (command : requestCommand o straps w data = some c) :
    exec c u = .next (manage u o 4 (stateSet (w.extractLsb' 0 8).toNat data)) := by
  simp only [requestCommand, function, Nat.reduceEqDiff, if_false, if_true] at command
  generalize w.extractLsb' 0 8 = b at *
  split_ifs at command <;> cases command <;> subst b <;> rfl

/-- The indicator "all" of a CACHE_INVALIDATE is argument A's value 1 (R77). -/
theorem exec_requestCommand_invalidate (function : field w 12 4 = 9)
    (command : requestCommand o straps w data = some c) :
    exec c u = .next (manage u o 9
      (if (w.extractLsb' 8 4).toNat = 1 then invalidateEvery o data else invalidateOne o data)) := by
  simp only [requestCommand, function, Nat.reduceEqDiff, if_false, if_true] at command
  generalize w.extractLsb' 8 4 = a at *
  split_ifs at command with all <;> cases command
  · subst a
    rfl
  · have one : ¬ a.toNat = 1 := fun one => all (BitVec.eq_of_toNat_eq one)
    rw [if_neg one]
    rfl

/-- A function value without a request is REFUSED_FUNCTION (R182). -/
theorem exec_requestCommand_refused (function : field w 12 4 = 0 ∨ 13 < field w 12 4)
    (command : requestCommand o straps w data = some c) :
    exec c u = .next (manage u o (field w 12 4) refuseFunction) := by
  have bits : (w.extractLsb' 12 4).toNat = field w 12 4 := toNat_functionBits w
  have below : field w 12 4 < 16 := bits ▸ (w.extractLsb' 12 4).isLt
  have refused : requestCommand o straps w data = some (.refusedFunction o (w.extractLsb' 12 4) data) := by
    unfold requestCommand
    dsimp only
    iterate 13 rw [if_neg (by omega)]
  have unnamed : namesNoRequest (w.extractLsb' 12 4) = true := by
    simp only [namesNoRequest, Bool.or_eq_true, beq_iff_eq, BitVec.ofNat_eq_ofNat, ← BitVec.toNat_inj, bits,
      BitVec.toNat_ofNat]
    omega
  cases refused.symm.trans command
  show Host.Outcome.next (if namesNoRequest (w.extractLsb' 12 4) then _ else u) = _
  rw [if_pos unnamed, bits]

/-- A MANAGE frame that stands for a request of Table 12.3 is handled as that request. -/
theorem exec_requestCommand (command : requestCommand o straps w data = some c) :
    exec c u = .next (handleManage u straps o (w :: data)) := by
  rw [handleManage_cons]
  by_cases tableWrite : field w 12 4 = 2
  · rw [exec_requestCommand_tableWrite u tableWrite command, tableWrite]
    rfl
  by_cases target : field w 12 4 = 4
  · rw [exec_requestCommand_stateSet u target command, target]
    rfl
  by_cases invalidate : field w 12 4 = 9
  · rw [exec_requestCommand_invalidate u invalidate command, invalidate]
    rfl
  by_cases refused : field w 12 4 = 0 ∨ 13 < field w 12 4
  · have other : ∀ n, 0 < n → n ≤ 13 → field w 12 4 ≠ n := by omega
    rw [exec_requestCommand_refused u refused command]
    simp [handlerOf, other]
  · simp only [requestCommand] at command
    generalize field w 12 4 = function at *
    generalize w.extractLsb' 8 4 = a at *
    generalize w.extractLsb' 0 8 = b at *
    have plain : function = 1 ∨ function = 3 ∨ function = 5 ∨ function = 6 ∨ function = 7 ∨ function = 8 ∨
        function = 10 ∨ function = 11 ∨ function = 12 ∨ function = 13 := by omega
    rcases plain with rfl | rfl | rfl | rfl | rfl | rfl | rfl | rfl | rfl | rfl <;> cases command <;> rfl

/-! ## A TABLE_WRITE of no table, a STATE_SET of no target (R168, R186; log 26) -/

theorem requestCommand_isSome (noWrite : field w 12 4 ≠ 2) (noTarget : field w 12 4 ≠ 4) :
    (requestCommand o straps w data).isSome = true := by
  simp only [requestCommand, noWrite, noTarget, if_false, apply_ite Option.isSome, Option.isSome_some, ite_self]

/-- What Table 12.3 leaves without a command. -/
theorem requestCommand_eq_none (command : requestCommand o straps w data = none) :
    (field w 12 4 = 2 ∧ (field w 8 4 = 0 ∨ 7 < field w 8 4)) ∨ (field w 12 4 = 4 ∧ 2 < field w 0 8) := by
  by_cases tableWrite : field w 12 4 = 2
  · simp only [requestCommand, tableWrite, OfNat.ofNat_ne_one, if_false, if_true] at command
    rw [← toNat_argumentA]
    split_ifs at command
    bv_omega
  by_cases target : field w 12 4 = 4
  · simp only [requestCommand, target, Nat.reduceEqDiff, if_false, if_true] at command
    rw [← toNat_argumentB]
    split_ifs at command
    bv_omega
  · have named := requestCommand_isSome (o := o) (straps := straps) (data := data) tableWrite target
    simp [command] at named

end

/-- A request without a command is refused by its argument when it is accepted. -/
theorem handlerOf_without_command {u : State} {straps : Addr} {o : Origin} {function a b : Nat} {data : List Word}
    (outside : (function = 2 ∧ (a = 0 ∨ 7 < a)) ∨ (function = 4 ∧ 2 < b)) :
    handlerOf u straps o function a b data = refuseRange := by
  rcases outside with ⟨rfl, table⟩ | ⟨rfl, target⟩
  · have other : ∀ n, 0 < n → n ≤ 7 → a ≠ n := by omega
    funext s
    simp [handlerOf, writeTable, other]
  · have other : ∀ n, n ≤ 2 → b ≠ n := by omega
    funext s
    simp [handlerOf, stateSet, other]

/-! ## Acceptance (R180) -/

theorem accepts_iff {s : State} {o : Origin} {function : Nat} (works : forwardOnly s = false) :
    accepts s o function = true ↔ s.mrh.confirmed = false ∧ (o.broadcast = false ∨ function = 4) := by
  simp [accepts, works]

/-- A request that is refused by its argument is answered REFUSED_RANGE when it is accepted (R181, R182). -/
theorem manage_refuseRange {s : State} {o : Origin} {function : Nat} (accepted : accepts s o function = true) :
    manage s o function refuseRange = finish (cancelPrepare s) o function (.plain .refusedRange) :=
  manage_accepted s o function refuseRange accepted

/-! ## Delivery by class (R127, R158) -/

section

variable {u : State} {straps : Addr} {f : ValidFrame} {broadcast : Bool}

theorem deliver_echo (cls : f.header.cls = .echo) : deliver u straps f broadcast =
    handleEcho u f.header.source f.header.tag f.payload := by rw [deliver, cls]

theorem deliver_manage (cls : f.header.cls = .manage) : deliver u straps f broadcast =
    handleManage u straps { source := f.header.source, tag := f.header.tag, broadcast := broadcast } f.payload := by
  rw [deliver, cls]

/-- No block of the part takes a COMMAND, a FETCH or a REPLY from another node. -/
theorem deliver_unwanted (cls : f.header.cls = .command ∨ f.header.cls = .fetch ∨ f.header.cls = .reply) :
    deliver u straps f broadcast = if broadcast then u else u.setFlag .rxReject := by
  rcases cls with cls | cls | cls <;> rw [deliver, cls]

end

/-- An ECHO is an ANSWER or a NOTICE by its payload, or is unfit (R127). -/
theorem handleEcho_of_kind {u : State} {source : Addr} {tag : Tag} {payload : List Word}
    (works : forwardOnly u = false) :
    (∀ e, echoOfPayload payload = some (.answer, e) →
      .next (handleEcho u source tag payload) = exec (.answer source tag e) u) ∧
    (∀ e, echoOfPayload payload = some (.notice, e) →
      .next (handleEcho u source tag payload) = exec (.notice source tag e) u) ∧
    (echoOfPayload payload = none → handleEcho u source tag payload = u.setFlag .rxReject) := by
  refine ⟨fun e kind => ?_, fun e kind => ?_, fun unfit => ?_⟩
  · rw [handleEcho, kind, exec_answer _ _ _ works]
  · rw [handleEcho, kind, exec_notice _ _ _ works]
  · rw [handleEcho, unfit]

/-- A request without a command: which it is, and how it is answered (R168, R180, R186; log 26). -/
theorem handleManage_without_command {u : State} {straps : Addr} {o : Origin} {w : Word} {data : List Word}
    (works : forwardOnly u = false) (command : requestCommand o straps w data = none) :
    (w.toNat / 4096 = 2 ∧ (w.toNat / 256 % 16 = 0 ∨ 7 < w.toNat / 256 % 16) ∨
      w.toNat / 4096 = 4 ∧ 2 < w.toNat % 256) ∧
    (u.mrh.confirmed = true ∨ (o.broadcast = true ∧ w.toNat / 4096 = 2) →
      handleManage u straps o (w :: data) = u) ∧
    (u.mrh.confirmed = false → (o.broadcast = false ∨ w.toNat / 4096 = 4) →
      handleManage u straps o (w :: data) =
        finish (cancelPrepare u) o (w.toNat / 4096) (.plain .refusedRange)) := by
  have outside := requestCommand_eq_none command
  have path : handleManage u straps o (w :: data) = manage u o (field w 12 4) refuseRange :=
    congrArg (manage u o _) (handlerOf_without_command outside)
  have argumentA : field w 8 4 = w.toNat / 256 % 16 := rfl
  have argumentB : field w 0 8 = w.toNat % 256 := by simp [field]
  rw [field_high, argumentA, argumentB] at outside
  rw [path, field_high]
  refine ⟨outside, fun passed => manage_refused _ _ _ _ ?_, fun taken named => manage_refuseRange ?_⟩
  · rw [← Bool.not_eq_true, accepts_iff works]
    rintro ⟨taken, named⟩
    rcases passed with confirmed | ⟨broadcast, write⟩
    · simp [confirmed] at taken
    · simp [broadcast, write] at named
  · exact (accepts_iff works).mpr ⟨taken, named⟩

/-- Settles O9: the frame is delivered to the block of its class, whose handling is the command's. -/
theorem deliveredFrameIsItsCommand : Obligations.DeliveredFrameIsItsCommand := by
  intro burst straps s f listens fits valid works foreign reached broadcast u d o
  have path : exec (.frameClose ⟨burst, straps⟩) s = .next (deliver u straps f broadcast) := by
    rw [exec_frameClose_valid straps listens fits valid, dispose_delivered straps works foreign reached,
      checkFrame_bytes valid]
  have delivers : forwardOnly u = false := by
    simp only [u]
    split
    · rw [forwardOnly_forwardFrame, works]
    · exact works
  rw [path]
  refine ⟨fun cls => ?_, fun cls => ?_, fun cls => ?_, fun cls => ?_, fun cls => ?_, fun cls => ?_⟩
  · rw [exec_sample d u delivers, deliver, cls]
  · rw [exec_segment delivers d, deliver, cls]
  · rw [exec_cycle delivers, deliver, cls]
  · rw [deliver_echo cls]
    obtain ⟨answer, notice, unfit⟩ := handleEcho_of_kind (source := f.header.source) (tag := f.header.tag) delivers
    exact ⟨answer, notice, fun h => congrArg _ (unfit h)⟩
  · rw [deliver_manage cls]
    refine ⟨fun empty taken => ?_, fun empty confirmed => ?_, fun w data c payload command => ?_,
      fun w data payload command => ?_⟩
    · simp [empty, handleManage, taken]
    · simp [empty, handleManage, confirmed]
    · rw [payload, exec_requestCommand u command]
    · obtain ⟨which, passed, answered⟩ := handleManage_without_command delivers command
      rw [payload]
      exact ⟨which, fun h => congrArg _ (passed h), fun taken named => congrArg _ (answered taken named)⟩
  · rw [deliver_unwanted cls]

end Sys2Proof.Proofs

/-! SUPPORT. Frames of the part's own that come back (R75, R156, R157), handled by their class. -/

namespace Sys2Proof.Proofs

open Sys2Proof.Machine

/-! ## A returned FETCH, a returned REPLY (R75, R157) -/

theorem exec_returnedFetch {s : State} (segment : Word) (works : forwardOnly s = false) :
    exec (.returnedFetch segment) s = .next ((freeFetch s segment.toNat).setFlag .fetchTimeout) := by
  show execReturnedFetch segment s = _
  rw [execReturnedFetch, works]
  rfl

theorem exec_returnedReply {s : State} (works : forwardOnly s = false) :
    exec .returnedReply s = .next (s.setFlag .replyLost) := by
  show execReturnedReply s = _
  rw [execReturnedReply, works]
  rfl

theorem mem_freeFetch_outstanding {s : State} {n : Nat} {e : FetchEntry} :
    e ∈ (freeFetch s n).sgc.outstanding ↔ e ∈ s.sgc.outstanding ∧ e.segment ≠ n := by
  simp [freeFetch]

/-- What a returned FETCH leaves (R75): the entries of the other segments, and one flag more. -/
theorem returnedFetch_frees (segment : Word) {s : State} (works : forwardOnly s = false) :
    ∃ t, exec (.returnedFetch segment) s = .next t ∧ t.flag .fetchTimeout = true ∧
      (∀ e, e ∈ t.sgc.outstanding ↔ e ∈ s.sgc.outstanding ∧ e.segment ≠ segment.toNat) ∧
      t.sgc.sets = s.sgc.sets ∧ t.sgc.inUse = s.sgc.inUse ∧ t.sgc.held = s.sgc.held ∧
      t.rpu = s.rpu ∧ t.tables = s.tables ∧ (∀ f, f ≠ .fetchTimeout → t.flag f = s.flag f) := by
  refine ⟨_, exec_returnedFetch segment works, by simp, fun e => ?_, rfl, rfl, rfl, rfl, rfl, fun f other => ?_⟩
  · simp only [State.setFlag_keeps, mem_freeFetch_outstanding]
  · have kept : (freeFetch s segment.toNat).flag f = s.flag f := rfl
    simp [kept, other.symm]

/-! ## The frame handled -/

/-- Settles O10: a frame of the part's own is handled by its class, whatever its destination. -/
theorem returnedFrameHandled : Obligations.ReturnedFrameHandled := by
  refine ⟨fun burst straps s f listens fits valid works own => ?_, fun segment s works =>
    ⟨returnedFetch_frees segment works, exec_returnedReply works⟩⟩
  rw [exec_frameClose_valid straps listens fits valid, dispose_returned straps works own]
  refine ⟨fun cls => ?_, fun n rest cls payload => ?_, fun cls payload => ?_, fun cls => ?_, fun cls => ?_⟩
  · rw [exec_returnedCommand _ _ works, handleReturned, cls]
  · rw [exec_returnedFetch n works, handleReturned, cls, payload]
    rfl
  · rw [handleReturned, cls, payload]
    rfl
  · rw [exec_returnedReply works, handleReturned, cls]
    rfl
  · rcases cls with cls | cls | cls | cls | cls <;> rw [handleReturned, cls]

end Sys2Proof.Proofs

/-! SUPPORT. The OUT port: what the arbiter selects (R73, R160, R163), how a transmission ends, and the idle line
(R154, R163, R164). -/

namespace Sys2Proof.Proofs

open Sys2Proof.Machine

/-! ## The arbiter (R73, R160, R163) -/

theorem exec_outSelection_sending {s : State} (busy : s.rpu.sending ≠ none) : exec .outSelection s = .next s := by
  obtain ⟨x, sent⟩ := Option.ne_none_iff_exists'.mp busy
  exact congrArg _ (selectNext_sending s x sent)

theorem exec_outSelection_selected {s : State} {x : Selection} (free : s.rpu.sending = none)
    (selected : select s.rpu = some x) : exec .outSelection s = .next (startSending s x) := by
  show Host.Outcome.next (selectNext s) = _
  rw [selectNext, free, selected]

theorem exec_outSelection_nothing {s : State} (nothing : select s.rpu = none) : exec .outSelection s = .next s := by
  show Host.Outcome.next (selectNext s) = _
  rw [selectNext, nothing]
  cases s.rpu.sending <;> rfl

/-- The oldest forwarded frame goes first, unless a queued frame waits after two forwarded in a row. -/
theorem select_forwarded {r : Rpu} {oldest : List Byte} {rest : List (List Byte)}
    (front : r.forward = oldest :: rest) (turn : (r.commands = [] ∧ r.others = []) ∨ r.forwardCount < 2) :
    select r = some (.forwarded oldest rest) := by
  have first : ¬ (queueLength r ≠ 0 ∧ r.forwardCount = 2) := by
    rintro ⟨waits, twice⟩
    rcases turn with ⟨commands, others⟩ | below
    · exact waits (by simp [queueLength, commands, others])
    · omega
  rw [select, front]
  exact if_neg first

/-- With no frame to forward, or two forwarded in a row, a queued frame goes. -/
theorem select_passed {r : Rpu} (passed : r.forward = [] ∨ r.forwardCount = 2) (waits : queueLength r ≠ 0) :
    select r = selectQueued r := by
  cases forward : r.forward with
  | nil => rw [select, forward]
  | cons oldest later =>
    have twice : r.forwardCount = 2 := passed.resolve_left (by simp [forward])
    rw [select, forward]
    exact if_pos ⟨waits, twice⟩

/-- Without a waiting COMMAND the oldest frame of the other group goes. -/
theorem select_other {r : Rpu} {f : OtherFrame} {rest : List OtherFrame}
    (passed : r.forward = [] ∨ r.forwardCount = 2) (commands : r.commands = []) (front : r.others = f :: rest) :
    select r = some (.other f rest) := by
  rw [select_passed passed (by simp [queueLength, front]), selectQueued, commands, front]

theorem select_nothing {r : Rpu} (forward : r.forward = []) (commands : r.commands = []) (others : r.others = []) :
    select r = none := by
  simp only [select, forward, selectQueued, commands, others]

theorem raisedForwardCount_eq (n : Nat) : raisedForwardCount n = if n < 2 then n + 1 else 2 := by
  unfold raisedForwardCount
  split <;> omega

/-- Settles O13: each row of the arbiter's table is one selection, and what is selected is sent. -/
theorem outSelectionTable : Obligations.OutSelectionTable := by
  refine fun s => ⟨exec_outSelection_sending, fun free _ => ⟨fun oldest rest front turn => ?_,
    fun n rest passed commands front => ?_, fun r rest passed commands front => ?_,
    fun forward commands others => exec_outSelection_nothing (select_nothing forward commands others)⟩⟩
  · rw [exec_outSelection_selected free (select_forwarded front turn), startSending, raisedForwardCount_eq]
  · exact exec_outSelection_selected free (select_other passed commands front)
  · exact exec_outSelection_selected free (select_other passed commands front)

/-! ## The end of a transmission (R154, R163, R164) -/

theorem transmissionEnded_of_frame {s : State} {x : Transmission} (sent : s.rpu.sending = some x)
    (frame : ∀ confirms, x.origin ≠ .reply confirms) : transmissionEnded s = endSending s := by
  obtain ⟨origin, bytes⟩ := x
  rw [transmissionEnded, sent]
  cases origin with
  | reply confirms => exact absurd rfl (frame confirms)
  | forwarded | command | fetch => rfl

/-- A REPLY that answers no confirmed reset ends as any frame does. -/
theorem replyLeft_of_unconfirmed {s : State} {confirms : Bool} {bytes : List Byte} (straps : Addr)
    (sent : s.rpu.sending = some { origin := .reply confirms, bytes := bytes })
    (unconfirmed : confirms = true → s.mrh.confirmed = false) : replyLeft s straps = endSending s := by
  have plain : ¬ (confirms && s.mrh.confirmed) = true := by
    rw [Bool.and_eq_true]
    exact fun ⟨marked, confirmed⟩ => by simp [unconfirmed marked] at confirmed
  rw [replyLeft, sent]
  exact if_neg plain

/-- Settles O12: the assembler listens again, and the OUT port is free with the gap to pass. -/
theorem lineAndTransmissionEnd : Obligations.LineAndTransmissionEnd := by
  refine fun straps s => ⟨rfl, fun x sent frame => ?_, fun confirms bytes sent unconfirmed => ?_, fun idle => ?_⟩
  · exact congrArg _ (transmissionEnded_of_frame sent frame)
  · exact congrArg _ (replyLeft_of_unconfirmed straps sent unconfirmed)
  · constructor
    · show Host.Outcome.next (transmissionEnded s) = _
      rw [transmissionEnded, idle]
    · show Host.Outcome.next (replyLeft s straps) = _
      rw [replyLeft, idle]

end Sys2Proof.Proofs

/-! SUPPORT. The flags and the conditions of the persistent ones (R174, R175): one relation between two states, and the
operations on single fields that stand in it. -/

namespace Sys2Proof.Proofs

open Sys2Proof.Machine

/-! ## The conditions rest on a few fields (R12, R22, R25, R101, R133) -/

theorem sampleStaleCondition_congr {s t : State} (source : t.tables.source = s.tables.source)
    (sit : t.sit = s.sit) : sampleStaleCondition t = sampleStaleCondition s := by
  simp only [sampleStaleCondition, source, sit]

theorem odoHoldCondition_iff (s : State) : odoHoldCondition s = true ↔ s.opu.hold ≠ 0 := by
  simp only [odoHoldCondition, decide_eq_true_eq]

theorem odoHoldCondition_congr {s t : State} (hold : t.opu.hold = s.opu.hold) :
    odoHoldCondition t = odoHoldCondition s := by
  simp only [odoHoldCondition, hold]

theorem positionLostCondition_iff (s : State) :
    positionLostCondition s = true ↔ s.opu.position = none := by
  simp only [positionLostCondition, Option.isNone_iff_eq_none]

theorem positionLostCondition_congr {s t : State} (position : t.opu.position = s.opu.position) :
    positionLostCondition t = positionLostCondition s := by
  simp only [positionLostCondition, position]

theorem dataMissingCondition_iff (s : State) :
    dataMissingCondition s = true ↔ ∃ b : BogieId, s.slu.bogieState[b] = .degraded := by
  simp [dataMissingCondition]

theorem dataMissingCondition_congr {s t : State} (states : t.slu.bogieState = s.slu.bogieState) :
    dataMissingCondition t = dataMissingCondition s := by
  simp only [dataMissingCondition, states]

theorem actStatusCondition_iff (s : State) : actStatusCondition s = true ↔
    ∃ b : BogieId, s.tables.bogie[b].enabled = true ∧ s.als[b].faulty = true := by
  simp [actStatusCondition]

theorem actStatusCondition_congr {s t : State} (bogie : t.tables.bogie = s.tables.bogie)
    (als : t.als = s.als) : actStatusCondition t = actStatusCondition s := by
  simp only [actStatusCondition, bogie, als]

theorem faulty_congr {l m : Link} (status : m.status = l.status) : m.faulty = l.faulty := by
  simp only [Link.faulty, status]

/-! ## One relation -/

/-- A condition that holds in `t` held in `s`, or has its flag set. -/
def Follows (s t : State) (condition : State → Bool) (f : Flag) : Prop :=
  condition t = true → condition s = true ∨ t.flag f = true

theorem Follows.of_eq {s t : State} {condition : State → Bool} {f : Flag}
    (same : condition t = condition s) : Follows s t condition f := fun holds => .inl (same ▸ holds)

theorem Follows.of_flag {s t : State} {condition : State → Bool} {f : Flag}
    (set_ : condition t = true → t.flag f = true) : Follows s t condition f := fun holds => .inr (set_ holds)

theorem Follows.trans {s t u : State} {condition : State → Bool} {f : Flag}
    (h : Follows s t condition f) (k : Follows t u condition f)
    (stays : t.flag f = true → u.flag f = true) : Follows s u condition f :=
  fun holds => (k holds).elim (fun before => (h before).imp_right stays) .inr

/-- What `t` keeps of the flags of `s`: every flag that is set stays set (R174), and the condition of a persistent flag
holds only if it held before or with the flag set (R175). A condition whose fields an operation leaves as they stand is
left to the frame lemmas. -/
structure KeepsFlags (s t : State) : Prop where
  stays : ∀ f : Flag, s.flag f = true → t.flag f = true
  sampleStale : Follows s t sampleStaleCondition .sampleStale := by
    exact .of_eq (sampleStaleCondition_congr (by simp) (by simp))
  odoHold : Follows s t odoHoldCondition .odoHold := by exact .of_eq (odoHoldCondition_congr (by simp))
  positionLost : Follows s t positionLostCondition .positionLost := by
    exact .of_eq (positionLostCondition_congr (by simp))
  dataMissing : Follows s t dataMissingCondition .dataMissing := by
    exact .of_eq (dataMissingCondition_congr (by simp))
  actStatus : Follows s t actStatusCondition .actStatus := by
    exact .of_eq (actStatusCondition_congr (by simp) (by simp))

theorem KeepsFlags.refl (s : State) : KeepsFlags s s where
  stays _ := id

theorem KeepsFlags.trans {s t u : State} (h : KeepsFlags s t) (k : KeepsFlags t u) : KeepsFlags s u where
  stays f := k.stays f ∘ h.stays f
  sampleStale := h.sampleStale.trans k.sampleStale (k.stays _)
  odoHold := h.odoHold.trans k.odoHold (k.stays _)
  positionLost := h.positionLost.trans k.positionLost (k.stays _)
  dataMissing := h.dataMissing.trans k.dataMissing (k.stays _)
  actStatus := h.actStatus.trans k.actStatus (k.stays _)

/-- An operation that is left out by a test. -/
theorem KeepsFlags.ite {s t u : State} (c : Prop) [Decidable c] (ht : KeepsFlags s t)
    (hu : KeepsFlags s u) : KeepsFlags s (if c then t else u) := by
  split
  · exact ht
  · exact hu

theorem Follows.settles {s t : State} {condition : State → Bool} {f : Flag} (h : Follows s t condition f)
    (stays : s.flag f = true → t.flag f = true) (hs : condition s = true → s.flag f = true) :
    condition t = true → t.flag f = true := fun holds => (h holds).elim (fun before => stays (hs before)) id

theorem KeepsFlags.flagsFollow {s t : State} (h : KeepsFlags s t) (hs : FlagsFollow s) : FlagsFollow t := by
  obtain ⟨stale, hold, lost, missing, status⟩ := hs
  exact ⟨h.sampleStale.settles (h.stays _) stale, h.odoHold.settles (h.stays _) hold,
    h.positionLost.settles (h.stays _) lost, h.dataMissing.settles (h.stays _) missing,
    h.actStatus.settles (h.stays _) status⟩

/-! ## Single fields -/

theorem setFlag_keepsFlags (s : State) (f : Flag) : KeepsFlags s (s.setFlag f) where
  stays g set_ := by simp [set_]

theorem setFlagIf_keepsFlags (s : State) (c : Bool) (f : Flag) : KeepsFlags s (s.setFlagIf c f) where
  stays g set_ := by simp [set_]

theorem setRpu_keepsFlags (s : State) (x : Rpu) : KeepsFlags s (s.setRpu x) where
  stays _ := id

theorem setBru_keepsFlags (s : State) (x : Bru) : KeepsFlags s (s.setBru x) where
  stays _ := id

theorem setSgc_keepsFlags (s : State) (x : Sgc) : KeepsFlags s (s.setSgc x) where
  stays _ := id

theorem setOsu_keepsFlags (s : State) (x : Osu) : KeepsFlags s (s.setOsu x) where
  stays _ := id

theorem setCsu_keepsFlags (s : State) (x : Csu) : KeepsFlags s (s.setCsu x) where
  stays _ := id

theorem setMrh_keepsFlags (s : State) (x : Mrh) : KeepsFlags s (s.setMrh x) where
  stays _ := id

theorem setPending_keepsFlags (s : State) (x : List Instr) : KeepsFlags s (s.setPending x) where
  stays _ := id

theorem setWithin_keepsFlags (s : State) (x : List (List Arrival)) : KeepsFlags s (s.setWithin x) where
  stays _ := id

/-- What the State and Diagnostic Unit holds beside the flags and the reset cause written. -/
theorem setPart_keepsFlags (s : State) (part : PartState) (deferred : Bool) (reason : Option Nat) :
    KeepsFlags s (s.setSdu { s.sdu with part := part, deferred := deferred, reason := reason }) where
  stays _ := id

/-- The tables replaced, the Source Table and the bogie table as they were. -/
theorem setTables_keepsFlags (s : State) {x : Tables} (source : x.source = s.tables.source)
    (bogie : x.bogie = s.tables.bogie) : KeepsFlags s (s.setTables x) where
  stays _ := id
  sampleStale := .of_eq (sampleStaleCondition_congr source rfl)
  actStatus := .of_eq (actStatusCondition_congr bogie rfl)

/-- The position unit replaced by one that holds or is LOST only if it was so before. -/
theorem setOpu_keepsFlags (s : State) {x : Opu} (hold : x.hold ≠ 0 → s.opu.hold ≠ 0)
    (position : x.position = none → s.opu.position = none) : KeepsFlags s (s.setOpu x) where
  stays _ := id
  odoHold holds := .inl ((odoHoldCondition_iff s).mpr (hold ((odoHoldCondition_iff _).mp holds)))
  positionLost holds :=
    .inl ((positionLostCondition_iff s).mpr (position ((positionLostCondition_iff _).mp holds)))

/-- The steering unit replaced by one with no other bogie DEGRADED. -/
theorem setSlu_keepsFlags (s : State) {x : Slu}
    (states : ∀ b : BogieId, x.bogieState[b] = .degraded → s.slu.bogieState[b] = .degraded) :
    KeepsFlags s (s.setSlu x) where
  stays _ := id
  dataMissing holds := by
    obtain ⟨b, degraded⟩ := (dataMissingCondition_iff _).mp holds
    exact .inl ((dataMissingCondition_iff s).mpr ⟨b, states b degraded⟩)

/-- The slots replaced by others of the same states. -/
theorem setSit_keepsFlags (s : State) {x : Sit}
    (pulse : ∀ n : Fin 8, x.pulse[n].state = s.sit.pulse[n].state)
    (gap : ∀ n : Fin 8, x.gap[n].state = s.sit.gap[n].state) : KeepsFlags s (s.setSit x) where
  stays _ := id
  sampleStale holds := by
    obtain ⟨n, stale⟩ := (sampleStaleCondition_iff _).mp holds
    refine .inl ((sampleStaleCondition_iff s).mpr ⟨n, ?_⟩)
    rw [← pulse n, ← gap n]
    exact stale

/-- Every link replaced by one with the same last status. -/
theorem setAls_keepsFlags (s : State) {x : Vector Link 4}
    (status : ∀ b : BogieId, x[b].status = s.als[b].status) : KeepsFlags s (s.setAls x) where
  stays _ := id
  actStatus holds := by
    obtain ⟨b, enabled, faulty⟩ := (actStatusCondition_iff _).mp holds
    exact .inl ((actStatusCondition_iff s).mpr ⟨b, enabled, (faulty_congr (status b)).symm.trans faulty⟩)

theorem setLink_keepsFlags (s : State) (b : BogieId) {l : Link} (status : l.status = s.als[b].status) :
    KeepsFlags s (s.setLink b l) := by
  refine setAls_keepsFlags s fun c => ?_
  simp only [Fin.getElem_fin, Vector.getElem_set]
  split
  · next own =>
    cases Fin.ext own
    exact status
  · rfl

end Sys2Proof.Proofs

/-! SUPPORT. The transmit queue, the Segment Cache, the Sample Intake and the position update keep the flags (R12, R22,
R25, R174, R175). -/

namespace Sys2Proof.Proofs

open Sys2Proof.Machine

/-! ## The transmit queue and the needs (R71 to R73, R160) -/

theorem offerOther_keepsFlags (s : State) (f : OtherFrame) : KeepsFlags s (offerOther s f) where
  stays := (offerOther_proceeds s f).flags

theorem offerCommand_keepsFlags (s : State) (c : CommandFrame) : KeepsFlags s (offerCommand s c) :=
  .ite _ (setRpu_keepsFlags s _) (.ite _ (setRpu_keepsFlags s _) (setFlag_keepsFlags s _))

theorem freeFetch_keepsFlags (s : State) (n : Nat) : KeepsFlags s (freeFetch s n) := setSgc_keepsFlags s _

theorem makeNeed_keepsFlags (s : State) (n : Need) : KeepsFlags s (makeNeed s n) where
  stays := (makeNeed_proceeds s n).flags

theorem makeHeldNeeds_keepsFlags (s : State) : KeepsFlags s (makeHeldNeeds s) where
  stays := (makeHeldNeeds_proceeds s).flags

/-! ## The Segment Cache (R57 to R64, R70, R74 to R77) -/

theorem touchSegment_keepsFlags (s : State) (n : Nat) : KeepsFlags s (touchSegment s n) where
  stays := (touchSegment_proceeds s n).flags

theorem lookupHeader_keepsFlags (s : State) (needs : Bool) (n : Nat) :
    KeepsFlags s (lookupHeader needs s n).1 where
  stays := (lookupHeader_proceeds s needs n).flags

theorem lookupBlock_keepsFlags (s : State) (n : Nat) (k : Fin 8) :
    KeepsFlags s (lookupBlock s n k).1 := by
  have touched := touchSegment_keepsFlags s n
  simp only [lookupBlock]
  split
  · split
    · exact touched
    · exact touched.trans (makeNeed_keepsFlags _ _)
  · exact touched.trans (makeNeed_keepsFlags _ _)

theorem placeFill_keepsFlags (s : State) (f : SegmentFill) : KeepsFlags s (placeFill s f) := by
  have written (i : Fin 64) (w : Fin 2) (l : Line) : KeepsFlags s (writeLine s i w l) :=
    setSgc_keepsFlags s _
  have delivered (t : State) : KeepsFlags t (deliverItems t f.segment f.mask) := setSgc_keepsFlags t _
  simp only [placeFill]
  split
  · exact (written _ _ _).trans ((setFlagIf_keepsFlags _ _ _).trans (delivered _))
  · unfold fillAbsent
    split
    · exact (written _ _ _).trans (delivered _)
    · exact setFlag_keepsFlags s _

theorem handleSegment_keepsFlags (s : State) (payload : List Word) :
    KeepsFlags s (handleSegment s payload) := by
  unfold handleSegment
  split
  · exact setFlag_keepsFlags s _
  · exact (setFlagIf_keepsFlags s _ _).trans (placeFill_keepsFlags _ _)

theorem timeoutFetch_keepsFlags (s : State) (n : Nat) : KeepsFlags s (timeoutFetch s n) where
  stays _ := timeoutFetch_flag_mono n

theorem ageFetches_keepsFlags (s : State) : KeepsFlags s (ageFetches s) where
  stays _ := ageFetches_flag_mono

theorem handleReturnedFetch_keepsFlags (s : State) (n : Option Nat) :
    KeepsFlags s (handleReturnedFetch s n) := by
  cases n with
  | none => exact setFlag_keepsFlags s _
  | some n => exact (freeFetch_keepsFlags s n).trans (setFlag_keepsFlags _ _)

theorem invalidateSegment_keepsFlags (s : State) (n : Nat) : KeepsFlags s (invalidateSegment s n) := by
  unfold invalidateSegment
  dsimp only
  split
  · exact (setSgc_keepsFlags s _).trans (freeFetch_keepsFlags _ n)
  · exact freeFetch_keepsFlags s n

/-! ## The Sample Intake (R4, R8 to R12) -/

theorem setPulse_keepsFlags (s : State) (n : Fin 8) {x : Slot} (state : x.state = s.sit.pulse[n].state) :
    KeepsFlags s (s.setPulse n x) := by
  refine setSit_keepsFlags s (fun m => ?_) fun _ => rfl
  simp only [Fin.getElem_fin, Vector.getElem_set]
  split
  · next own =>
    cases Fin.ext own
    exact state
  · rfl

theorem setGap_keepsFlags (s : State) (n : Fin 8) {x : Slot} (state : x.state = s.sit.gap[n].state) :
    KeepsFlags s (s.setGap n x) := by
  refine setSit_keepsFlags s (fun _ => rfl) fun m => ?_
  simp only [Fin.getElem_fin, Vector.getElem_set]
  split
  · next own =>
    cases Fin.ext own
    exact state
  · rfl

/-- An item is stored in the latest record of its slot, which no state rests on before the next mark (R8, R11). -/
theorem handleItem_keepsFlags (node : Nat) (s : State) (i : SampleItem) :
    KeepsFlags s (handleItem node s i) := by
  unfold handleItem
  split
  · exact .refl s
  · split
    · exact .ite _ (setPulse_keepsFlags s _ rfl) (.refl s)
    · exact .ite _ (setGap_keepsFlags s _ rfl) (.refl s)
    · refine .ite _ (.refl s) ?_
      unfold handBeacon
      split
      · exact setBru_keepsFlags s _
      · exact setFlag_keepsFlags s _

theorem handleSample_keepsFlags (s : State) (source : Addr) (payload : List Word) :
    KeepsFlags s (handleSample s source payload) :=
  .ite _ (List.foldlRecOn (itemsOf payload) (handleItem source.toNat) (b := s)
      (motive := fun t => KeepsFlags s t) (.refl s)
      fun t kept i _ => kept.trans (handleItem_keepsFlags source.toNat t i))
    (setFlag_keepsFlags s _)

/-- A mark's evaluation of the slots sets SAMPLE_STALE by its condition (R12). -/
theorem evaluateSlots_keepsFlags (s : State) : KeepsFlags s (evaluateSlots s) where
  stays f set_ := by simp [evaluateSlots, set_]
  sampleStale := .of_flag (evaluateSlots_flag s)

/-- A slot found too old is STALE with SAMPLE_STALE set (R11, R12). -/
theorem expired_keepsFlags (s : State) (x : Sit) : KeepsFlags s ((s.setSit x).setFlag .sampleStale) where
  stays f set_ := by simp [set_]
  sampleStale := .of_flag fun _ => by simp

theorem expireSlot_keepsFlags (s : State) (name : SlotName) : KeepsFlags s (expireSlot s name) := by
  cases name with
  | pulse n => exact .ite _ (expired_keepsFlags s _) (.refl s)
  | gap n => exact .ite _ (expired_keepsFlags s _) (.refl s)

theorem storeSource_flag (s : State) (i : Fin 24) (new : Option SourceEntry) (f : Flag) :
    (storeSource s i new).flag f =
      (s.flag f || (sampleStaleCondition (storeSource s i new) && decide (.sampleStale = f))) := by
  have emptied (t : State) (e : Option SourceEntry) : (emptySlotOf t e).flag f = t.flag f := by
    simp [State.flag]
  have condition (t : State) (c : Bool) :
      sampleStaleCondition (t.setFlagIf c .sampleStale) = sampleStaleCondition t :=
    sampleStaleCondition_congr (by simp) (by simp)
  simp only [storeSource, State.flag_setFlagIf, condition]
  congr 1
  split
  · rfl
  · rw [emptied, emptied]
    rfl

/-- A stored Source Table entry sets SAMPLE_STALE by its condition (R12). -/
theorem storeSource_keepsFlags (s : State) (i : Fin 24) (new : Option SourceEntry) :
    KeepsFlags s (storeSource s i new) where
  stays f set_ := by simp [storeSource_flag, set_]
  sampleStale := .of_flag fun holds => by simp [storeSource_flag, holds]

/-! ## Odometry (R20 to R24, R30) -/

/-- Entering LOST sets POSITION_LOST (R30). -/
theorem enterLost_keepsFlags (s : State) : KeepsFlags s (enterLost s) where
  stays := (enterLost_proceeds s).flags
  odoHold := .of_eq (odoHoldCondition_congr (enterLost_proceeds s).hold)
  positionLost := .of_flag fun _ => by simp [enterLost]

/-- The reference point moved. -/
theorem setPosition_keepsFlags (s : State) (p : Located) :
    KeepsFlags s (s.setOpu { s.opu with position := some p }) := setOpu_keepsFlags s id nofun

/-- An uncounted update raises the hold counter with ODO_HOLD set, and may give up the position (R22, R30). -/
theorem uncounted_keepsFlags (s : State) : KeepsFlags s (uncounted s) where
  stays _ := uncounted_flag
  odoHold := .of_flag fun _ => by simp [uncounted]
  positionLost := by
    refine Follows.trans (t := _) ?_ (setFlag_keepsFlags _ .odoHold).positionLost
      ((setFlag_keepsFlags _ .odoHold).stays _)
    dsimp only
    split
    · exact .of_eq rfl
    · split
      · exact .of_eq rfl
      · exact .of_flag fun _ => by simp [enterLost]

/-- A counted update ends the holding (R22). -/
theorem counted_keepsFlags (s : State) (d : Int) :
    KeepsFlags s (s.setOpu { s.opu with hold := 0, lastDistance := d }) :=
  setOpu_keepsFlags s (fun held => absurd rfl held) id

/-- Renewed previous counts leave the slots as they are (R23). -/
theorem setPrevious_keepsFlags (s : State) (previous : Vector (Option Int) 8) :
    KeepsFlags s (s.setSit { s.sit with previous := previous }) :=
  setSit_keepsFlags s (fun _ => rfl) fun _ => rfl

theorem odometryStage_keepsFlags (s : State) : KeepsFlags s (odometryStage s) := by
  have flagged := setFlagIf_keepsFlags s (axleExcluded (increments s)) .axleExcluded
  simp only [odometryStage]
  split
  · exact flagged.trans ((counted_keepsFlags _ _).trans (setPrevious_keepsFlags _ _))
  · exact flagged.trans ((uncounted_keepsFlags _).trans (setPrevious_keepsFlags _ _))

/-! ## The advance (R26 to R31) -/

theorem setTrail_keepsFlags (s : State) (trail : List TrailEntry) (route : List RouteEntry) :
    KeepsFlags s (s.setOpu { s.opu with trail := trail, route := route }) := setOpu_keepsFlags s id id

theorem leaveSegment_keepsFlags (s : State) (n : Nat) (h : Header) : KeepsFlags s (leaveSegment s n h) :=
  .ite _ (setTrail_keepsFlags s _ s.opu.route) (.ite _ (setTrail_keepsFlags s _ _)
    ((setTrail_keepsFlags s _ s.opu.route).trans (setFlag_keepsFlags _ _)))

theorem reachEnd_keepsFlags (s : State) (p : Located) (h : Header) : KeepsFlags s (reachEnd s p h) :=
  .ite _ (enterLost_keepsFlags s) (setPosition_keepsFlags s _)

theorem advanceFrom_keepsFlags (s : State) (fuel : Nat) : KeepsFlags s (advanceFrom fuel s) := by
  induction fuel generalizing s with
  | zero => exact .refl s
  | succ fuel ih =>
    unfold advanceFrom
    split
    · exact .refl s
    · next p _ =>
      have looked := lookupHeader_keepsFlags s true p.segment
      dsimp only
      split
      · exact looked
      · exact .ite _ looked (.ite _ (looked.trans (reachEnd_keepsFlags _ _ _))
          (looked.trans ((leaveSegment_keepsFlags _ _ _).trans
            ((setPosition_keepsFlags _ _).trans (ih _)))))

theorem offsetOverflow_keepsFlags (s : State) : KeepsFlags s (offsetOverflow s) := by
  unfold offsetOverflow
  split
  · exact .ite _ (enterLost_keepsFlags s) (.refl s)
  · exact .refl s

theorem advanceStage_keepsFlags (s : State) : KeepsFlags s (advanceStage s) := by
  unfold advanceStage
  split
  · exact .refl s
  · exact .ite _ ((setPosition_keepsFlags s _).trans (setFlag_keepsFlags _ _))
      ((setPosition_keepsFlags s _).trans ((advanceFrom_keepsFlags _ _).trans
        (offsetOverflow_keepsFlags _)))

/-! ## Reconciliation with a beacon (R45 to R51) -/

theorem driftStage_keepsFlags (s : State) : KeepsFlags s (driftStage s) := by
  unfold driftStage
  split
  · exact .refl s
  · exact (setBru_keepsFlags s _).trans (setPosition_keepsFlags _ _)

theorem derivedPosition_keepsFlags (s : State) (n : Fin 2) (e : BeaconEntry) (latched : Int) :
    KeepsFlags s (derivedPosition s n e latched).1 where
  stays := (derivedPosition_proceeds s n e latched).flags

theorem relate_keepsFlags (s : State) (p : Located) (d : Derived) : KeepsFlags s (relate s p d).1 where
  stays := (relate_proceeds s p d).flags

theorem adopt_keepsFlags (s : State) (d : Derived) : KeepsFlags s (adopt s d) :=
  ((setPosition_keepsFlags s _).trans (setTrail_keepsFlags _ [] s.opu.route)).trans
    (setBru_keepsFlags _ _)

theorem leaveSegments_keepsFlags (s : State) (passed : List (Nat × Header)) :
    KeepsFlags s (leaveSegments s passed) :=
  List.foldlRecOn passed (fun t sh => leaveSegment t sh.1 sh.2) (b := s)
    (motive := fun t => KeepsFlags s t) (.refl s)
    fun t kept x _ => kept.trans (leaveSegment_keepsFlags t x.1 x.2)

theorem correct_keepsFlags (s : State) (p : Located) (d : Derived) (r : Relation) :
    KeepsFlags s (correct s p d r) := by
  cases r with
  | notFound => exact .refl s
  | same | behind => exact setPosition_keepsFlags s _
  | ahead e passed => exact (leaveSegments_keepsFlags s passed).trans (setPosition_keepsFlags _ _)

theorem setConfirmed_keepsFlags (s : State) (c : Bool) : KeepsFlags s (s.setConfirmed c) :=
  setOpu_keepsFlags s id Option.map_eq_none_iff.mp

theorem agree_keepsFlags (s : State) (p : Located) (d : Derived) (r : Relation) (ident : Nat) :
    KeepsFlags s (agree s p d r ident) :=
  (correct_keepsFlags s p d r).trans ((setBru_keepsFlags _ _).trans
    ((setConfirmed_keepsFlags _ _).trans (setBru_keepsFlags _ _)))

theorem disagree_keepsFlags (s : State) (d : Option Derived) (error : Option Int) (ident : Nat) :
    KeepsFlags s (disagree s d error ident) := by
  have counted := (setBru_keepsFlags s { s.bru with
    agreement := 0, disagreement := raisedCount s.bru.disagreement }).trans
    (setFlag_keepsFlags _ .beaconDisagree)
  unfold disagree
  split
  · exact .ite _ (counted.trans ((adopt_keepsFlags _ _).trans (setBru_keepsFlags _ _)))
      (counted.trans (setBru_keepsFlags _ _))
  · exact counted.trans (setBru_keepsFlags _ _)

theorem handleLost_keepsFlags (s : State) (d : Option Derived) (ident : Nat) :
    KeepsFlags s (handleLost s d ident) := by
  cases d with
  | none => exact (setFlag_keepsFlags s _).trans (setBru_keepsFlags _ _)
  | some d =>
    exact (adopt_keepsFlags s d).trans ((setBru_keepsFlags _ _).trans (setBru_keepsFlags _ _))

theorem handleKnown_keepsFlags (s : State) (n : Fin 2) (e : BeaconEntry) (b : PendingBeacon) :
    KeepsFlags s (handleKnown s n e b) := by
  have derived := derivedPosition_keepsFlags s n e b.latched
  unfold handleKnown
  dsimp only
  split
  · exact derived.trans (handleLost_keepsFlags _ _ _)
  · next p _ =>
    split
    · exact derived.trans (disagree_keepsFlags _ _ _ _)
    · next d _ =>
      have related := derived.trans (relate_keepsFlags _ p d)
      exact .ite _ (related.trans (agree_keepsFlags _ _ _ _ _))
        (related.trans (disagree_keepsFlags _ _ _ _))

theorem handleReader_keepsFlags (s : State) (n : Fin 2) : KeepsFlags s (handleReader s n) := by
  unfold handleReader
  split
  · exact .refl s
  · split
    · exact (setFlag_keepsFlags s _).trans ((setBru_keepsFlags _ _).trans (setBru_keepsFlags _ _))
    · exact (handleKnown_keepsFlags s n _ _).trans (setBru_keepsFlags _ _)

/-! ## The position update whole -/

theorem recomputeInUse_keepsFlags (s : State) : KeepsFlags s (recomputeInUse s) where
  stays := (recomputeInUse_proceeds s).flags

theorem windowReport_keepsFlags (s : State) : KeepsFlags s (windowReport s) where
  stays := (windowReport_proceeds s).flags
  dataMissing := .of_eq (dataMissingCondition_congr (by unfold windowReport; split <;> simp))

theorem positionUpdate_keepsFlags (s : State) : KeepsFlags s (positionUpdate s) := by
  have moved := ((setOpu_keepsFlags s (x := { s.opu with updateDue := false }) id id).trans
    (odometryStage_keepsFlags _)).trans
    ((setOpu_keepsFlags _ id id : KeepsFlags _ (speedStage _)).trans (advanceStage_keepsFlags _))
  have reconciled := moved.trans ((driftStage_keepsFlags _).trans
    ((handleReader_keepsFlags _ 0).trans (handleReader_keepsFlags _ 1)))
  exact reconciled.trans ((setOpu_keepsFlags _ id id : KeepsFlags _ (placementStage _)).trans
    ((recomputeInUse_keepsFlags _).trans (windowReport_keepsFlags _)))

end Sys2Proof.Proofs

/-! SUPPORT. The path of a request, the steering law, the shaping and the actuator links keep the flags (R101, R133, R174,
R175). -/

namespace Sys2Proof.Proofs

open Sys2Proof.Machine

/-! ## The path of a request (R180 to R182) -/

/-- A REPLY that answers no confirmed reset leads to no reset (R190). -/
theorem sendReply_keepsFlags (s : State) (o : Origin) (function : Nat) {r : Reply}
    (plain : r.confirms = none) : KeepsFlags s (sendReply s o function r) := by
  simp only [sendReply, plain]
  exact .ite _ (.refl s) (offerOther_keepsFlags s _)

/-- An answer to a request whose handling keeps the flags, and which confirms no reset. -/
structure AnswerKeepsFlags (s : State) (a : State × Reply) : Prop where
  state : KeepsFlags s a.1
  plain : a.2.confirms = none

/-- A request's handling that keeps the flags. -/
def HandlerKeepsFlags (g : State → State × Reply) : Prop := ∀ s, AnswerKeepsFlags s (g s)

theorem refuseRange_keepsFlags : HandlerKeepsFlags refuseRange := fun s => ⟨.refl s, rfl⟩

theorem withoutData_keepsFlags {g : State → State × Reply} (hg : HandlerKeepsFlags g)
    (data : List Word) : HandlerKeepsFlags (withoutData g data) := fun s => by
  unfold withoutData
  split
  · exact hg s
  · exact refuseRange_keepsFlags s

theorem cancelPrepare_keepsFlags (s : State) : KeepsFlags s (cancelPrepare s) := setMrh_keepsFlags s _

theorem keepAlive_keepsFlags (s : State) : KeepsFlags s (keepAlive s) where
  stays f set_ := by simpa [State.flag] using set_

theorem managementKeepAlive_keepsFlags (s : State) : KeepsFlags s (managementKeepAlive s) :=
  .ite _ (keepAlive_keepsFlags s) (.refl s)

theorem manage_keepsFlags (s : State) (o : Origin) (function : Nat) {g : State → State × Reply}
    (hg : HandlerKeepsFlags g) : KeepsFlags s (manage s o function g) :=
  .ite _ ((cancelPrepare_keepsFlags s).trans ((hg _).state.trans
    ((sendReply_keepsFlags _ o function (hg _).plain).trans (managementKeepAlive_keepsFlags _)))) (.refl s)

/-! ## The route queue (R32, R33) -/

theorem appendRoute_keepsFlags (count : Nat) (data : List Word) :
    HandlerKeepsFlags (appendRoute count data) := fun s => by
  unfold appendRoute
  split
  · exact ⟨setTrail_keepsFlags s s.opu.trail _, rfl⟩
  · exact refuseRange_keepsFlags s

theorem clearRoute_keepsFlags : HandlerKeepsFlags clearRoute :=
  fun s => ⟨setTrail_keepsFlags s s.opu.trail [], rfl⟩

/-! ## Reads of the steering computation (R70, R102) -/

theorem takeArrival_keepsFlags (s : State) (a : Arrival) : KeepsFlags s (takeArrival s a) := by
  cases a with
  | segment frame => exact .ite _ (.refl s) (handleSegment_keepsFlags s _)
  | routeAppend o count data => exact manage_keepsFlags s o 6 (appendRoute_keepsFlags _ data)
  | routeClear o data =>
    exact manage_keepsFlags s o 7 (withoutData_keepsFlags clearRoute_keepsFlags data)

theorem takeWithin_keepsFlags (s : State) : KeepsFlags s (takeWithin s) := by
  unfold takeWithin
  split
  · exact .refl s
  · next now later _ =>
    exact List.foldlRecOn now takeArrival (b := s.setWithin later) (motive := fun t => KeepsFlags s t)
      (setWithin_keepsFlags s later) fun t kept a _ => kept.trans (takeArrival_keepsFlags t a)

theorem steeringHeader_keepsFlags (s : State) (n : Nat) : KeepsFlags s (steeringHeader s n).1 :=
  (takeWithin_keepsFlags s).trans (lookupHeader_keepsFlags _ true n)

theorem steeringBlock_keepsFlags (s : State) (n : Nat) (k : Fin 8) :
    KeepsFlags s (steeringBlock s n k).1 :=
  (takeWithin_keepsFlags s).trans (lookupBlock_keepsFlags _ n k)

theorem walkFrom_steering_keepsFlags (s : State) (fuel : Nat) (place : Place) (segment off dist : Nat)
    (gone : Int) : KeepsFlags s (walkFrom .steering fuel s place segment off dist gone).state := by
  induction fuel generalizing s place segment off dist gone with
  | zero => exact .refl s
  | succ fuel ih =>
    have looked : KeepsFlags s (Walker.header .steering s segment).1 := steeringHeader_keepsFlags s segment
    unfold walkFrom
    dsimp only
    split
    · split
      · exact .refl s
      · split
        · exact .refl s
        · split
          · split
            · exact .refl s
            · exact ih ..
          · split
            · exact .refl s
            · exact ih ..
    · split
      · exact looked
      · split
        · exact looked
        · split
          · exact looked
          · exact looked.trans (ih ..)

theorem walk_steering_keepsFlags (s : State) (start : RoutePoint) (dist : Nat) :
    KeepsFlags s (walk .steering s start dist).state := walkFrom_steering_keepsFlags s ..

theorem readPoint_keepsFlags (s : State) (n x : Nat) : KeepsFlags s (readPoint s n x).1 := by
  have looked := steeringHeader_keepsFlags s n
  simp only [readPoint]
  split
  · exact looked
  · split
    · exact looked
    · exact looked.trans (steeringBlock_keepsFlags _ _ _)

theorem neighbour_keepsFlags (s : State) (pt : RoutePoint) (d : PointData) :
    KeepsFlags s (neighbour s pt d).1 := by
  have walked := walk_steering_keepsFlags s pt (d.length - pt.offset)
  simp only [neighbour, neighbourBeyond]
  split
  · split
    · exact .refl s
    · exact steeringBlock_keepsFlags s _ _
  · split
    · exact walked
    · split
      · exact walked
      · exact walked.trans (steeringBlock_keepsFlags _ _ _)

theorem curvatureReading_keepsFlags (s : State) (pt : RoutePoint) :
    KeepsFlags s (curvatureReading s pt).1 := by
  have read := readPoint_keepsFlags s pt.segment pt.offset
  simp only [curvatureReading]
  split
  · exact read
  · split
    · exact read
    · exact read.trans (neighbour_keepsFlags _ _ _)

theorem aheadReading_keepsFlags (s : State) (axle : RoutePoint) (distance : Nat) :
    KeepsFlags s (aheadReading s axle distance).1 := by
  have walked := walk_steering_keepsFlags s axle distance
  unfold aheadReading
  split
  · exact walked.trans (curvatureReading_keepsFlags _ _)
  · exact walked

theorem channelCurvature_keepsFlags (s : State) (axle : RoutePoint) (distance : Nat) :
    KeepsFlags s (channelCurvature s axle distance).1 := by
  have looked := aheadReading_keepsFlags s axle distance
  cases ahead : (aheadReading s axle distance).2 with
  | some k =>
    rw [channelCurvature_ahead ahead]
    exact looked
  | none =>
    rw [channelCurvature_back ahead]
    exact looked.trans (curvatureReading_keepsFlags _ axle)

/-! ## The determination of a bogie (R87, R98, R99, R101) -/

/-- The targets and the records written, the bogies' states as they were. -/
theorem setTargets_keepsFlags (s : State) (targets : Vector Int 8) (record : Vector ChannelRecord 8) :
    KeepsFlags s (s.setSlu { s.slu with lastTarget := targets, record := record }) :=
  setSlu_keepsFlags s fun _ => id

/-- The steering unit's own next point written (R84). -/
theorem setNext_keepsFlags (s : State) (next : Option BogieId) :
    KeepsFlags s (s.setSlu { s.slu with next := next }) := setSlu_keepsFlags s fun _ => id

theorem writeChannel_keepsFlags (s : State) (c : ChannelId) (theta : Int) (r : ChannelRecord) :
    KeepsFlags s (writeChannel s c theta r) :=
  (setTargets_keepsFlags s _ _).trans (setFlagIf_keepsFlags _ _ _)

theorem computeChannel_keepsFlags (s : State) (c : ChannelId) (semi : Nat) (axle : RoutePoint) :
    KeepsFlags s (computeChannel s c semi axle).1 := by
  have read := readPoint_keepsFlags s axle.segment axle.offset
  simp only [computeChannel]
  split
  all_goals
    exact read.trans ((channelCurvature_keepsFlags _ _ _).trans (writeChannel_keepsFlags _ _ _ _))

/-- A bogie that becomes DEGRADED sets DATA_MISSING (R101). -/
theorem storeBogieState_keepsFlags (s : State) (b : BogieId) (x : BogieState) :
    KeepsFlags s (storeBogieState s b x) where
  stays f set_ := by
    have same : (s.setSlu { s.slu with bogieState := s.slu.bogieState.set b.val x }).flag f = s.flag f := rfl
    simp [storeBogieState, same, set_]
  dataMissing holds := by
    by_cases degraded : x = .degraded
    · exact .inr (by simp [storeBogieState, degraded])
    · obtain ⟨c, missing⟩ := (dataMissingCondition_iff _).mp holds
      refine .inl ((dataMissingCondition_iff s).mpr ⟨c, ?_⟩)
      rw [storeBogieState_slu] at missing
      simp only [Fin.getElem_fin, Vector.getElem_set] at missing
      split at missing
      · exact absurd missing degraded
      · exact missing

theorem determine_keepsFlags (s : State) (b : BogieId) : KeepsFlags s (determine s b) := by
  have stored (t : State) (x : BogieState) := storeBogieState_keepsFlags t b x
  have zeroed (t : State) (c : ChannelId) : KeepsFlags t (zeroChannel t c) := setTargets_keepsFlags t _ _
  have emptied (t : State) (c : ChannelId) : KeepsFlags t (emptyRecord t c) :=
    setTargets_keepsFlags t t.slu.lastTarget _
  simp only [determine]
  split
  · exact ((zeroed s _).trans (zeroed _ _)).trans (stored _ _)
  split
  · exact ((emptied s _).trans (emptied _ _)).trans (stored _ _)
  split
  · exact ((writeChannel_keepsFlags s _ _ _).trans (writeChannel_keepsFlags _ _ _ _)).trans
      (stored _ _)
  split
  · exact ((computeChannel_keepsFlags s _ _ _).trans (computeChannel_keepsFlags _ _ _ _)).trans
      (stored _ _)
  · exact ((zeroed s _).trans (zeroed _ _)).trans (stored _ _)

theorem handOn_keepsFlags (s : State) (b : BogieId) : KeepsFlags s (handOn s b) :=
  .ite _ ((setOsu_keepsFlags s _).trans (setCsu_keepsFlags _ _)) (.refl s)

/-! ## Shaping, builds and offers (R109, R113, R116, R124, R125) -/

theorem shapeResult_keepsFlags (s : State) (r : SteeringResult) : KeepsFlags s (shapeResult s r).1 where
  stays f set_ := by simpa [State.flag] using set_

theorem issueFrame_keepsFlags (s : State) (f : CommandFrame) : KeepsFlags s (issueFrame s f) where
  stays _ := id

theorem copyError_keepsFlags (s : State) (b : BogieId) : KeepsFlags s (copyError s b) := by
  have issued (t : State) (c : ChannelId) (code : Nat) : KeepsFlags t (issueCode t c code) :=
    setOsu_keepsFlags t _
  exact ((setOsu_keepsFlags s _).trans (setFlag_keepsFlags _ _)).trans
    ((issued _ _ _).trans ((issued _ _ _).trans (setRpu_keepsFlags _ _)))

theorem build_keepsFlags (s : State) (b : BogieId) (pair : CodePair) : KeepsFlags s (build s b pair) := by
  have offered := offerCommand_keepsFlags s (commandFor s b pair)
  refine .ite _ (.ite _ ?_ ?_) ?_
  · exact offered.trans (setLink_keepsFlags _ b (by simp [Link.sent]))
  · exact offered.trans (setLink_keepsFlags _ b (by simp [Link.refusedBy]))
  · exact (copyError_keepsFlags s b).trans (setLink_keepsFlags _ b (by simp [Link.copyFailed]))

theorem takeOffer_keepsFlags (s : State) (b : BogieId) (offer : Option CodePair) :
    KeepsFlags s (takeOffer s b offer) := by
  cases offer with
  | none => exact .refl s
  | some pair =>
    exact .ite _ (.refl s) (.ite _ (setLink_keepsFlags s b rfl) (build_keepsFlags s b pair))

/-! ## Echoes (R127 to R129, R133 to R135) -/

/-- A stored echo with a fault indicator sets ACT_STATUS (R133). -/
theorem storeEcho_keepsFlags (s : State) (b : BogieId) (e : Echo) : KeepsFlags s (storeEcho s b e) where
  stays f set_ := by simp [storeEcho, set_]
  actStatus holds := by
    obtain ⟨c, enabled, faulty⟩ := (actStatusCondition_iff _).mp holds
    by_cases own : c = b
    · subst own
      rw [storeEcho_als_self] at faulty
      have indicated : statusOf e.status ≠ 0 := of_decide_eq_true faulty
      exact .inr (by simpa [storeEcho] using .inr indicated)
    · rw [storeEcho_als_other s e own] at faulty
      exact .inl ((actStatusCondition_iff s).mpr ⟨c, by simpa using enabled, faulty⟩)

theorem noticed_keepsFlags (s : State) (b : BogieId) (notices : Nat) (ignoring : Bool) :
    KeepsFlags s (noticed s b notices ignoring) := setLink_keepsFlags s b rfl

theorem answerEqual_keepsFlags (s : State) (b : BogieId) : KeepsFlags s (answerEqual s b) := by
  have ended : KeepsFlags s (exchangeEnded s b) := setLink_keepsFlags s b rfl
  simp only [answerEqual]
  split
  · exact ended.trans (build_keepsFlags _ b _)
  · exact ended

theorem answerDiffers_keepsFlags (s : State) (b : BogieId) (o : Outstanding) :
    KeepsFlags s (answerDiffers s b o) := by
  have flagged := setFlag_keepsFlags s .echoMismatch
  refine .ite _ ?_ ?_
  · exact (flagged.trans (setLink_keepsFlags _ b (by simp))).trans (build_keepsFlags _ b _)
  · exact ((flagged.trans (setLink_keepsFlags _ b (by simp))).trans (setFlag_keepsFlags _ _)).trans
      (setRpu_keepsFlags _ _)

theorem compareAnswer_keepsFlags (s : State) (b : BogieId) (tag : Tag) (e : Echo) :
    KeepsFlags s (compareAnswer s b tag e) := by
  unfold compareAnswer
  split
  · exact .refl s
  · exact .ite _ (.ite _ (answerEqual_keepsFlags s b) (answerDiffers_keepsFlags s b _)) (.refl s)

theorem handleAnswer_keepsFlags (s : State) (source : Addr) (tag : Tag) (e : Echo) :
    KeepsFlags s (handleAnswer s source tag e) := by
  cases own : bogieOf s source with
  | none =>
    rw [handleAnswer_none tag e own]
    exact .refl s
  | some b =>
    rw [handleAnswer_some tag e own]
    exact (noticed_keepsFlags s b 0 false).trans
      ((storeEcho_keepsFlags _ b e).trans (compareAnswer_keepsFlags _ b tag e))

theorem handleNotice_keepsFlags (s : State) (source : Addr) (e : Echo) :
    KeepsFlags s (handleNotice s source e) := by
  unfold handleNotice
  split
  · exact .refl s
  · next b _ =>
    exact .ite _ (.refl s) (.ite _ ((noticed_keepsFlags s b _ _).trans (storeEcho_keepsFlags _ b e))
      ((noticed_keepsFlags s b _ _).trans (setFlag_keepsFlags _ _)))

/-! ## Timeout, return and restart (R122, R130, R131, R133) -/

theorem endExchange_keepsFlags (s : State) (b : BogieId) :
    KeepsFlags s (s.setLink b { s.als[b] with outstanding := none }) := setLink_keepsFlags s b rfl

theorem timeoutLink_keepsFlags (s : State) (b : BogieId) : KeepsFlags s (timeoutLink s b) := by
  unfold timeoutLink
  split
  · exact .ite _ ((endExchange_keepsFlags s b).trans (setFlag_keepsFlags _ _)) (.refl s)
  · exact .refl s

theorem ageLinks_keepsFlags (s : State) : KeepsFlags s (ageLinks s) := by
  have aged : KeepsFlags s (agedLinks s) := setAls_keepsFlags s fun b => by simp [Link.older]
  exact List.foldlRecOn (List.finRange 4) timeoutLink (b := agedLinks s)
    (motive := fun t => KeepsFlags s t) aged fun t kept b _ => kept.trans (timeoutLink_keepsFlags t b)

theorem handleReturnedCommand_keepsFlags (s : State) (destination : Addr) :
    KeepsFlags s (handleReturnedCommand s destination) := by
  have flagged := setFlag_keepsFlags s .actAbsent
  unfold handleReturnedCommand
  dsimp only
  split
  · exact flagged
  · exact flagged.trans (endExchange_keepsFlags _ _)

theorem restartLink_flag_mono {s : State} {f : Flag} (b : BogieId) (set_ : s.flag f = true) :
    (restartLink s b).flag f = true := by
  simp only [restartLink, State.flag_setFlagIf, Bool.or_eq_true]
  exact .inl set_

/-- A restarted link has no status, and a bogie entry stored beside it leaves what is enabled as it was (R122, R133). -/
theorem storeBogie_keepsFlags (s : State) (i : Fin 4) (new : BogieEntry) :
    KeepsFlags s (storeBogie s i new) where
  stays f set_ := by
    unfold storeBogie
    split
    · exact restartLink_flag_mono i set_
    · exact set_
  sampleStale := .of_eq (sampleStaleCondition_congr (by simp) (by simp))
  actStatus holds := by
    obtain ⟨c, enabled, faulty⟩ := (actStatusCondition_iff _).mp holds
    refine .inl ((actStatusCondition_iff s).mpr ⟨c, ?_⟩)
    have link := storeBogie_link s i new
    rw [storeBogie_tables] at enabled
    by_cases own : c = i
    · subst own
      by_cases differ : linkFieldsDiffer s.tables.bogie[c] new = true
      · rw [(link.restarted ((linkFieldsDiffer_iff _ _).mp differ)).1] at faulty
        cases faulty
      · have same := mt (linkFieldsDiffer_iff _ _).mpr differ
        push Not at same
        obtain ⟨sameEnabled, sameActuator, sameCompare⟩ := same
        rw [(link.kept sameEnabled sameActuator sameCompare).1] at faulty
        exact ⟨sameEnabled.trans (by simpa using enabled), faulty⟩
    · rw [link.others c own] at faulty
      exact ⟨by simpa [Vector.getElem_set_ne, Fin.val_ne_of_ne (Ne.symm own)] using enabled, faulty⟩

/-! ## Part states (R86, R137, R150, R171) -/

theorem leaveIfActive_keepsFlags (s : State) : KeepsFlags s (leaveIfActive s) :=
  .ite _ (setSlu_keepsFlags s fun b off => by simp at off) (.refl s)

theorem endLinks_keepsFlags (s : State) : KeepsFlags s (endLinks s) :=
  (setAls_keepsFlags s fun b => by simp [Link.ended]).trans (setRpu_keepsFlags _ _)

theorem fallbackLinks_keepsFlags (s : State) : KeepsFlags s (fallbackLinks s) := by
  refine (setAls_keepsFlags s fun b => ?_).trans (setRpu_keepsFlags _ _)
  simp only [Fin.getElem_fin, Vector.getElem_ofFn]
  split <;> rfl

theorem endLookupsIfLeft_keepsFlags (was : PartState) (s : State) :
    KeepsFlags s (endLookupsIfLeft was s) := .ite _ (makeHeldNeeds_keepsFlags s) (.refl s)

theorem enterConfig_keepsFlags (s : State) : KeepsFlags s (enterConfig s) :=
  ((leaveIfActive_keepsFlags s).trans (endLinks_keepsFlags _)).trans ((setCsu_keepsFlags _ _).trans
    ((setPart_keepsFlags _ _ _ _).trans (endLookupsIfLeft_keepsFlags _ _)))

theorem enterStandby_keepsFlags (s : State) : KeepsFlags s (enterStandby s) := by
  have cleared (t : State) : KeepsFlags t (clearIssued t) := setOsu_keepsFlags t _
  exact ((leaveIfActive_keepsFlags s).trans ((cleared _).trans (endLinks_keepsFlags _))).trans
    ((setCsu_keepsFlags _ _).trans ((setPart_keepsFlags _ _ _ _).trans (endLookupsIfLeft_keepsFlags _ _)))

theorem enterFallback_keepsFlags (s : State) : KeepsFlags s (enterFallback s) :=
  ((leaveIfActive_keepsFlags s).trans (fallbackLinks_keepsFlags _)).trans ((setCsu_keepsFlags _ _).trans
    ((setPart_keepsFlags _ _ _ _).trans ((setFlag_keepsFlags _ _).trans (endLookupsIfLeft_keepsFlags _ _))))

theorem testSupervision_keepsFlags (s : State) : KeepsFlags s (testSupervision s) :=
  .ite _ (enterFallback_keepsFlags s) (.refl s)

end Sys2Proof.Proofs

/-! SUPPORT. Every request but an acknowledgement and a confirmed reset keeps the flags (R174, R175), and these two leave
the persistent flags following their conditions (R176, R190). -/

namespace Sys2Proof.Proofs

open Sys2Proof.Machine

/-! ## Requests applied (R35, R183 to R185) -/

theorem applySource_keepsFlags (s : State) (i : Fin 24) (new : Option SourceEntry) :
    KeepsFlags s (applySource s i new) := by
  by_cases apart : ∀ j : Fin 24, j ≠ i → SourceApart s.tables.source[j] new
  · rw [applySource_of_apart s i new apart]
    exact storeSource_keepsFlags s i new
  · rw [applySource_of_clash s i new apart]
    exact (storeSource_keepsFlags s i none).trans (setFlag_keepsFlags _ _)

theorem applyAxle_keepsFlags (s : State) (i : Fin 8) (new : Option AxleEntry) :
    KeepsFlags s (applyAxle s i new) := by
  have stored (e : Option AxleEntry) : KeepsFlags s (storeAxle s i e) := setTables_keepsFlags s rfl rfl
  by_cases apart : ∀ j : Fin 8, j ≠ i → AxleApart s.tables.axle[j] new
  · rw [applyAxle_of_apart s i new apart]
    exact stored new
  · rw [applyAxle_of_clash s i new apart]
    exact (stored none).trans (setFlag_keepsFlags _ _)

theorem applyBeacon_keepsFlags (s : State) (i : Fin 64) (new : Option BeaconEntry) :
    KeepsFlags s (applyBeacon s i new) := by
  have stored (e : Option BeaconEntry) : KeepsFlags s (storeBeacon s i e) := setTables_keepsFlags s rfl rfl
  by_cases apart : ∀ j : Fin 64, j ≠ i → BeaconApart s.tables.beacon[j] new
  · rw [applyBeacon_of_apart s i new apart]
    exact stored new
  · rw [applyBeacon_of_clash s i new apart]
    exact (stored none).trans (setFlag_keepsFlags _ _)

/-- A position set is not LOST (R35). -/
theorem applyPosition_keepsFlags (s : State) (segment offset : Nat) (trail : List TrailEntry) :
    KeepsFlags s (applyPosition s segment offset trail) :=
  ((setPosition_keepsFlags s _).trans (setTrail_keepsFlags _ trail s.opu.route)).trans
    (setBru_keepsFlags _ _)

theorem applyRequest_keepsFlags (s : State) (r : HeldRequest) : KeepsFlags s (applyRequest s r) := by
  cases r with
  | source i e => exact applySource_keepsFlags s i e
  | axle i e => exact applyAxle_keepsFlags s i e
  | beacon i e => exact applyBeacon_keepsFlags s i e
  | bogie i e =>
    exact .ite _ (storeBogie_keepsFlags s i e)
      ((storeBogie_keepsFlags s i _).trans (setFlag_keepsFlags _ _))
  | channel i e =>
    have stored (x : Vector ChannelEntry 8) : KeepsFlags s (s.setTables { s.tables with channel := x }) :=
      setTables_keepsFlags s rfl rfl
    exact (stored _).trans (setFlagIf_keepsFlags _ _ _)
  | gain i e => exact setTables_keepsFlags s rfl rfl
  | param e => exact setTables_keepsFlags s rfl rfl
  | positionSet segment offset trail => exact applyPosition_keepsFlags s segment offset trail
  | invalidate n => exact invalidateSegment_keepsFlags s n
  | invalidateAll => exact setSgc_keepsFlags s _

theorem applyPosted_keepsFlags (s : State) : KeepsFlags s (applyPosted s) := by
  unfold applyPosted
  split
  · exact .refl s
  · exact (setMrh_keepsFlags s _).trans (applyRequest_keepsFlags _ _)

theorem applyOrPost_keepsFlags (s : State) (o : Origin) (r : HeldRequest) (limited tableWrite : Bool) :
    AnswerKeepsFlags s (applyOrPost s o r limited tableWrite) := by
  simp only [applyOrPost]
  split
  · exact ⟨(setFlagIf_keepsFlags s _ _).trans (applyRequest_keepsFlags _ r), rfl⟩
  · split
    · exact ⟨(setMrh_keepsFlags s _).trans (setFlagIf_keepsFlags _ _ _), rfl⟩
    · exact ⟨.refl s, rfl⟩

theorem answerWrite_keepsFlags (s : State) (o : Origin) (v : Verdict) :
    AnswerKeepsFlags s (answerWrite s o v) := by
  cases v with
  | refusedState => exact ⟨.refl s, rfl⟩
  | refusedRange => exact refuseRange_keepsFlags s
  | accepted r limited => exact applyOrPost_keepsFlags s o r limited true

/-! ## Table writes and reads (R186 to R188) -/

/-- The seven table writes with their entry keep the flags. -/
structure WritesKeepFlags (o : Origin) (index : Nat) (entry : List Word) : Prop where
  source : HandlerKeepsFlags (writeSource o index entry)
  axle : HandlerKeepsFlags (writeAxle o index entry)
  bogie : HandlerKeepsFlags (writeBogie o index entry)
  channel : HandlerKeepsFlags (writeChannelEntry o index entry)
  gain : HandlerKeepsFlags (writeGain o index entry)
  beacon : HandlerKeepsFlags (writeBeacon o index entry)
  param : HandlerKeepsFlags (writeParam o index entry)

/-- A table write answers the verdict of its check, or is refused for its length (R187). -/
theorem writes_keepFlags (o : Origin) (index : Nat) (entry : List Word) :
    WritesKeepFlags o index entry := by
  constructor
  all_goals
    intro s
    simp only [writeSource, writeAxle, writeBogie, writeChannelEntry, writeGain, writeBeacon, writeParam]
    split
    · exact answerWrite_keepsFlags s o _
    · exact refuseRange_keepsFlags s

theorem writeTable_keepsFlags (o : Origin) (table index : Nat) (entry : List Word) :
    HandlerKeepsFlags (writeTable o table index entry) := by
  have kept := writes_keepFlags o index entry
  intro s
  unfold writeTable
  split
  · exact kept.source s
  split
  · exact kept.axle s
  split
  · exact kept.bogie s
  split
  · exact kept.channel s
  split
  · exact kept.gain s
  split
  · exact kept.beacon s
  split
  · exact kept.param s
  · exact refuseRange_keepsFlags s

theorem answerRead_keepsFlags (s : State) (data : Option (List Word)) :
    AnswerKeepsFlags s (answerRead s data) := by
  cases data with
  | none => exact refuseRange_keepsFlags s
  | some d => exact ⟨.refl s, rfl⟩

theorem readStatus_keepsFlags (page : Nat) (data : List Word) :
    HandlerKeepsFlags (readStatus page data) := fun s => by
  unfold readStatus
  split
  · exact answerRead_keepsFlags s _
  · exact refuseRange_keepsFlags s

theorem readTable_keepsFlags (table index : Nat) (data : List Word) :
    HandlerKeepsFlags (readTable table index data) := fun s => by
  unfold readTable
  split
  · exact answerRead_keepsFlags s _
  · exact refuseRange_keepsFlags s

theorem readChannel_keepsFlags (part bogie : Nat) (data : List Word) :
    HandlerKeepsFlags (readChannel part bogie data) := fun s => by
  unfold readChannel
  split
  · exact answerRead_keepsFlags s _
  · exact refuseRange_keepsFlags s

theorem readCache_keepsFlags (data : List Word) : HandlerKeepsFlags (readCache data) := fun s => by
  unfold readCache
  split
  · exact answerRead_keepsFlags s _
  · exact refuseRange_keepsFlags s

/-! ## STATE_SET (R168) -/

theorem cancelDeferred_keepsFlags (s : State) : KeepsFlags s (cancelDeferred s) :=
  setPart_keepsFlags s _ false _

theorem refuseState_keepsFlags (s : State) (reason : Nat) :
    AnswerKeepsFlags s (refuseState s reason) := ⟨setPart_keepsFlags s _ _ (some reason), rfl⟩

theorem stateSetConfig_keepsFlags : HandlerKeepsFlags stateSetConfig := fun s => by
  unfold stateSetConfig
  split
  case h_1 => exact ⟨.refl s, rfl⟩
  all_goals exact ⟨enterConfig_keepsFlags s, rfl⟩

theorem checkedStandby_keepsFlags : HandlerKeepsFlags checkedStandby := fun s => by
  unfold checkedStandby
  split
  · exact ⟨enterStandby_keepsFlags s, rfl⟩
  · exact refuseState_keepsFlags s _

theorem stateSetStandby_keepsFlags : HandlerKeepsFlags stateSetStandby := fun s => by
  unfold stateSetStandby
  split
  · exact checkedStandby_keepsFlags s
  · exact ⟨cancelDeferred_keepsFlags s, rfl⟩
  · exact ⟨enterStandby_keepsFlags s, rfl⟩
  · split
    · exact checkedStandby_keepsFlags s
    · exact refuseState_keepsFlags s 5

theorem stateSetActive_keepsFlags (data : List Word) : HandlerKeepsFlags (stateSetActive data) :=
  fun s => by
  rcases stateSetActive_cases data s with ⟨-, h⟩ | ⟨-, -, -, h⟩ | ⟨-, -, h⟩ | ⟨-, reason, h, -⟩ <;> rw [h]
  · exact ⟨cancelDeferred_keepsFlags s, rfl⟩
  · exact ⟨setPart_keepsFlags s _ true _, rfl⟩
  · exact ⟨.refl s, rfl⟩
  · exact ⟨(cancelDeferred_keepsFlags s).trans (refuseState_keepsFlags _ reason).state, rfl⟩

theorem stateSet_keepsFlags (target : Nat) (data : List Word) :
    HandlerKeepsFlags (stateSet target data) := fun s => by
  unfold stateSet
  split
  · exact withoutData_keepsFlags stateSetConfig_keepsFlags data s
  split
  · exact withoutData_keepsFlags stateSetStandby_keepsFlags data s
  split
  · exact stateSetActive_keepsFlags data s
  · exact refuseRange_keepsFlags s

/-! ## Position, invalidation, reset exchange (R34, R76, R77, R189) -/

theorem setPosition_handler_keepsFlags (o : Origin) (count : Nat) (data : List Word) :
    HandlerKeepsFlags (setPosition o count data) := fun s => by
  unfold setPosition
  split
  · split
    · exact applyOrPost_keepsFlags s o _ _ _
    · exact refuseRange_keepsFlags s
  · exact refuseRange_keepsFlags s

theorem invalidateOne_keepsFlags (o : Origin) (data : List Word) :
    HandlerKeepsFlags (invalidateOne o data) := fun s => by
  unfold invalidateOne
  split
  · split
    · exact applyOrPost_keepsFlags s o _ _ _
    · exact refuseRange_keepsFlags s
  · exact refuseRange_keepsFlags s

theorem invalidateEvery_keepsFlags (o : Origin) (data : List Word) :
    HandlerKeepsFlags (invalidateEvery o data) := fun s => by
  unfold invalidateEvery
  split
  · exact applyOrPost_keepsFlags s o _ _ _
  · exact refuseRange_keepsFlags s

theorem prepareReset_keepsFlags (o : Origin) (data : List Word) :
    HandlerKeepsFlags (prepareReset o data) := fun s => by
  unfold prepareReset
  split
  · exact ⟨setMrh_keepsFlags s _, rfl⟩
  · exact refuseRange_keepsFlags s

/-! ## What clears flags: resets and acknowledgements (R173, R176, R177) -/

/-- In `t` the persistent flags follow their conditions if they do in `s`. -/
def Settles (s t : State) : Prop := FlagsFollow s → FlagsFollow t

theorem KeepsFlags.settles {s t : State} (h : KeepsFlags s t) : Settles s t := h.flagsFollow

theorem Settles.trans {s t u : State} (h : Settles s t) (k : Settles t u) : Settles s u := k ∘ h

theorem Settles.ite {s t u : State} (c : Prop) [Decidable c] (ht : Settles s t) (hu : Settles s u) :
    Settles s (if c then t else u) := by
  split
  · exact ht
  · exact hu

/-- The condition that a persistent flag follows (R175). -/
def persistentCondition (s : State) : Flag → Bool
  | .sampleStale => sampleStaleCondition s
  | .odoHold => odoHoldCondition s
  | .positionLost => positionLostCondition s
  | .dataMissing => dataMissingCondition s
  | .actStatus => actStatusCondition s
  | _ => false

/-- The condition word has the bit of each persistent flag whose condition holds, and no other (R175). -/
theorem conditionWord_getLsbD (s : State) (f : Flag) :
    (conditionWord s).getLsbD f.bit = persistentCondition s f := by
  have bit (c : Bool) (g : Flag) :
      (if c then g.mask else 0#32).getLsbD f.bit = (c && decide (g = f)) := by
    cases c with
    | false => simp
    | true => rw [if_pos rfl, Flag.mask_getLsbD, Bool.true_and]
  have word : (conditionWord s).getLsbD f.bit =
      ((((sampleStaleCondition s && decide (Flag.sampleStale = f) ||
        odoHoldCondition s && decide (Flag.odoHold = f)) ||
        positionLostCondition s && decide (Flag.positionLost = f)) ||
        dataMissingCondition s && decide (Flag.dataMissing = f)) ||
        actStatusCondition s && decide (Flag.actStatus = f)) := by
    simp only [← bit, ← BitVec.getLsbD_or]
    rfl
  rw [word]
  cases f <;> simp [persistentCondition]

theorem flagsFollow_iff (s : State) :
    FlagsFollow s ↔ ∀ f, persistentCondition s f = true → s.flag f = true := by
  constructor
  · rintro ⟨stale, hold, lost, missing, status⟩ f holds
    cases f
    case sampleStale => exact stale holds
    case odoHold => exact hold holds
    case positionLost => exact lost holds
    case dataMissing => exact missing holds
    case actStatus => exact status holds
    all_goals cases holds
  · exact fun h => ⟨h .sampleStale, h .odoHold, h .positionLost, h .dataMissing, h .actStatus⟩

/-- The conditions rest on no flag. -/
theorem persistentCondition_setSdu (s : State) (x : Sdu) (f : Flag) :
    persistentCondition (s.setSdu x) f = persistentCondition s f := by
  cases f <;> rfl

/-- A reset sets RESET_SEEN and the persistent flags whose condition holds then (R173). -/
theorem resetPart_flag (s : State) (straps : Addr) (cause : ResetCause) (tables : Tables) (f : Flag) :
    (resetPart s straps cause tables).flag f = (decide (.resetSeen = f) ||
      persistentCondition (resetPart s straps cause tables) f) := by
  unfold resetPart resetFlags
  rw [persistentCondition_setSdu, ← conditionWord_getLsbD, ← Flag.mask_getLsbD, ← BitVec.getLsbD_or]
  rfl

theorem reset_settles (s : State) (straps : Addr) (cause : ResetCause) (tables : Tables) :
    Settles s (resetPart s straps cause tables) :=
  fun _ => (flagsFollow_iff _).mpr fun f holds => by rw [resetPart_flag, holds, Bool.or_true]

/-- A flag named in the mask takes the value that the word of the conditions has for it (R176). -/
theorem acknowledged_getLsbD (flags mask condition : BitVec 32) (i : Nat) :
    (acknowledged flags mask condition).getLsbD i =
      if mask.getLsbD i then condition.getLsbD i else flags.getLsbD i := by
  rcases Nat.lt_or_ge i 32 with inside | beyond
  · simp only [acknowledged, BitVec.getLsbD_or, BitVec.getLsbD_and, BitVec.getLsbD_not, inside, decide_true,
      Bool.true_and]
    cases mask.getLsbD i <;> simp
  · rw [BitVec.getLsbD_of_ge _ _ beyond, BitVec.getLsbD_of_ge _ _ beyond,
      BitVec.getLsbD_of_ge _ _ beyond, BitVec.getLsbD_of_ge _ _ beyond, ite_self]

theorem readmitted_status (l : Link) : l.readmitted.status = l.status := by
  unfold Link.readmitted
  split <;> rfl

theorem actStatusCondition_readmitted (s : State) :
    actStatusCondition (liftActuatorFaults s) = actStatusCondition s := by
  have link (b : BogieId) : (liftActuatorFaults s).als[b].faulty = s.als[b].faulty :=
    faulty_congr (by simp [liftActuatorFaults, readmitted_status])
  rw [Bool.eq_iff_iff, actStatusCondition_iff, actStatusCondition_iff]
  simp only [link]
  rfl

/-- The side effects of an acknowledgement bear on no condition (R177). -/
theorem persistentCondition_acknowledge (s : State) (mask : BitVec 32) (f : Flag) :
    persistentCondition (acknowledge s mask) f = persistentCondition s f := by
  have lifted (t : State) : persistentCondition (liftActuatorFaults t) f = persistentCondition t f := by
    cases f
    case actStatus => exact actStatusCondition_readmitted t
    all_goals rfl
  have copied (t : State) : persistentCondition (liftCopyErrors t) f = persistentCondition t f := by
    cases f <;> rfl
  unfold acknowledge
  dsimp only
  rw [← persistentCondition_setSdu s
    { s.sdu with flags := acknowledged s.sdu.flags mask (conditionWord s) } f]
  split
  · rw [lifted]
    split
    · exact copied _
    · rfl
  · split
    · exact copied _
    · rfl

/-- An acknowledgement touches the flags named in its mask alone: a persistent one takes its condition's value, another
is cleared (R176). -/
theorem acknowledge_flag (s : State) (mask : BitVec 32) (f : Flag) : (acknowledge s mask).flag f =
    if mask.getLsbD f.bit then persistentCondition s f else s.flag f := by
  have lifted (t : State) : (liftActuatorFaults t).flag f = t.flag f := rfl
  have copied (t : State) : (liftCopyErrors t).flag f = t.flag f := rfl
  rw [← conditionWord_getLsbD]
  refine Eq.trans ?_ (acknowledged_getLsbD s.sdu.flags mask (conditionWord s) f.bit)
  unfold acknowledge
  dsimp only
  split
  · rw [lifted]
    split <;> rfl
  · split <;> rfl

theorem acknowledge_settles (s : State) (mask : BitVec 32) : Settles s (acknowledge s mask) := by
  intro hs
  rw [flagsFollow_iff] at hs ⊢
  intro f holds
  rw [persistentCondition_acknowledge] at holds
  rw [acknowledge_flag]
  split
  · exact holds
  · exact hs f holds

/-! ## Every request (R180 to R191) -/

/-- A request's handling that settles the persistent flags. -/
def HandlerSettles (g : State → State × Reply) : Prop := ∀ s, Settles s (g s).1

theorem HandlerKeepsFlags.settles {g : State → State × Reply} (h : HandlerKeepsFlags g) :
    HandlerSettles g := fun s => (h s).state.settles

theorem HandlerSettles.ite (c : Prop) [Decidable c] {g h : State → State × Reply}
    (hg : HandlerSettles g) (hh : HandlerSettles h) : HandlerSettles (if c then g else h) := by
  split
  · exact hg
  · exact hh

theorem ackFlags_settles (data : List Word) : HandlerSettles (ackFlags data) := fun s => by
  unfold ackFlags
  split
  · exact acknowledge_settles s _
  · exact id

theorem confirmReset_settles (held : Option Prepare) (straps : Addr) (o : Origin) (data : List Word) :
    HandlerSettles (confirmReset held straps o data) := fun s => by
  unfold confirmReset
  split
  · split
    · exact id
    · split
      · exact id
      · split
        · exact id
        · exact (setMrh_keepsFlags s _).settles
  · exact id

/-- The REPLY to a confirmed reset can be followed by the reset itself (R190). -/
theorem sendReply_settles (s : State) (o : Origin) (function : Nat) (r : Reply) :
    Settles s (sendReply s o function r) := by
  have offered := (offerOther_keepsFlags s (.reply (replyFrame s o function r))).settles
  simp only [sendReply]
  refine .ite _ id ?_
  split
  · exact .ite _ offered (offered.trans (reset_settles _ _ _ _))
  · exact offered

theorem manage_settles (s : State) (o : Origin) (function : Nat) {g : State → State × Reply}
    (hg : HandlerSettles g) : Settles s (manage s o function g) :=
  .ite _ ((cancelPrepare_keepsFlags s).settles.trans ((hg _).trans
    ((sendReply_settles _ o function _).trans (managementKeepAlive_keepsFlags _).settles))) id

theorem handlerOf_settles (u : State) (straps : Addr) (o : Origin) (function a b : Nat)
    (data : List Word) : HandlerSettles (handlerOf u straps o function a b data) :=
  .ite _ (readStatus_keepsFlags b data).settles <|
  .ite _ (writeTable_keepsFlags o a b data).settles <|
  .ite _ (readTable_keepsFlags a b data).settles <|
  .ite _ (stateSet_keepsFlags b data).settles <|
  .ite _ (setPosition_handler_keepsFlags o b data).settles <|
  .ite _ (appendRoute_keepsFlags b data).settles <|
  .ite _ (withoutData_keepsFlags clearRoute_keepsFlags data).settles <|
  .ite _ (ackFlags_settles data) <|
  .ite _ (.ite _ (invalidateEvery_keepsFlags o data).settles (invalidateOne_keepsFlags o data).settles) <|
  .ite _ (readCache_keepsFlags data).settles <|
  .ite _ (readChannel_keepsFlags a b data).settles <|
  .ite _ (prepareReset_keepsFlags o data).settles <|
  .ite _ (confirmReset_settles u.mrh.prepare straps o data) fun _ => id

theorem handleManage_settles (s : State) (straps : Addr) (o : Origin) (payload : List Word) :
    Settles s (handleManage s straps o payload) := by
  unfold handleManage
  split
  · exact .ite _ id (setFlag_keepsFlags s _).settles
  · exact manage_settles s o _ (handlerOf_settles s straps o _ _ _ _)

end Sys2Proof.Proofs

/-! SUPPORT. The cycle, the frames and the OUT port keep the flags or settle them; with that every command does, and every
step (R174, R175). -/

namespace Sys2Proof.Proofs

open Sys2Proof.Machine

/-! ## Cycle close (R146, R170, R184) -/

theorem takeDeferred_keepsFlags (s : State) : KeepsFlags s (takeDeferred s) := by
  unfold takeDeferred
  split
  · split
    · exact setPart_keepsFlags s .active false _
    · exact setPart_keepsFlags s _ false _
  · exact .refl s

theorem closeIfDue_keepsFlags (s : State) : KeepsFlags s (closeIfDue s) :=
  .ite _ ((setCsu_keepsFlags s _).trans ((applyPosted_keepsFlags _).trans
    ((testSupervision_keepsFlags _).trans (takeDeferred_keepsFlags _)))) (.refl s)

/-! ## The computation in flight (R84, R109, R124) -/

theorem endWork_keepsFlags (s : State) : KeepsFlags s (endWork s) :=
  ((setNext_keepsFlags s none).trans (makeHeldNeeds_keepsFlags _)).trans
    ((setCsu_keepsFlags _ _).trans (closeIfDue_keepsFlags _))

theorem determineNext_keepsFlags (s : State) (b : BogieId) : KeepsFlags s (determineNext s b) := by
  have handed := (determine_keepsFlags s b).trans (handOn_keepsFlags _ b)
  unfold determineNext
  dsimp only
  split
  · exact handed.trans (setNext_keepsFlags _ _)
  · exact handed.trans (endWork_keepsFlags _)

theorem shapeNext_keepsFlags (s : State) : KeepsFlags s (shapeNext s) := by
  unfold shapeNext
  split
  · exact .refl s
  · next r rest _ =>
    exact ((setOsu_keepsFlags s { s.osu with results := rest }).trans (shapeResult_keepsFlags _ r)).trans
      ((takeOffer_keepsFlags _ _ _).trans ((setCsu_keepsFlags _ _).trans (closeIfDue_keepsFlags _)))

/-! ## Marks and time (R141 to R144, R149) -/

theorem takeMark_keepsFlags (s : State) : KeepsFlags s (takeMark s) := by
  have due (t : State) : KeepsFlags t (t.setOpu { t.opu with updateDue := true }) :=
    setOpu_keepsFlags t id id
  exact (setCsu_keepsFlags s _).trans ((evaluateSlots_keepsFlags _).trans
    ((ageFetches_keepsFlags _).trans ((ageLinks_keepsFlags _).trans (due _))))

theorem hearCycle_keepsFlags (s : State) (number : Nat) : KeepsFlags s (hearCycle s number) := by
  have flagged := setFlagIf_keepsFlags s (breaksSequence s.csu.lastNumber number) .cycleSeq
  exact (KeepsFlags.ite _ (flagged.trans (keepAlive_keepsFlags _)) flagged).trans
    ((setCsu_keepsFlags _ _).trans (setCsu_keepsFlags _ _))

theorem handleCycle_keepsFlags (s : State) (payload : List Word) :
    KeepsFlags s (handleCycle s payload) := by
  unfold handleCycle
  split
  · exact .ite _ ((hearCycle_keepsFlags s _).trans (setFlag_keepsFlags _ _))
      ((hearCycle_keepsFlags s _).trans (takeMark_keepsFlags _))
  · exact setFlag_keepsFlags s _

theorem expireSubstitute_keepsFlags (s : State) : KeepsFlags s (expireSubstitute s) := by
  have reloaded : KeepsFlags s (reloadSubstitute s (2 * s.tables.param.period)) := setCsu_keepsFlags s _
  exact .ite _ (reloaded.trans (setFlag_keepsFlags _ _)) (reloaded.trans
    ((takeMark_keepsFlags _).trans ((setFlag_keepsFlags _ _).trans (setCsu_keepsFlags _ _))))

theorem tick_keepsFlags (s : State) : KeepsFlags s (tick s) := by
  have substitute (t : State) : KeepsFlags t (tickSubstitute t) := by
    unfold tickSubstitute
    split
    · exact .refl t
    · exact .ite _ (expireSubstitute_keepsFlags t) (setCsu_keepsFlags t _)
  have supervision (t : State) : KeepsFlags t (tickSupervision t) :=
    .ite _ ((setCsu_keepsFlags t _).trans (testSupervision_keepsFlags _)) (.refl t)
  exact (setRpu_keepsFlags s _).trans ((substitute _).trans (supervision _))

/-! ## Delivered frames (R155, R157, R158) -/

theorem handleEcho_keepsFlags (s : State) (source : Addr) (tag : Tag) (payload : List Word) :
    KeepsFlags s (handleEcho s source tag payload) := by
  unfold handleEcho
  split
  · exact handleAnswer_keepsFlags s _ _ _
  · exact handleNotice_keepsFlags s _ _
  · exact setFlag_keepsFlags s _

theorem handleReturned_keepsFlags (s : State) (f : ValidFrame) : KeepsFlags s (handleReturned s f) := by
  unfold handleReturned
  split
  · exact handleReturnedCommand_keepsFlags s _
  · exact handleReturnedFetch_keepsFlags s _
  all_goals exact setFlag_keepsFlags s _

theorem deliver_settles (s : State) (straps : Addr) (f : ValidFrame) (broadcast : Bool) :
    Settles s (deliver s straps f broadcast) := by
  unfold deliver
  cases f.header.cls with
  | sample => exact (handleSample_keepsFlags s _ _).settles
  | echo => exact (handleEcho_keepsFlags s _ _ _).settles
  | segment => exact (handleSegment_keepsFlags s _).settles
  | cycle => exact (handleCycle_keepsFlags s _).settles
  | manage => exact handleManage_settles s _ _ _
  | command | fetch | reply => exact .ite _ id (setFlag_keepsFlags s _).settles

theorem forwardFrame_keepsFlags (s : State) (bytes : List Byte) : KeepsFlags s (forwardFrame s bytes) := by
  rcases forwardFrame_cases s bytes with ⟨-, h⟩ | ⟨-, h⟩ <;> rw [h]
  · exact setRpu_keepsFlags s _
  · exact setFlag_keepsFlags s _

theorem dispose_settles (s : State) (straps : Addr) (f : ValidFrame) :
    Settles s (dispose s straps f) :=
  .ite _ (forwardFrame_keepsFlags s _).settles <|
  .ite _ (handleReturned_keepsFlags s f).settles <|
  .ite _ (deliver_settles s straps f false) <|
  .ite _ ((forwardFrame_keepsFlags s _).settles.trans (deliver_settles _ straps f true))
    (forwardFrame_keepsFlags s _).settles

theorem setAssembler_keepsFlags (s : State) (a : Assembler) : KeepsFlags s (s.setAssembler a) :=
  setRpu_keepsFlags s _

theorem receiveBurst_settles (s : State) (burst : List Byte) (straps : Addr) :
    Settles s (receiveBurst s burst straps) := by
  have closed := (setAssembler_keepsFlags s (s.rpu.assembler.collect burst)).trans
    (setAssembler_keepsFlags _ (s.rpu.assembler.collect burst).emptied)
  unfold receiveBurst closeFrame
  dsimp only
  split
  · exact closed.settles.trans (dispose_settles _ straps _)
  · exact (closed.trans (setFlag_keepsFlags _ _)).settles

/-! ## The OUT port (R163, R164, R190) -/

theorem startSending_keepsFlags (s : State) (x : Selection) : KeepsFlags s (startSending s x) := by
  cases x with
  | forwarded bytes rest => exact setRpu_keepsFlags s _
  | command f rest => exact (setRpu_keepsFlags s _).trans (issueFrame_keepsFlags _ f)
  | other f rest => exact setRpu_keepsFlags s _

theorem selectNext_keepsFlags (s : State) : KeepsFlags s (selectNext s) := by
  unfold selectNext
  split
  · exact startSending_keepsFlags s _
  · exact .refl s

theorem endSending_keepsFlags (s : State) : KeepsFlags s (endSending s) := setRpu_keepsFlags s _

theorem replyLeft_settles (s : State) (straps : Addr) : Settles s (replyLeft s straps) := by
  have ended := (endSending_keepsFlags s).settles
  unfold replyLeft
  split
  · exact .ite _ (ended.trans (reset_settles _ _ _ _)) ended
  · exact id

theorem transmissionEnded_keepsFlags (s : State) : KeepsFlags s (transmissionEnded s) := by
  unfold transmissionEnded
  split
  · exact .refl s
  · exact .refl s
  · exact endSending_keepsFlags s

/-! ## Every command -/

theorem exec_keepsFlags {c : Instr} {s t : State} (stays : mayClearFlags c = false)
    (h : exec c s = .next t) : KeepsFlags s t := by
  cases c <;> cases h
  case powerOnReset | resetLine | frameClose | replyLeftOut | diagAck | resetConfirm => cases stays
  case sample d => exact .ite _ (.refl s) (handleSample_keepsFlags s _ _)
  case answer source tag e => exact .ite _ (.refl s) (handleAnswer_keepsFlags s _ _ _)
  case notice source tag e => exact .ite _ (.refl s) (handleNotice_keepsFlags s _ _)
  case segment d => exact .ite _ (.refl s) (handleSegment_keepsFlags s _)
  case cycle d => exact .ite _ (.refl s) (handleCycle_keepsFlags s _)
  case returnedCommand d tag => exact .ite _ (.refl s) (handleReturnedCommand_keepsFlags s _)
  case returnedFetch n => exact .ite _ (.refl s) (handleReturnedFetch_keepsFlags s _)
  case returnedReply => exact .ite _ (.refl s) (setFlag_keepsFlags s _)
  case substituteTimerExpiry => exact .ite _ (expireSubstitute_keepsFlags s) (.refl s)
  case sampleExpired n => exact expireSlot_keepsFlags s n
  case fetchTimeout n => exact timeoutFetch_keepsFlags s _
  case echoTimeout b => exact timeoutLink_keepsFlags s b
  case positionUpdate => exact .ite _ (positionUpdate_keepsFlags s) (.refl s)
  case bogieDetermination =>
    split
    · exact determineNext_keepsFlags s _
    · exact .refl s
  case shaping => exact shapeNext_keepsFlags s
  case supervisionExpiry =>
    exact .ite _ ((setCsu_keepsFlags s _).trans (enterFallback_keepsFlags _)) (.refl s)
  case outSelection => exact selectNext_keepsFlags s
  case statusRead o page data => exact manage_keepsFlags s o 1 (readStatus_keepsFlags _ data)
  case tableRead o n i data => exact manage_keepsFlags s o 3 (readTable_keepsFlags _ _ data)
  case tableWriteSource o i entry => exact manage_keepsFlags s o 2 (writes_keepFlags o _ entry).source
  case tableWriteAxle o i entry => exact manage_keepsFlags s o 2 (writes_keepFlags o _ entry).axle
  case tableWriteBogie o i entry => exact manage_keepsFlags s o 2 (writes_keepFlags o _ entry).bogie
  case tableWriteChannel o i entry => exact manage_keepsFlags s o 2 (writes_keepFlags o _ entry).channel
  case tableWriteGainSchedule o i entry =>
    exact manage_keepsFlags s o 2 (writes_keepFlags o _ entry).gain
  case tableWriteBeacon o i entry => exact manage_keepsFlags s o 2 (writes_keepFlags o _ entry).beacon
  case tableWriteParameter o i entry =>
    exact manage_keepsFlags s o 2 (writes_keepFlags o _ entry).param
  case stateSetConfig o data =>
    exact manage_keepsFlags s o 4 (withoutData_keepsFlags stateSetConfig_keepsFlags data)
  case stateSetStandby o data =>
    exact manage_keepsFlags s o 4 (withoutData_keepsFlags stateSetStandby_keepsFlags data)
  case stateSetActive o data => exact manage_keepsFlags s o 4 (stateSetActive_keepsFlags data)
  case positionSet o n data => exact manage_keepsFlags s o 5 (setPosition_handler_keepsFlags o _ data)
  case routeAppend o n data => exact manage_keepsFlags s o 6 (appendRoute_keepsFlags _ data)
  case routeClear o data =>
    exact manage_keepsFlags s o 7 (withoutData_keepsFlags clearRoute_keepsFlags data)
  case cacheInvalidate o data => exact manage_keepsFlags s o 9 (invalidateOne_keepsFlags o data)
  case cacheInvalidateAll o data => exact manage_keepsFlags s o 9 (invalidateEvery_keepsFlags o data)
  case cacheRead o data => exact manage_keepsFlags s o 10 (readCache_keepsFlags data)
  case channelRead o part b data => exact manage_keepsFlags s o 11 (readChannel_keepsFlags _ _ data)
  case resetPrepare o data => exact manage_keepsFlags s o 12 (prepareReset_keepsFlags o data)
  case refusedFunction o f data =>
    exact .ite _ (manage_keepsFlags s o _ fun t => ⟨.refl t, rfl⟩) (.refl s)
  case lineIdle => exact setAssembler_keepsFlags s _
  case frameTransmissionEnd => exact transmissionEnded_keepsFlags s

/-- A command that can clear flags leaves the persistent ones following their conditions (R173, R176, R190). -/
theorem exec_settles_of_clears {c : Instr} {s t : State} (clears : mayClearFlags c = true)
    (h : exec c s = .next t) : Settles s t := by
  cases c <;> cases h
  case powerOnReset straps => exact reset_settles s _ _ _
  case resetLine straps => exact reset_settles s _ _ _
  case frameClose burst => exact .ite _ id (receiveBurst_settles s _ _)
  case replyLeftOut straps => exact replyLeft_settles s straps
  case diagAck o data => exact manage_settles s o 8 (ackFlags_settles data)
  case resetConfirm o data => exact manage_settles s o 13 (confirmReset_settles _ _ o _)
  all_goals cases clears

theorem exec_settles {c : Instr} {s t : State} (h : exec c s = .next t) : Settles s t := by
  cases clears : mayClearFlags c with
  | false => exact (exec_keepsFlags clears h).settles
  | true => exact exec_settles_of_clears clears h

theorem step_settles {s t : State} (h : step s = .next t) : Settles s t := by
  unfold step at h
  split at h
  · cases h
    exact (tick_keepsFlags s).settles
  · next c rest _ => exact (setPending_keepsFlags s rest).settles.trans (exec_settles h)

/-- Settles O53: what every command keeps or settles of the flags, a step does. -/
theorem persistentFlagsFollow : Obligations.PersistentFlagsFollow :=
  fun _ _ h => ⟨step_settles h, fun _ _ stays taken => (exec_keepsFlags stays taken).stays⟩

end Sys2Proof.Proofs

/-! SUPPORT. DIAG_ACK (R176, R177), the consistency check (R169), the entries into the part states (R171) and STATE_SET
(R168, R170, R182). -/

namespace Sys2Proof.Proofs

open Sys2Proof.Machine

/-! ## Acknowledgement (R176, R177) -/

/-- Whether an acknowledgement's mask names a flag. -/
def names (mask : BitVec 32) (f : Flag) : Bool := mask.getLsbD f.bit

/-- Naming COPY_ERR lifts the copy-error exclusions (R117, R177). -/
theorem acknowledge_osu (s : State) (mask : BitVec 32) : (acknowledge s mask).osu =
    if names mask .copyErr then { s.osu with excluded := Vector.replicate 4 false } else s.osu := by
  unfold acknowledge liftActuatorFaults liftCopyErrors names
  dsimp only
  split <;> split <;> simp

/-- Naming ACT_FAULT lifts the actuator-fault exclusions (R136, R177). -/
theorem acknowledge_als (s : State) (mask : BitVec 32) : (acknowledge s mask).als =
    if names mask .actFault then s.als.map Link.readmitted else s.als := by
  unfold acknowledge liftActuatorFaults liftCopyErrors names
  dsimp only
  split <;> split <;> simp

theorem acknowledge_link (s : State) (mask : BitVec 32) (b : BogieId) : (acknowledge s mask).als[b] =
    if names mask .actFault ∧ s.als[b].excluded = true then
      { s.als[b] with excluded := false, mismatch := 0 }
    else s.als[b] := by
  rw [acknowledge_als]
  cases names mask .actFault with
  | false => simp
  | true => simp [Link.readmitted]

/-- An acknowledgement changes the flags and lifts exclusions, and nothing else. -/
@[simp] theorem acknowledge_keeps (s : State) (mask : BitVec 32) :
    (acknowledge s mask).tables = s.tables ∧ (acknowledge s mask).rpu = s.rpu ∧
    (acknowledge s mask).sit = s.sit ∧ (acknowledge s mask).opu = s.opu ∧
    (acknowledge s mask).bru = s.bru ∧ (acknowledge s mask).sgc = s.sgc ∧
    (acknowledge s mask).slu = s.slu ∧ (acknowledge s mask).csu = s.csu ∧
    (acknowledge s mask).mrh = s.mrh ∧ (acknowledge s mask).sdu.part = s.sdu.part ∧
    (acknowledge s mask).sdu.deferred = s.sdu.deferred ∧
    (acknowledge s mask).sdu.reason = s.sdu.reason ∧ (acknowledge s mask).sdu.cause = s.sdu.cause := by
  unfold acknowledge liftActuatorFaults liftCopyErrors
  dsimp only
  split <;> split <;> simp

/-- Settles O49: an addressed DIAG_ACK goes the path of a request with one acknowledgement. -/
theorem acknowledgementHandled : Obligations.AcknowledgementHandled := by
  intro o hi lo s addressed mask condition
  have path : exec (.diagAck o [hi, lo]) s = .next (manage s o 8 (ackFlags [hi, lo])) := rfl
  refine ⟨acknowledge (cancelPrepare s) mask, ?_, fun f => ?_, acknowledge_osu _ mask,
    acknowledge_link _ mask, ?_⟩
  · rw [path, manage_of_addressed addressed]
    rfl
  · rw [acknowledge_flag]
    cases f <;> rfl
  · simp

/-! ## The consistency check (R169) -/

theorem actuatorOk_iff (own : Addr) (e : BogieEntry) : actuatorOk own e = true ↔
    1 ≤ e.actuator ∧ e.actuator ≤ 62 ∧ e.actuator ≠ own.toNat := by
  simp only [actuatorOk, Bool.and_eq_true, decide_eq_true_eq, and_assoc]

/-- Some bogie is enabled. -/
def SomeEnabled (t : Tables) : Prop := ∃ b : BogieId, t.bogie[b].enabled = true

/-- Every enabled bogie has an actuator address of 1 to 62 that is not the part's own. -/
def AddressesOk (t : Tables) (own : Addr) : Prop := ∀ b : BogieId, t.bogie[b].enabled = true →
  1 ≤ t.bogie[b].actuator ∧ t.bogie[b].actuator ≤ 62 ∧ t.bogie[b].actuator ≠ own.toNat

/-- Some used axle is an odometry axle. -/
def SomeOdometry (t : Tables) : Prop :=
  ∃ (i : Fin 8) (a : AxleEntry), t.axle[i] = some a ∧ a.odometry = true

theorem anyEnabled_iff (t : Tables) :
    ((List.finRange 4).any fun b => t.bogie[b].enabled) = true ↔ SomeEnabled t := by
  simp [SomeEnabled]

theorem allAddresses_iff (t : Tables) (own : Addr) :
    ((List.finRange 4).all fun b => !t.bogie[b].enabled || actuatorOk own t.bogie[b]) = true ↔
      AddressesOk t own := by
  simp only [List.all_eq_true, List.mem_finRange, true_imp_iff, Bool.or_eq_true, Bool.not_eq_true',
    actuatorOk_iff, AddressesOk, ← Bool.not_eq_true, or_iff_not_imp_left, not_not]

theorem anyOdometry_iff (t : Tables) :
    (t.axle.toList.any fun a => a.any AxleEntry.odometry) = true ↔ SomeOdometry t := by
  simp only [List.any_eq_true, Vector.mem_toList_iff, Vector.mem_iff_getElem, Option.any_eq_true,
    SomeOdometry]
  constructor
  · rintro ⟨_, ⟨i, inside, at_⟩, a, used, odometry⟩
    exact ⟨⟨i, inside⟩, a, at_.trans used, odometry⟩
  · rintro ⟨i, a, used, odometry⟩
    exact ⟨some a, ⟨i, i.isLt, used⟩, a, rfl, odometry⟩

theorem inconsistency_eq (s : State) : inconsistency s =
    if !((List.finRange 4).any fun b => s.tables.bogie[b].enabled) then some 1
    else if !((List.finRange 4).all fun b =>
        !s.tables.bogie[b].enabled || actuatorOk s.rpu.own s.tables.bogie[b]) then some 2
    else if !(s.tables.axle.toList.any fun a => a.any AxleEntry.odometry) then some 4
    else none := by
  unfold inconsistency
  congr! 6
  funext a
  cases a <;> rfl

/-- Settles O41: the conditions of the check are those of R169, in its order. -/
theorem consistencyReasons : Obligations.ConsistencyReasons := by
  intro s someEnabled addressesOk someOdometry
  have enabled := anyEnabled_iff s.tables
  have addresses := allAddresses_iff s.tables s.rpu.own
  have odometry := anyOdometry_iff s.tables
  rw [inconsistency_eq]
  refine ⟨fun no => ?_, fun yes no => ?_, fun yes ok no => ?_, fun yes ok some_ => ?_⟩
  · rw [Bool.eq_false_iff.mpr (mt enabled.mp no)]
    rfl
  · rw [enabled.mpr yes, Bool.eq_false_iff.mpr (mt addresses.mp no)]
    rfl
  · rw [enabled.mpr yes, addresses.mpr ok, Bool.eq_false_iff.mpr (mt odometry.mp no)]
    rfl
  · rw [enabled.mpr yes, addresses.mpr ok, odometry.mpr some_]
    rfl

/-! ## Entries (R86, R114, R137, R149, R151, R171) -/

theorem endLinks_als (s : State) (b : BogieId) : (endLinks s).als[b] =
    { s.als[b] with outstanding := none, pending := none, mismatch := 0 } := by
  simp [endLinks, Link.ended]

/-- Out of ACTIVE every bogie is OFF and every last target 0 (R86). -/
theorem leaveIfActive_active {s : State} (active : s.sdu.part = .active) :
    (∀ b : BogieId, (leaveIfActive s).slu.bogieState[b] = .off) ∧
    ∀ c : ChannelId, (leaveIfActive s).slu.lastTarget[c] = 0 := by
  simp [leaveIfActive, active, leaveActive]

theorem leaveIfActive_other {s : State} (other : s.sdu.part ≠ .active) : leaveIfActive s = s :=
  if_neg other

theorem enterConfig_slu (s : State) : (enterConfig s).slu = (leaveIfActive s).slu := by
  simp [enterConfig]

theorem enterStandby_slu (s : State) : (enterStandby s).slu = (leaveIfActive s).slu := by
  simp [enterStandby]

theorem enterConfig_als (s : State) (b : BogieId) : (enterConfig s).als[b] =
    { s.als[b] with outstanding := none, pending := none, mismatch := 0 } := by
  have same : (enterConfig s).als = (endLinks (leaveIfActive s)).als := by simp [enterConfig]
  rw [same, endLinks_als]
  simp

theorem enterStandby_als (s : State) (b : BogieId) : (enterStandby s).als[b] =
    { s.als[b] with outstanding := none, pending := none, mismatch := 0 } := by
  have same : (enterStandby s).als = (endLinks (clearIssued (leaveIfActive s))).als := by
    simp [enterStandby]
  rw [same, endLinks_als]
  simp

/-- What an entry into CONFIG leaves of the part state, the timers, the queue and the shaping (R149, R171). -/
theorem enterConfig_state (s : State) : (enterConfig s).sdu.part = .config ∧
    (enterConfig s).sdu.deferred = false ∧
    (enterConfig s).csu.supervision = { counting := false, elapsed := 0 } ∧
    (enterConfig s).csu.rearm = false ∧ (enterConfig s).rpu.commands = [] ∧
    (enterConfig s).osu = s.osu := by
  simp [enterConfig, endLinks, withdrawAll, timerStopped]

/-- What an entry into STANDBY leaves of the part state, the timers and the queue (R149, R171). -/
theorem enterStandby_state (s : State) : (enterStandby s).sdu.part = .standby ∧
    (enterStandby s).sdu.deferred = false ∧
    (enterStandby s).csu.supervision = { counting := true, elapsed := 0 } ∧
    (enterStandby s).csu.rearm = false ∧ (enterStandby s).csu.standbyStart = true ∧
    (enterStandby s).rpu.commands = [] := by
  simp [enterStandby, endLinks, withdrawAll, timerStarted]

/-- Issued codes are none at the entry into STANDBY (R114). -/
theorem enterStandby_channel (s : State) (c : ChannelId) : (enterStandby s).osu.channel[c] =
    { s.osu.channel[c] with issued := none } := by
  simp [enterStandby, clearIssued]

/-- Settles O38: what each entry leaves is what its blocks' parts of it leave. -/
theorem entriesAct : Obligations.EntriesAct := by
  intro s
  obtain ⟨part, deferred, supervision, rearm, commands, osu⟩ := enterConfig_state s
  obtain ⟨part', deferred', supervision', rearm', start, commands'⟩ := enterStandby_state s
  refine ⟨⟨part, deferred, supervision, rearm, commands, osu, enterConfig_als s, fun active => ?_,
    fun other => ?_⟩, ⟨part', deferred', supervision', rearm', start, commands', enterStandby_channel s,
    enterStandby_als s, fun active => ?_⟩, rfl⟩
  · rw [enterConfig_slu]
    exact leaveIfActive_active active
  · rw [enterConfig_slu, leaveIfActive_other other]
  · rw [enterStandby_slu]
    exact leaveIfActive_active active

/-! ## STATE_SET (R168 to R170, R182) -/

/-- What an accepted request answers, from the state without the held prepare, and then its REPLY and its keep-alive. -/
def answeredBy (s : State) (o : Origin) (function : Nat) (g : State → State × Reply) : State :=
  finish (g (cancelPrepare s)).1 o function (g (cancelPrepare s)).2

section

variable {o : Origin} {s : State} (accepted : accepts s o 4 = true)
include accepted

theorem exec_stateSetConfig : exec (.stateSetConfig o []) s = .next (answeredBy s o 4 stateSetConfig) :=
  congrArg Host.Outcome.next (manage_accepted s o 4 _ accepted)

theorem exec_stateSetStandby :
    exec (.stateSetStandby o []) s = .next (answeredBy s o 4 stateSetStandby) :=
  congrArg Host.Outcome.next (manage_accepted s o 4 _ accepted)

theorem exec_stateSetActive (data : List Word) :
    exec (.stateSetActive o data) s = .next (answeredBy s o 4 (stateSetActive data)) :=
  congrArg Host.Outcome.next (manage_accepted s o 4 _ accepted)

end

theorem stateSetConfig_config {s : State} (config : s.sdu.part = .config) :
    stateSetConfig s = (s, .plain .done) := by
  unfold stateSetConfig
  rw [config]

theorem stateSetConfig_other {s : State} (other : s.sdu.part ≠ .config) :
    stateSetConfig s = (enterConfig s, .plain .done) := by
  unfold stateSetConfig
  split
  · next config => exact absurd config other
  all_goals rfl

/-- STANDBY is entered from CONFIG, and from FALLBACK when the part is re-armed, by the consistency check. -/
theorem stateSetStandby_checked {s : State}
    (ready : s.sdu.part = .config ∨ s.sdu.part = .fallback ∧ s.csu.rearm = true) :
    stateSetStandby s = checkedStandby s := by
  unfold stateSetStandby
  obtain config | ⟨fallback, rearmed⟩ := ready
  · rw [config]
  · rw [fallback, rearmed]
    rfl

theorem stateSetStandby_standby {s : State} (standby : s.sdu.part = .standby) :
    stateSetStandby s = (cancelDeferred s, .plain .done) := by
  unfold stateSetStandby
  rw [standby]

theorem stateSetStandby_active {s : State} (active : s.sdu.part = .active) :
    stateSetStandby s = (enterStandby s, .plain .done) := by
  unfold stateSetStandby
  rw [active]

theorem stateSetStandby_unarmed {s : State} (fallback : s.sdu.part = .fallback)
    (unarmed : s.csu.rearm = false) : stateSetStandby s = refuseState s 5 := by
  unfold stateSetStandby
  rw [fallback, unarmed]
  rfl

theorem checkedStandby_consistent {s : State} (consistent : inconsistency s = none) :
    checkedStandby s = (enterStandby s, .plain .done) := by
  unfold checkedStandby
  rw [consistent]

theorem checkedStandby_inconsistent {s : State} {reason : Nat} (fails : inconsistency s = some reason) :
    checkedStandby s = refuseState s reason := by
  unfold checkedStandby
  rw [fails]

theorem stateSetActive_refused {s : State} (barred : s.sdu.part = .config ∨ s.sdu.part = .fallback) :
    stateSetActive [] s = refuseState (cancelDeferred s) 0 := by
  show askActive s = _
  unfold askActive
  obtain config | fallback := barred
  · rw [config]
  · rw [fallback]

theorem stateSetActive_deferred {s : State} (standby : s.sdu.part = .standby)
    (consistent : inconsistency s = none) :
    stateSetActive [] s = (s.setSdu { s.sdu with deferred := true }, .plain .posted) := by
  show askActive s = _
  unfold askActive
  rw [standby, consistent]

theorem stateSetActive_inconsistent {s : State} {reason : Nat} (standby : s.sdu.part = .standby)
    (fails : inconsistency s = some reason) :
    stateSetActive [] s = refuseState (cancelDeferred s) reason := by
  show askActive s = _
  unfold askActive
  rw [standby, fails]

theorem stateSetActive_active {s : State} (active : s.sdu.part = .active) :
    stateSetActive [] s = (s, .plain .done) := by
  show askActive s = _
  unfold askActive
  rw [active]

theorem stateSetActive_data {data : List Word} (some_ : data ≠ []) (s : State) :
    stateSetActive data s = refuseRange (cancelDeferred s) := if_neg some_

/-- Settles O40: each part state and target answers as the table of R168 has it, the check made without regard to the
held prepare. -/
theorem stateSetTable : Obligations.StateSetTable := by
  intro o s accepted u refused
  rw [exec_stateSetConfig accepted, exec_stateSetStandby accepted]
  simp only [exec_stateSetActive accepted, Host.Outcome.next.injEq, answeredBy]
  have part : u.sdu.part = s.sdu.part := rfl
  have check : inconsistency u = inconsistency s := rfl
  have rearm : u.csu.rearm = s.csu.rearm := rfl
  simp only [← part, ← check, ← rearm]
  refine ⟨fun config => ?_, fun other => ?_, fun ready => ⟨fun consistent => ?_, fun n fails => ?_⟩,
    fun standby => ?_, fun active => ?_, fun fallback unarmed => ?_, fun barred => ?_,
    fun data some_ => ?_, fun standby => ⟨fun consistent => ?_, fun n fails => ?_⟩, fun active => ?_⟩
  · rw [stateSetConfig_config config]
  · rw [stateSetConfig_other other]
  · rw [stateSetStandby_checked ready, checkedStandby_consistent consistent]
  · rw [stateSetStandby_checked ready, checkedStandby_inconsistent fails]
    rfl
  · rw [stateSetStandby_standby standby]
    rfl
  · rw [stateSetStandby_active active]
  · rw [stateSetStandby_unarmed fallback unarmed]
    rfl
  · rw [stateSetActive_refused barred]
    rfl
  · rw [stateSetActive_data some_]
    rfl
  · rw [stateSetActive_deferred standby consistent]
  · rw [stateSetActive_inconsistent standby fails]
    rfl
  · rw [stateSetActive_active active]

end Sys2Proof.Proofs

/-! SUPPORT. What the three resets leave (R172, R173, R190): the flags, the blocks, and that the state right after a
power-on reset meets every invariant. -/

namespace Sys2Proof.Proofs

open Sys2Proof.Machine

/-! ## The flags after a reset (R173) -/

/-- Some entry of a Source Table configures a pulse or gap slot. -/
def ConfiguresSlot (source : Vector (Option SourceEntry) 24) : Prop :=
  ∃ n : Fin 8, slotConfigured source (.pulse n) = true ∨ slotConfigured source (.gap n) = true

theorem not_configuresSlot_initial : ¬ ConfiguresSlot Tables.initial.source := by
  rintro ⟨n, pulse | gap⟩
  · simp [slotConfigured, maxAgeOf, Tables.initial] at pulse
  · simp [slotConfigured, maxAgeOf, Tables.initial] at gap

/-- A reset leaves every slot without a fresh item, so that SAMPLE_STALE's condition is that some slot is
configured (R12, R14). -/
theorem sampleStaleCondition_resetPart (s : State) (straps : Addr) (cause : ResetCause) (tables : Tables) :
    sampleStaleCondition (resetPart s straps cause tables) = true ↔ ConfiguresSlot tables.source := by
  rw [sampleStaleCondition_iff]
  simp [ConfiguresSlot, Sit.initial, Slot.emptied]

/-- After a reset the position is LOST and no other condition holds but SAMPLE_STALE's (R173). -/
theorem persistentCondition_resetPart (s : State) (straps : Addr) (cause : ResetCause) (tables : Tables)
    (f : Flag) : persistentCondition (resetPart s straps cause tables) f = true ↔
      f = .positionLost ∨ (f = .sampleStale ∧ ConfiguresSlot tables.source) := by
  cases f
  case sampleStale => simpa [persistentCondition] using sampleStaleCondition_resetPart s straps cause tables
  case odoHold => simp [persistentCondition, odoHoldCondition, Opu.initial]
  case positionLost => simp [persistentCondition, positionLostCondition, Opu.initial]
  case dataMissing => simp [persistentCondition, dataMissingCondition, Slu.initial]
  case actStatus => simp [persistentCondition, actStatusCondition, Link.initial, Link.faulty]
  all_goals simp [persistentCondition]

theorem resetPart_flag_iff (s : State) (straps : Addr) (cause : ResetCause) (tables : Tables) (f : Flag) :
    (resetPart s straps cause tables).flag f = true ↔
      f = .resetSeen ∨ f = .positionLost ∨ (f = .sampleStale ∧ ConfiguresSlot tables.source) := by
  rw [resetPart_flag, Bool.or_eq_true, persistentCondition_resetPart, decide_eq_true_eq, eq_comm (b := f)]

theorem resetPart_kept (s : State) (straps : Addr) (cause : ResetCause) (tables : Tables) :
    (resetPart s straps cause tables).rpu.assembler.kept = [] := by
  simp [resetRpu, Rpu.initial]

/-! ## The key reset (R164, R190) -/

/-- The REPLY to a confirmed reset has left OUT. -/
theorem replyLeft_of_confirmed {s : State} {bytes : List Byte} (straps : Addr)
    (sent : s.rpu.sending = some { origin := .reply true, bytes := bytes })
    (confirmed : s.mrh.confirmed = true) : replyLeft s straps = keyReset (endSending s) straps := by
  rw [replyLeft, sent]
  simp only [confirmed, Bool.and_self, if_true]

theorem confirmReset_of_held {p : Prepare} {o : Origin} {w : Word} (straps : Addr) (s : State)
    (sender : p.sender = o.source) (value : w.toNat = 65535 - p.value.toNat) :
    confirmReset (some p) straps o [w] s = (s.setMrh { s.mrh with confirmed := true },
      { result := .done, reason := 0, data := [], confirms := some straps }) := by
  simp only [confirmReset]
  rw [if_neg (not_not.mpr sender), if_neg (not_not.mpr value)]

/-- A full queue refuses the REPLY to a confirmed reset, and the key reset is made at once; the keep-alive
finds the part in CONFIG. -/
theorem finish_of_refused {s : State} {o : Origin} {straps : Addr} {r : Reply} (function : Nat)
    (single : o.broadcast = false) (confirms : r.confirms = some straps) (full : 12 ≤ queueLength s.rpu) :
    finish s o function r =
      keyReset (offerOther s (.reply (replyFrame s o function r))) straps := by
  have refused : queueHasRoom s = false := decide_eq_false (Nat.not_lt.mpr full)
  have sent : sendReply s o function r =
      keyReset (offerOther s (.reply (replyFrame s o function r))) straps := by
    simp [sendReply, single, confirms, refused]
  rw [finish, sent, managementKeepAlive, keepAlive_config (by simp [keyReset]), ite_self]

/-- A confirmed reset whose REPLY the queue refuses is a key reset that keeps the tables. -/
theorem exec_resetConfirm_refused {s : State} {o : Origin} {w : Word} {p : Prepare} (straps : Addr)
    (addressed : Addressed s o) (held : s.mrh.prepare = some p) (sender : p.sender = o.source)
    (value : w.toNat = 65535 - p.value.toNat) (full : 12 ≤ queueLength s.rpu) :
    ∃ u : State, u.tables = s.tables ∧ exec (.resetConfirm o ⟨[w], straps⟩) s = .next (keyReset u straps) := by
  have path : exec (.resetConfirm o ⟨[w], straps⟩) s =
      .next (manage s o 13 (confirmReset s.mrh.prepare straps o [w])) := rfl
  obtain ⟨_, _, single⟩ := id addressed
  rw [path, manage_of_addressed addressed, held, confirmReset_of_held straps _ sender value,
    finish_of_refused 13 single rfl (by simpa [cancelPrepare] using full)]
  exact ⟨_, by simp [cancelPrepare], rfl⟩

/-- Settles O5: of the conditions that a reset finds, the position's holds always and SAMPLE_STALE's where the
tables are kept and configure a slot. -/
theorem resetFlags : Obligations.ResetFlags := by
  intro c straps s t key which ran
  have full (cause : ResetCause) (unkept : ¬ key) (reset : t = resetPart s straps cause Tables.initial) :
      t.rpu.assembler.kept = [] ∧ ∀ f : Flag, t.flag f = true ↔ f = .resetSeen ∨ f = .positionLost ∨
        (f = .sampleStale ∧ key ∧ ConfiguresSlot s.tables.source) := by
    subst reset
    refine ⟨resetPart_kept _ _ _ _, fun f => ?_⟩
    simp [resetPart_flag_iff, not_configuresSlot_initial, unkept]
  have kept (u : State) (holds : key) (tables : u.tables = s.tables) (reset : t = keyReset u straps) :
      t.rpu.assembler.kept = [] ∧ ∀ f : Flag, t.flag f = true ↔ f = .resetSeen ∨ f = .positionLost ∨
        (f = .sampleStale ∧ key ∧ ConfiguresSlot s.tables.source) := by
    subst reset
    refine ⟨resetPart_kept _ _ _ _, fun f => ?_⟩
    simp [keyReset, resetPart_flag_iff, tables, holds]
  rcases which with rfl | rfl | holds
  · exact full .powerOn (by simp [key]) (Host.Outcome.next.inj ran).symm
  · exact full .resetLine (by simp [key]) (Host.Outcome.next.inj ran).symm
  · obtain ⟨rfl, confirmed, bytes, sent⟩ | ⟨o, w, p, rfl, addressed, held, sender, value, room⟩ := id holds
    · exact kept (endSending s) holds rfl
        ((Host.Outcome.next.inj ran).symm.trans (replyLeft_of_confirmed straps sent confirmed))
    · obtain ⟨u, tables, taken⟩ := exec_resetConfirm_refused straps addressed held sender value room
      exact kept u holds tables (Host.Outcome.next.inj (ran.symm.trans taken))

/-! ## The full resets (R172) -/

theorem blocksAtReset_resetPart (s : State) (straps : Addr) (cause : ResetCause) (tables : Tables) :
    BlocksAtReset (resetPart s straps cause tables) := by
  simp [BlocksAtReset, resetRpu, Rpu.initial]

/-- With the tables at their defaults a reset leaves RESET_SEEN and POSITION_LOST alone set (R173). -/
theorem resetPart_flags_initial (s : State) (straps : Addr) (cause : ResetCause) :
    (resetPart s straps cause Tables.initial).sdu.flags = 0x401#32 := by
  have value (f : Flag) : persistentCondition (resetPart s straps cause Tables.initial) f =
      decide (f = .positionLost) := by
    rw [Bool.eq_iff_iff, persistentCondition_resetPart, decide_eq_true_eq]
    simp [not_configuresSlot_initial]
  have stale := value .sampleStale
  have hold := value .odoHold
  have lost := value .positionLost
  have missing := value .dataMissing
  have status := value .actStatus
  simp only [persistentCondition] at stale hold lost missing status
  have word : (resetPart s straps cause Tables.initial).sdu.flags = Flag.resetSeen.mask |||
      conditionWord (resetPart s straps cause Tables.initial) := rfl
  rw [word, conditionWord, stale, hold, lost, missing, status]
  rfl

/-- Settles O3: both full resets are the shared operation with the default tables. -/
theorem fullResets : Obligations.FullResets := by
  intro straps s
  have after (cause : ResetCause) :
      let t := resetPart s straps cause Tables.initial
      t.straps = straps ∧ t.rpu.own = straps ∧ t.tables = Tables.initial ∧ BlocksAtReset t ∧
        t.sdu.cause = cause ∧ t.sdu.flags = 0x401#32 ∧ t.pending = s.pending ∧ t.within = s.within :=
    ⟨by simp, by simp [resetRpu, Rpu.initial], by simp, blocksAtReset_resetPart _ _ _ _, by simp,
      resetPart_flags_initial _ _ _, by simp, by simp⟩
  exact ⟨⟨_, rfl, after .powerOn⟩, ⟨_, rfl, after .resetLine⟩⟩

/-! ## The invariants at reset -/

/-- The state right after a power-on reset is what the shared operation leaves of it. -/
theorem reset_eq_resetPart :
    State.reset = resetPart State.reset Config.resetStraps .powerOn Tables.initial := by
  have flags := resetPart_flags_initial State.reset Config.resetStraps .powerOn
  unfold resetPart Machine.resetFlags at flags ⊢
  rw [State.setSdu] at flags ⊢
  simp only at flags
  rw [flags]
  rfl

theorem flagsFollow_reset : FlagsFollow State.reset := by
  rw [reset_eq_resetPart, flagsFollow_iff]
  intro f holds
  rw [resetPart_flag, holds, Bool.or_true]

/-- Settles O59: each invariant at the reset values of the blocks it speaks of. -/
theorem resetMeetsInvariants : Obligations.ResetMeetsInvariants := by
  refine ⟨flagsFollow_reset, ?links, ?frames, tablesUnique_initial, ?ranges, ?route, ?queues, ?counts,
    ?states, ?flight⟩
  case links =>
    intro b _
    simp [State.reset, Link.initial, commandWaits, Rpu.initial]
  case frames => simp [FramesMatch, State.reset, Rpu.initial]
  case ranges =>
    exact (tablesInRange_iff _).mpr ⟨entriesInRange_initial, by simp [State.reset, Mrh.initial]⟩
  case route =>
    exact (routeSound_iff _).mpr ⟨cacheSound_initial, trailSound_nil, by simp [State.reset, Mrh.initial]⟩
  case queues => simp [QueuesBounded, State.reset, Rpu.initial, queueLength, Sgc.initial]
  case counts =>
    simp [CountsBounded, State.reset, Opu.initial, Bru.initial, Mrh.initial, Link.initial, Csu.initial]
  case states => simp [StatesAgree, State.reset, Csu.initial, Sdu.initial]
  case flight =>
    refine (inFlight_iff _).mpr (.idle rfl rfl rfl rfl rfl (awaitsResults_nil rfl fun b => ?_))
    simp [State.reset, Csu.initial]

end Sys2Proof.Proofs

/-! SUPPORT. The path of every request (R180 to R182, R189): which handling a command stands for, what a held prepare
lives through, and what follows the handling (R148, R178, R181). -/

namespace Sys2Proof.Proofs

open Sys2Proof.Machine

/-! ## The handlers and a held prepare (R189) -/

/-- A request's handling that leaves the held prepare as it stands. -/
def KeepsPrepare (g : State → State × Reply) : Prop := ∀ s, (g s).1.mrh.prepare = s.mrh.prepare

/-- A handler that leaves the state as it stands. -/
theorem KeepsPrepare.of_fst {g : State → State × Reply} (h : ∀ s, (g s).1 = s) : KeepsPrepare g :=
  fun s => by rw [h s]

theorem withoutData_keepsPrepare {g : State → State × Reply} (hg : KeepsPrepare g) (data : List Word) :
    KeepsPrepare (withoutData g data) := fun s => by
  unfold withoutData
  split
  · exact hg s
  · rfl

theorem applyOrPost_prepare (s : State) (o : Origin) (r : HeldRequest) (limited tableWrite : Bool) :
    (applyOrPost s o r limited tableWrite).1.mrh.prepare = s.mrh.prepare := by
  rcases applyOrPost_cases s o r limited tableWrite with h | h | h <;> simp [h]

theorem answerWrite_prepare (s : State) (o : Origin) (v : Verdict) :
    (answerWrite s o v).1.mrh.prepare = s.mrh.prepare := by
  cases v with
  | refusedState => rfl
  | refusedRange => rfl
  | accepted r limited => exact applyOrPost_prepare s o r limited true

/-- The seven table writes with their entry leave the held prepare. -/
structure WritesKeepPrepare (o : Origin) (index : Nat) (entry : List Word) : Prop where
  source : KeepsPrepare (writeSource o index entry)
  axle : KeepsPrepare (writeAxle o index entry)
  bogie : KeepsPrepare (writeBogie o index entry)
  channel : KeepsPrepare (writeChannelEntry o index entry)
  gain : KeepsPrepare (writeGain o index entry)
  beacon : KeepsPrepare (writeBeacon o index entry)
  param : KeepsPrepare (writeParam o index entry)

theorem writes_keepPrepare (o : Origin) (index : Nat) (entry : List Word) :
    WritesKeepPrepare o index entry := by
  constructor
  all_goals
    intro s
    simp only [writeSource, writeAxle, writeBogie, writeChannelEntry, writeGain, writeBeacon, writeParam]
    split
    · exact answerWrite_prepare s o _
    · rfl

theorem stateSetConfig_keepsPrepare : KeepsPrepare stateSetConfig := fun s => by
  unfold stateSetConfig
  split <;> simp

theorem checkedStandby_keepsPrepare : KeepsPrepare checkedStandby := fun s => by
  unfold checkedStandby
  split
  · simp
  · rfl

theorem stateSetStandby_keepsPrepare : KeepsPrepare stateSetStandby := fun s => by
  unfold stateSetStandby
  split
  · exact checkedStandby_keepsPrepare s
  · simp
  · simp
  · split
    · exact checkedStandby_keepsPrepare s
    · rfl

theorem stateSetActive_keepsPrepare (data : List Word) : KeepsPrepare (stateSetActive data) := fun s => by
  rcases stateSetActive_cases data s with ⟨-, h⟩ | ⟨-, -, -, h⟩ | ⟨-, -, h⟩ | ⟨-, reason, h, -⟩ <;>
    rw [h] <;> rfl

theorem setPosition_keepsPrepare (o : Origin) (count : Nat) (data : List Word) :
    KeepsPrepare (setPosition o count data) := fun s => by
  unfold setPosition
  split
  · split
    · exact applyOrPost_prepare s o _ _ _
    · rfl
  · rfl

theorem appendRoute_keepsPrepare (count : Nat) (data : List Word) : KeepsPrepare (appendRoute count data) :=
  fun s => by simp

theorem clearRoute_keepsPrepare : KeepsPrepare clearRoute := fun s => by simp

theorem ackFlags_keepsPrepare (data : List Word) : KeepsPrepare (ackFlags data) := fun s => by
  unfold ackFlags
  split
  · simp
  · rfl

theorem invalidateOne_keepsPrepare (o : Origin) (data : List Word) : KeepsPrepare (invalidateOne o data) :=
  fun s => by
  unfold invalidateOne
  split
  · split
    · exact applyOrPost_prepare s o _ _ _
    · rfl
  · rfl

theorem invalidateEvery_keepsPrepare (o : Origin) (data : List Word) :
    KeepsPrepare (invalidateEvery o data) := fun s => by
  unfold invalidateEvery
  split
  · exact applyOrPost_prepare s o _ _ _
  · rfl

theorem confirmReset_keepsPrepare (held : Option Prepare) (straps : Addr) (o : Origin) (data : List Word) :
    KeepsPrepare (confirmReset held straps o data) := fun s => by
  unfold confirmReset
  (repeat' split) <;> rfl

/-! ## Every request goes the one path (R180 to R182) -/

/-- A command that is a request goes the path of a request with a handling of its own, which leaves the held
prepare but for RESET_PREPARE's; a REFUSED_FUNCTION whose function names a request does nothing (log 26). -/
theorem exec_of_request {c : Instr} {o : Origin} {function : Nat} (named : requestOf c = some (o, function))
    (s : State) :
    (c.wf = false ∧ exec c s = .next s) ∨
    ∃ g, exec c s = .next (manage s o function g) ∧ (function ≠ 12 → KeepsPrepare g) := by
  cases c <;> cases named
  case statusRead page data => exact .inr ⟨_, rfl, fun _ => .of_fst (readStatus_fst _ data)⟩
  case tableRead n i data => exact .inr ⟨_, rfl, fun _ => .of_fst (readTable_fst _ _ data)⟩
  case tableWriteSource i data => exact .inr ⟨_, rfl, fun _ => (writes_keepPrepare o _ data).source⟩
  case tableWriteAxle i data => exact .inr ⟨_, rfl, fun _ => (writes_keepPrepare o _ data).axle⟩
  case tableWriteBogie i data => exact .inr ⟨_, rfl, fun _ => (writes_keepPrepare o _ data).bogie⟩
  case tableWriteChannel i data => exact .inr ⟨_, rfl, fun _ => (writes_keepPrepare o _ data).channel⟩
  case tableWriteGainSchedule i data => exact .inr ⟨_, rfl, fun _ => (writes_keepPrepare o _ data).gain⟩
  case tableWriteBeacon i data => exact .inr ⟨_, rfl, fun _ => (writes_keepPrepare o _ data).beacon⟩
  case tableWriteParameter i data => exact .inr ⟨_, rfl, fun _ => (writes_keepPrepare o _ data).param⟩
  case stateSetConfig data =>
    exact .inr ⟨_, rfl, fun _ => withoutData_keepsPrepare stateSetConfig_keepsPrepare data⟩
  case stateSetStandby data =>
    exact .inr ⟨_, rfl, fun _ => withoutData_keepsPrepare stateSetStandby_keepsPrepare data⟩
  case stateSetActive data => exact .inr ⟨_, rfl, fun _ => stateSetActive_keepsPrepare data⟩
  case positionSet n data => exact .inr ⟨_, rfl, fun _ => setPosition_keepsPrepare o _ data⟩
  case routeAppend n data => exact .inr ⟨_, rfl, fun _ => appendRoute_keepsPrepare _ data⟩
  case routeClear data =>
    exact .inr ⟨_, rfl, fun _ => withoutData_keepsPrepare clearRoute_keepsPrepare data⟩
  case diagAck data => exact .inr ⟨_, rfl, fun _ => ackFlags_keepsPrepare data⟩
  case cacheInvalidate data => exact .inr ⟨_, rfl, fun _ => invalidateOne_keepsPrepare o data⟩
  case cacheInvalidateAll data => exact .inr ⟨_, rfl, fun _ => invalidateEvery_keepsPrepare o data⟩
  case cacheRead data => exact .inr ⟨_, rfl, fun _ => .of_fst (readCache_fst data)⟩
  case channelRead part b data => exact .inr ⟨_, rfl, fun _ => .of_fst (readChannel_fst _ _ data)⟩
  case resetPrepare data => exact .inr ⟨_, rfl, fun other => absurd rfl other⟩
  case resetConfirm data => exact .inr ⟨_, rfl, fun _ => confirmReset_keepsPrepare _ _ o _⟩
  case refusedFunction f data =>
    by_cases unnamed : namesNoRequest f = true
    · exact .inr ⟨refuseFunction, congrArg Host.Outcome.next (if_pos unnamed), fun _ => .of_fst fun _ => rfl⟩
    · exact .inl ⟨by simp [Instr.wf, unnamed], congrArg Host.Outcome.next (if_neg unnamed)⟩

/-- A request that is not accepted changes nothing (R180). -/
theorem exec_of_not_accepts {c : Instr} {o : Origin} {function : Nat}
    (named : requestOf c = some (o, function)) {s : State} (refused : accepts s o function = false) :
    exec c s = .next s := by
  rcases exec_of_request named s with ⟨-, ran⟩ | ⟨g, ran, -⟩
  · exact ran
  · rw [ran, manage_refused s o function g refused]

theorem accepts_eq_false_of_confirmed {s : State} (confirmed : s.mrh.confirmed = true) (o : Origin)
    (function : Nat) : accepts s o function = false := by simp [accepts, confirmed]

theorem accepts_eq_false_of_broadcast (s : State) {o : Origin} {function : Nat}
    (broadcast : o.broadcast = true) (other : function ≠ 4) : accepts s o function = false := by
  simp [accepts, broadcast, other]

theorem accepts_eq_false_of_repeater {s : State} (repeats : forwardOnly s = true) (o : Origin)
    (function : Nat) : accepts s o function = false := by simp [accepts, repeats]

/-- A repeater is given no request. -/
theorem exec_request_of_repeater {c : Instr} (request : (requestOf c).isSome = true) {s : State}
    (repeats : forwardOnly s = true) : exec c s = .next s := by
  obtain ⟨⟨o, function⟩, named⟩ := Option.isSome_iff_exists.mp request
  exact exec_of_not_accepts named (accepts_eq_false_of_repeater repeats o function)

/-- Settles O42: no request is accepted, and each command that hands on a frame tests for a repeater. -/
theorem unacceptedRequestIgnored : Obligations.UnacceptedRequestIgnored := by
  refine ⟨fun c o function s named _ refused => exec_of_not_accepts named ?_, fun c s handed repeats => ?_⟩
  · rcases refused with confirmed | ⟨broadcast, other⟩
    · exact accepts_eq_false_of_confirmed confirmed o function
    · exact accepts_eq_false_of_broadcast s broadcast other
  · cases c
    case sample | answer | notice | segment | cycle | returnedCommand | returnedFetch | returnedReply =>
      exact congrArg Host.Outcome.next (if_pos repeats)
    all_goals
      refine exec_request_of_repeater ?_ repeats
      exact handed

/-! ## What follows the handling (R148, R178, R181) -/

theorem summaryWord_eq (s : State) : summaryWord s =
    bitsAt 14 2 s.sdu.part.code ||| bitsAt 12 2 (positionCode s.opu.position) |||
      bitAt 11 (decide (s.sdu.flags ≠ 0)) |||
      bitsAt 0 4 (bogieMask fun b => decide (s.slu.bogieState[b] ≠ .tracking)) := by
  have set_ : (s.sdu.flags != 0) = decide (s.sdu.flags ≠ 0) := by rw [Bool.eq_iff_iff]; simp
  rw [summaryWord, set_]

/-- The REPLY of a request that confirms no reset, by the room in the queue (R160, R181). -/
theorem sendReply_of_plain (s : State) (o : Origin) (function : Nat) {r : Reply} (plain : r.confirms = none) :
    sendReply s o function r =
      if o.broadcast then s
      else if queueLength s.rpu < 12 then
        s.setRpu { s.rpu with others := s.rpu.others ++ [.reply (replyFrame s o function r)] }
      else s.setFlag .txqFull := by
  simp only [sendReply, plain]
  congr 1
  split
  · next room => exact offerOther_room s _ room
  · next full => exact offerOther_full s _ (Nat.not_lt.mp full)

/-- A REPLY sets of the flags at most TXQ_FULL (R160). -/
theorem sendReply_supExpired (s : State) (o : Origin) (function : Nat) {r : Reply}
    (plain : r.confirms = none) :
    (sendReply s o function r).flag .supExpired = s.flag .supExpired := by
  rw [sendReply_of_plain s o function plain]
  split
  · rfl
  · split
    · rfl
    · simp

/-- Settles O43: the REPLY leaves what the keep-alive rests on. -/
theorem requestFinished : Obligations.RequestFinished := by
  intro u o function r plain echo summary replied
  have sent : sendReply u o function r = replied := by
    rw [sendReply_of_plain u o function plain, replyFrame, replyPayload, summaryWord_eq, plain]
    rfl
  obtain ⟨-, tables, -, -, -, -, -, -, -, csu, -, -, -, part, -⟩ := sendReply_keeps u o function r plain
  have expired := sendReply_supExpired u o function plain
  rw [sent] at tables csu part expired
  refine ⟨fun off => ?_, fun on => ?_⟩
  · simp [finish, sent, managementKeepAlive, tables, off]
  have kept : finish u o function r = keepAlive replied := by
    simp [finish, sent, managementKeepAlive, tables, on]
  rw [kept]
  refine ⟨fun config => keepAlive_config (part.trans config), fun supervised => ?_, fun fallback set_ => ?_,
    fun fallback clear => ?_⟩
  · rw [keepAlive_supervised (part ▸ supervised), csu, timerStarted]
  · simp [keepAlive, part, fallback, expired, set_]
  · simp [keepAlive, part, fallback, expired, clear, csu]

end Sys2Proof.Proofs

/-! SUPPORT. Requests refused by their function or their length (R182), the reset exchange (R189), and the key reset
at its REPLY (R164, R190). -/

namespace Sys2Proof.Proofs

open Sys2Proof.Machine

/-! ## Handlers of a wrong length (R182) -/

theorem withoutData_of_length {data : List Word} (unfit : data.length ≠ 0) (g : State → State × Reply) :
    withoutData g data = refuseRange :=
  funext fun _ => if_neg (mt List.length_eq_zero_iff.mpr unfit)

theorem readStatus_of_length {data : List Word} (unfit : data.length ≠ 0) (page : Nat) :
    readStatus page data = refuseRange :=
  funext fun _ => if_neg (mt List.length_eq_zero_iff.mpr unfit)

theorem readTable_of_length {data : List Word} (unfit : data.length ≠ 0) (table index : Nat) :
    readTable table index data = refuseRange :=
  funext fun _ => if_neg (mt List.length_eq_zero_iff.mpr unfit)

theorem readChannel_of_length {data : List Word} (unfit : data.length ≠ 0) (part bogie : Nat) :
    readChannel part bogie data = refuseRange :=
  funext fun _ => if_neg (mt List.length_eq_zero_iff.mpr unfit)

/-- A STATE_SET(ACTIVE) of a wrong length cancels a held deferred entry (R182; log 40). -/
theorem stateSetActive_of_length {data : List Word} (unfit : data.length ≠ 0) (s : State) :
    stateSetActive data s = refuseRange (cancelDeferred s) :=
  if_neg (mt List.length_eq_zero_iff.mpr unfit)

/-- The requests of one data word (logs 24, 35). -/
theorem handlers_of_length_ne_one {data : List Word} (unfit : data.length ≠ 1) (o : Origin)
    (held : Option Prepare) (straps : Addr) :
    invalidateOne o data = refuseRange ∧ invalidateEvery o data = refuseRange ∧
      prepareReset o data = refuseRange ∧ confirmReset held straps o data = refuseRange := by
  refine ⟨?_, ?_, ?_, ?_⟩ <;> funext s
  all_goals
    simp only [invalidateOne, invalidateEvery, prepareReset, confirmReset]
    split
    · simp at unfit
    · rfl

/-- The requests of two data words. -/
theorem handlers_of_length_ne_two {data : List Word} (unfit : data.length ≠ 2) (o : Origin) (index : Nat) :
    writeSource o index data = refuseRange ∧ writeAxle o index data = refuseRange ∧
      writeGain o index data = refuseRange ∧ ackFlags data = refuseRange := by
  refine ⟨?_, ?_, ?_, ?_⟩ <;> funext s
  all_goals
    simp only [writeSource, writeAxle, writeGain, ackFlags]
    split
    · simp at unfit
    · rfl

/-- The requests of three data words. -/
theorem handlers_of_length_ne_three {data : List Word} (unfit : data.length ≠ 3) (o : Origin) (index : Nat) :
    writeBogie o index data = refuseRange ∧ writeBeacon o index data = refuseRange ∧
      readCache data = refuseRange := by
  refine ⟨?_, ?_, ?_⟩ <;> funext s
  all_goals
    simp only [writeBogie, writeBeacon, readCache]
    split
    · simp at unfit
    · rfl

theorem channelEntry_ofWords_eq_none {entry : List Word} (unfit : entry.length ≠ 10) :
    ChannelEntry.ofWords entry = none := by
  unfold ChannelEntry.ofWords
  split
  · simp at unfit
  · rfl

theorem paramFields_ofWords_eq_none {entry : List Word} (unfit : entry.length ≠ 15) :
    ParamFields.ofWords entry = none := by
  unfold ParamFields.ofWords
  split
  · simp at unfit
  · rfl

theorem writeChannelEntry_of_length {entry : List Word} (unfit : entry.length ≠ 10) (o : Origin)
    (index : Nat) : writeChannelEntry o index entry = refuseRange := by
  funext s
  rw [writeChannelEntry, channelEntry_ofWords_eq_none unfit]

theorem writeParam_of_length {entry : List Word} (unfit : entry.length ≠ 15) (o : Origin) (index : Nat) :
    writeParam o index entry = refuseRange := by
  funext s
  rw [writeParam, paramFields_ofWords_eq_none unfit]

theorem setPosition_of_length {count : Nat} {data : List Word} (unfit : data.length ≠ 2 + 2 * count)
    (o : Origin) : setPosition o count data = refuseRange := by
  funext s
  unfold setPosition
  split
  · next segment offset rest =>
    have counted : rest.length ≠ 2 * count := by simp only [List.length_cons] at unfit; omega
    simp [counted]
  · rfl

theorem appendRoute_of_length {count : Nat} {data : List Word} (unfit : data.length ≠ 2 * count) :
    appendRoute count data = refuseRange := by
  funext s
  simp [appendRoute, unfit]

/-! ## Their answers (R181, R182) -/

section

variable {s : State} {o : Origin} (addressed : Addressed s o)
include addressed

theorem accepts_of_addressed (function : Nat) : accepts s o function = true := by
  obtain ⟨works, unconfirmed, single⟩ := addressed
  simp [accepts, works, unconfirmed, single]

/-- An addressed request that its handler refuses is answered REFUSED_RANGE. -/
theorem manage_of_refused {g : State → State × Reply} (refused : g = refuseRange) (function : Nat) :
    (.next (manage s o function g) : Host.Outcome State Fault Refusal) =
      .next (finish (cancelPrepare s) o function (.plain .refusedRange)) := by
  rw [refused, manage_refuseRange (accepts_of_addressed addressed function)]

/-- A function number that names no request is answered REFUSED_FUNCTION. -/
theorem exec_refusedFunction_of_addressed {function : BitVec 4} (data : List Word)
    (unnamed : function.toNat = 0 ∨ function.toNat = 14 ∨ function.toNat = 15) :
    exec (.refusedFunction o function data) s =
      .next (finish (cancelPrepare s) o function.toNat (.plain .refusedFunction)) := by
  have none_ : namesNoRequest function = true := by
    simp only [namesNoRequest, Bool.or_eq_true, beq_iff_eq, ← BitVec.toNat_inj]
    simpa [or_assoc] using unnamed
  have path : exec (.refusedFunction o function data) s = .next (manage s o function.toNat refuseFunction) :=
    congrArg Host.Outcome.next (if_pos none_)
  rw [path, manage_of_addressed addressed]
  rfl

end

/-- Settles O52: the handler of each request is `refuseRange` when its data has another length. -/
theorem unfitRequestRefused : Obligations.UnfitRequestRefused := by
  intro o index table part data straps s addressed range
  have refused {g : State → State × Reply} {function : Nat} (unfit : g = refuseRange) :
      .next (manage s o function g) = range function := manage_of_refused addressed unfit function
  refine ⟨fun function unnamed => exec_refusedFunction_of_addressed addressed data unnamed, fun unfit => ?_,
    fun unfit => ?_, fun unfit => ?_, fun unfit => ?_,
    fun unfit => refused (writeChannelEntry_of_length unfit o _),
    fun unfit => refused (writeParam_of_length unfit o _),
    fun unfit => refused (setPosition_of_length unfit o),
    fun unfit => refused (appendRoute_of_length unfit)⟩
  · refine ⟨refused (readStatus_of_length unfit _), refused (readTable_of_length unfit _ _),
      refused (withoutData_of_length unfit _), refused (withoutData_of_length unfit _), ?_,
      refused (withoutData_of_length unfit _), refused (readChannel_of_length unfit _ _)⟩
    have path : exec (.stateSetActive o data) s = .next (manage s o 4 (stateSetActive data)) := rfl
    rw [path, manage_of_addressed addressed, stateSetActive_of_length unfit]
    rfl
  · obtain ⟨one, every, prepare, confirm⟩ := handlers_of_length_ne_one unfit o s.mrh.prepare straps
    exact ⟨refused one, refused every, refused prepare, refused confirm⟩
  · obtain ⟨source, axle, gain, ack⟩ := handlers_of_length_ne_two unfit o index.toNat
    exact ⟨refused source, refused axle, refused gain, refused ack⟩
  · obtain ⟨bogie, beacon, cache⟩ := handlers_of_length_ne_three unfit o index.toNat
    exact ⟨refused bogie, refused beacon, refused cache⟩

/-! ## The reset exchange (R189) -/

/-- A REPLY offered leaves the held prepare, or a key reset leaves none (R190). -/
theorem sendReply_prepare {s : State} (o : Origin) (function : Nat) (r : Reply)
    (none_ : s.mrh.prepare = none) : (sendReply s o function r).mrh.prepare = none := by
  simp only [sendReply]
  (repeat' split) <;> simp [none_, keyReset, Mrh.initial]

/-- An accepted request whose handling leaves the held prepare has cancelled it (R189). -/
theorem manage_prepare {s : State} {o : Origin} {function : Nat} {g : State → State × Reply}
    (accepted : accepts s o function = true) (keeps : KeepsPrepare g) :
    (manage s o function g).mrh.prepare = none := by
  have handled : (g (cancelPrepare s)).1.mrh.prepare = none := by simp [keeps (cancelPrepare s)]
  rw [manage_accepted s o function g accepted]
  simpa using sendReply_prepare o function _ handled

theorem exec_resetConfirm {s : State} {o : Origin} (addressed : Addressed s o) (straps : Addr) (w : Word) :
    exec (.resetConfirm o ⟨[w], straps⟩) s =
      .next (finish (confirmReset s.mrh.prepare straps o [w] (cancelPrepare s)).1 o 13
        (confirmReset s.mrh.prepare straps o [w] (cancelPrepare s)).2) :=
  congrArg Host.Outcome.next (manage_of_addressed addressed 13 _)

theorem confirmReset_of_other {p : Prepare} {o : Origin} (straps : Addr) (w : Word) (s : State)
    (other : p.sender ≠ o.source) : confirmReset (some p) straps o [w] s = (s, .plain .refusedState) :=
  if_pos other

theorem confirmReset_of_wrong {p : Prepare} {o : Origin} {w : Word} (straps : Addr) (s : State)
    (sender : p.sender = o.source) (wrong : w.toNat ≠ 65535 - p.value.toNat) :
    confirmReset (some p) straps o [w] s = refuseRange s := by
  simp only [confirmReset]
  rw [if_neg (not_not.mpr sender), if_pos wrong]

/-- The REPLY to a confirmed reset waits in the queue when it has room (R190). -/
theorem finish_of_room {s : State} {o : Origin} {r : Reply} {straps : Addr} (function : Nat)
    (single : o.broadcast = false) (confirms : r.confirms = some straps) (room : queueLength s.rpu < 12) :
    finish s o function r = managementKeepAlive (s.setRpu { s.rpu with
      others := s.rpu.others ++ [.reply (replyFrame s o function r)] }) := by
  have free : queueHasRoom s = true := decide_eq_true room
  simp only [finish, sendReply, single, confirms, free, if_true]
  rw [offerOther_room s _ room]
  rfl

/-- Settles O51: each outcome of the exchange by what is held, and every other request by what its handling
leaves of the prepare. -/
theorem resetExchange : Obligations.ResetExchange := by
  intro o v c straps s addressed u
  refine ⟨?_, fun held => ?_, fun p held => ⟨fun other => ?_, fun sender wrong => ?_,
    fun sender value room => ?_⟩, fun d function t named wf other accepted ran => ?_⟩
  · exact congrArg Host.Outcome.next (manage_of_addressed addressed 12 (prepareReset o [v]))
  · rw [exec_resetConfirm addressed, held]
    rfl
  · rw [exec_resetConfirm addressed, held, confirmReset_of_other straps c _ other]
  · rw [exec_resetConfirm addressed, held, confirmReset_of_wrong straps _ sender wrong]
    rfl
  · obtain ⟨-, -, single⟩ := id addressed
    rw [exec_resetConfirm addressed, held, confirmReset_of_held straps _ sender value,
      finish_of_room 13 single rfl (by simpa using room)]
    refine ⟨_, rfl, by simp, by simp, by simp, by simp, by simp,
      replyFrame (u.setMrh { u.mrh with confirmed := true }) o 13
        { result := .done, reason := 0, data := [], confirms := some straps }, by simp [u], rfl, rfl, rfl, ?_⟩
    have echo : bitsAt 12 4 13 ||| bitsAt 8 3 0 ||| bitsAt 0 4 Result.done.code = 0xD000 := by decide
    rw [← summaryWord_eq, ← echo]
    rfl
  · rcases exec_of_request named s with ⟨unfit, -⟩ | ⟨g, path, keeps⟩
    · simp [wf] at unfit
    · cases ran.symm.trans path
      exact manage_prepare accepted (keeps other)

/-! ## The key reset (R164, R190) -/

/-- What a key reset leaves, whichever moment it takes effect at (R172). -/
theorem keyReset_leaves (s : State) (straps : Addr) :
    (keyReset s straps).straps = straps ∧ (keyReset s straps).rpu.own = straps ∧
    (keyReset s straps).tables = s.tables ∧ BlocksAtReset (keyReset s straps) ∧
    (keyReset s straps).sdu.cause = .key ∧ (keyReset s straps).pending = s.pending :=
  ⟨by simp [keyReset], by simp [keyReset, resetRpu, Rpu.initial], by simp [keyReset],
    blocksAtReset_resetPart _ _ _ _, by simp [keyReset], by simp [keyReset]⟩

/-- Settles O4: both moments make the one key reset. -/
theorem keyResetAtReply : Obligations.KeyResetAtReply := by
  refine ⟨fun straps s bytes sent confirmed => ?_,
    fun straps o c p s addressed held sender value full => ?_⟩
  · exact ⟨_, congrArg Host.Outcome.next (replyLeft_of_confirmed straps sent confirmed),
      keyReset_leaves (endSending s) straps⟩
  · obtain ⟨u, tables, ran⟩ := exec_resetConfirm_refused straps addressed held sender value full
    obtain ⟨read, own, kept, blocks, cause, -⟩ := keyReset_leaves u straps
    have set_ (f : Flag) := resetPart_flag_iff u straps .key u.tables f
    refine ⟨_, ran, blocks, kept.trans tables, read, cause, own, (set_ .resetSeen).mpr (.inl rfl),
      (set_ .positionLost).mpr (.inr (.inl rfl)), ?_⟩
    rw [← Bool.not_eq_true, keyReset, set_]
    simp

end Sys2Proof.Proofs

/-! SUPPORT. The fields of a word (chapter 12, R193): a word put together from its fields by `|||`, highest first, is
the word that the fields make side by side; and the masks, signed pairs and absent values that the replies carry. -/

namespace Sys2Proof.Proofs

open Sys2Proof.Machine

/-! ## Fields side by side -/

/-- A word holds the bits `x` from bit `lo` up, and zeros elsewhere. -/
def HasFields (w : Word) (lo : Nat) {n : Nat} (x : BitVec n) : Prop := w = BitVec.ofNat 16 (x.toNat <<< lo)

theorem ofNat_one_toNat (b : Bool) : BitVec.ofNat 1 b.toNat = BitVec.ofBool b := by cases b <;> rfl

namespace HasFields

variable {w : Word} {lo m n value : Nat} {x : BitVec m} {y : BitVec n} {b : Bool}

/-- The highest field. -/
theorem first (same : BitVec.ofNat n value = y) : HasFields (bitsAt lo n value) lo y := by
  rw [HasFields, bitsAt, ← same, BitVec.toNat_ofNat, Nat.shiftLeft_eq]

/-- A field below those that the word holds. -/
theorem field (above : HasFields w (lo + n) x) (same : BitVec.ofNat n value = y) :
    HasFields (w ||| bitsAt lo n value) lo (x ++ y) := by
  rw [HasFields, above, first same, BitVec.toNat_append, Nat.shiftLeft_or_distrib, ← Nat.shiftLeft_add,
    Nat.add_comm n, BitVec.ofNat_or]

/-- Unnamed bits below (R193). -/
theorem gap (above : HasFields w (lo + n) x) : HasFields w lo (x ++ 0#n) := by
  rw [HasFields, above, BitVec.toNat_append, BitVec.toNat_zero, Nat.or_zero, ← Nat.shiftLeft_add,
    Nat.add_comm n]

/-- Unnamed bits above (R193). -/
theorem leading (below : HasFields w lo y) : HasFields w lo (0#m ++ y) := by
  rw [HasFields, below, BitVec.toNat_append, BitVec.toNat_zero, Nat.zero_shiftLeft, Nat.zero_or]

theorem firstBit : HasFields (bitAt lo b) lo (BitVec.ofBool b) := first (ofNat_one_toNat b)

theorem bit (above : HasFields w (lo + 1) x) : HasFields (w ||| bitAt lo b) lo (x ++ BitVec.ofBool b) :=
  above.field (ofNat_one_toNat b)

/-- A word that holds sixteen bits is these bits. -/
theorem eq {z : Word} (whole : HasFields w 0 z) : w = z := by
  simpa [HasFields] using whole

end HasFields

/-! ## Masks, pairs and signed values -/

theorem bogieBits_eq (p : BogieId → Bool) : BitVec.ofNat 4 (bogieMask p) = bogieBits p := by
  have listed : p = ![p 0, p 1, p 2, p 3] := by funext b; fin_cases b <;> rfl
  rw [listed]
  generalize p 0 = a, p 1 = b, p 2 = c, p 3 = d
  decide +revert

theorem eightBits_eq (p : Fin 8 → Bool) : BitVec.ofNat 8 (mask8 p) = eightBits p := by
  have listed : p = ![p 0, p 1, p 2, p 3, p 4, p 5, p 6, p 7] := by funext n; fin_cases n <;> rfl
  rw [listed]
  generalize p 0 = a, p 1 = b, p 2 = c, p 3 = d, p 4 = e, p 5 = f, p 6 = g, p 7 = h
  decide +revert

theorem bogieStateBits_eq (x : BogieState) : BitVec.ofNat 3 x.code = bogieStateBits x := by
  cases x <;> rfl

theorem wordPair_ofInt (v : Int) : wordPair (BitVec.ofInt 32 v) = signedPair v := by
  have hi : (BitVec.ofInt 32 v).extractLsb' 16 16 = BitVec.ofInt 16 (v / 65536) := by
    apply BitVec.eq_of_toNat_eq
    simp only [BitVec.extractLsb'_toNat, BitVec.toNat_ofInt, Nat.shiftRight_eq_div_pow]
    omega
  have lo : (BitVec.ofInt 32 v).extractLsb' 0 16 = BitVec.ofInt 16 v := by
    apply BitVec.eq_of_toNat_eq
    simp only [BitVec.extractLsb'_toNat, BitVec.toNat_ofInt, Nat.shiftRight_zero]
    omega
  rw [wordPair, hi, lo, signedPair]

theorem wordPair_ofNat (n : Nat) :
    wordPair (BitVec.ofNat 32 n) = [BitVec.ofNat 16 (n / 65536), BitVec.ofNat 16 n] := by
  have signed := wordPair_ofInt n
  have high : ((n : Int) / 65536) = ((n / 65536 : Nat) : Int) := rfl
  rwa [signedPair, high, BitVec.ofInt_natCast, BitVec.ofInt_natCast, BitVec.ofInt_natCast] at signed

theorem pairWords_eq (p : Option CodePair) : pairWords p =
    [BitVec.ofNat 16 ((p.map CodePair.lead).getD 0), BitVec.ofNat 16 ((p.map CodePair.trail).getD 0)] := by
  cases p <;> rfl

theorem pointWords_eq (p : Option RoutePoint) : pointWords p =
    [BitVec.ofNat 16 ((p.map RoutePoint.segment).getD 0),
     BitVec.ofNat 16 ((p.map RoutePoint.offset).getD 0)] := by
  cases p <;> rfl

end Sys2Proof.Proofs

/-! SUPPORT. The replies of the read requests as Tables 12.4 to 12.7 lay them out (R78, R188). -/

namespace Sys2Proof.Proofs

open Sys2Proof.Machine

/-! ## STATUS_READ (Table 12.6) -/

theorem statusPage0_eq (s : State) : statusPage0 s = statusLayout0 s := by
  simp only [statusPage0, statusLayout0, wordPair, List.cons_append, List.nil_append, List.cons.injEq,
    and_true, true_and]
  refine ⟨?state, ?ring, rfl, rfl, rfl, rfl, rfl, ?posted⟩
  case state =>
    rw [statusWord]
    exact HasFields.eq <| .gap <| .bit <| .bit <| .bit <| .bit <| .bit <| .bit <|
      .field (.field (.bit <| .first (by cases s.sdu.part <;> rfl)) (by cases s.sdu.reason <;> rfl))
        (by cases s.sdu.cause <;> rfl)
  case ring =>
    exact HasFields.eq <| .field (.field (.gap <| .leading <| .first (by simp)) rfl) rfl
  case posted =>
    refine HasFields.eq <| .field (.field (.field (.first ?function) (bogieBits_eq _)) (bogieBits_eq _))
      (bogieBits_eq _)
    unfold postedFunction
    rcases s.mrh.posted with _ | ⟨request, sender⟩
    · rfl
    · cases request <;> rfl

theorem statusPage1_eq (s : State) : statusPage1 s = statusLayout1 s := by
  simp only [statusPage1, statusLayout1, List.cons.injEq, and_true]
  refine ⟨?segment, ?offset, rfl, ?located, ?beacon, rfl, rfl, ?error, ?fresh, ?states, ?excluded⟩
  case segment => unfold reportedSegment; cases s.opu.position <;> rfl
  case offset => unfold reportedOffset; cases s.opu.position <;> rfl
  case located =>
    refine HasFields.eq <| .field (.gap <| .field (.field (.first ?position) rfl) rfl) rfl
    rcases s.opu.position with _ | ⟨segment, offset, overrun, confirmed⟩
    · rfl
    · cases confirmed <;> rfl
  case beacon =>
    exact HasFields.eq <| .field (.gap <| .bit <| .field (.bit <| .bit <| .field (.first rfl) rfl)
      (by cases s.bru.report.outcome <;> rfl)) rfl
  case error => rw [reportedBeaconError, limitInt_eq _ (by decide), signedWord, min_comm]
  case fresh => exact HasFields.eq <| .field (.first (eightBits_eq _)) (eightBits_eq _)
  case states =>
    have order : bogieStateWord s = bitsAt 9 3 s.slu.bogieState[(3 : Fin 4)].code |||
        bitsAt 6 3 s.slu.bogieState[(2 : Fin 4)].code ||| bitsAt 3 3 s.slu.bogieState[(1 : Fin 4)].code |||
        bitsAt 0 3 s.slu.bogieState[(0 : Fin 4)].code := by
      rw [bogieStateWord]
      ac_rfl
    rw [order]
    exact HasFields.eq <| .field (.field (.field (.leading <| .first (bogieStateBits_eq _))
      (bogieStateBits_eq _)) (bogieStateBits_eq _)) (bogieStateBits_eq _)
  case excluded => exact HasFields.eq <| .leading <| .first (bogieBits_eq _)

/-! ## CHANNEL_READ (Table 12.7) -/

theorem bogiePart_eq (s : State) (b : BogieId) : bogiePart s b = bogieLayout s b := by
  simp only [bogiePart, bogieLayout, pairWords_eq, List.cons_append, List.nil_append, List.cons.injEq, and_true,
    true_and]
  refine ⟨?state, ?outstanding, ?status⟩
  case state =>
    exact HasFields.eq <| .field (.gap <| .field (.bit <| .bit <| .bit <| .bit <| .bit <| .bit <| .bit <| .first
      (bogieStateBits_eq _)) rfl) rfl
  case outstanding =>
    unfold outstandingWord
    cases s.als[b].outstanding with
    | none => rfl
    | some o => exact HasFields.eq <| .field (.gap <| .leading <| .first rfl) (by simp)
  case status =>
    refine HasFields.eq <| .leading <| .first ?_
    cases s.als[b].status with
    | none => rfl
    | some v => simp

theorem trackingCount_leadOf (s : State) (b : BogieId) : trackingCount s (leadOf b) = s.als[b].trackLead := by
  simp [trackingCount, leadOf]

theorem trackingCount_trailOf (s : State) (b : BogieId) : trackingCount s (trailOf b) = s.als[b].trackTrail := by
  have half : (2 * b.val + 1) / 2 % 4 = b.val := by omega
  simp [trackingCount, trailOf, half]

theorem channelPart_eq (s : State) (c : ChannelId) : channelPart s c = channelLayout s c (trackingCount s c) := by
  simp only [channelPart, channelLayout, viewWords, pointWords_eq, wordPair_ofInt, signedPair, List.cons_append,
    List.nil_append, List.cons.injEq, and_true, true_and]
  refine ⟨?record, ?view, ?value, rfl, rfl, rfl, ?issued⟩
  case record =>
    exact HasFields.eq <| .field (.field (.field (.field (.bit <| .bit <| .bit <| .bit <| .bit <| .firstBit)
      (by cases s.slu.record[c].source <;> rfl)) rfl) rfl) rfl
  case view => exact HasFields.eq <| .gap <| .first (by cases s.sit.gap[c].state <;> rfl)
  case value => cases s.sit.gap[c].view <;> rfl
  case issued => cases s.osu.channel[c].issued <;> rfl

/-! ## TABLE_READ (Table 12.4) -/

theorem map_indexIn {n : Nat} {α : Type} (f : Fin n → α) (i : Nat) :
    (indexIn n i).map f = if h : i < n then some (f ⟨i, h⟩) else none := by
  unfold indexIn
  split <;> rfl

theorem tableData_source (t : Tables) (index : Nat) : tableData t 1 index = tableLayout t 1 index := by
  refine (map_indexIn _ index).trans (dite_congr rfl (fun inside => ?_) fun _ => rfl)
  show some (sourceWords t.source[index]) = _
  cases t.source[index] with
  | none => rfl
  | some e =>
    have head : bitAt 15 true ||| bitsAt 8 6 e.node ||| bitsAt 0 4 e.item =
        1#1 ++ 0#1 ++ BitVec.ofNat 6 e.node ++ 0#4 ++ BitVec.ofNat 4 e.item :=
      HasFields.eq <| .field (.gap <| .field (.gap <| .firstBit) rfl) rfl
    simp only [sourceWords, head]
    refine congrArg (fun w => some [_, w]) (HasFields.eq <| .field (.gap <| .field (.gap <| .leading <|
      .first ?_) ?_) rfl)
    · cases e.target <;> rfl
    · cases e.target <;> rfl

theorem tableData_axle (t : Tables) (index : Nat) : tableData t 2 index = tableLayout t 2 index := by
  refine (map_indexIn _ index).trans (dite_congr rfl (fun inside => ?_) fun _ => rfl)
  show some (axleWords t.axle[index]) = _
  cases t.axle[index] with
  | none => rfl
  | some e =>
    exact congrArg (fun w => some [_, w]) (HasFields.eq <| .field (.gap <| .firstBit) rfl)

theorem tableData_bogie (t : Tables) (index : Nat) : tableData t 3 index = tableLayout t 3 index := by
  refine (map_indexIn _ index).trans (dite_congr rfl (fun inside => ?_) fun _ => rfl)
  exact congrArg (fun w => some [w, _, _]) (HasFields.eq <| .field (.gap <| .bit <| .firstBit) rfl)

theorem tableData_channel (t : Tables) (index : Nat) : tableData t 4 index = tableLayout t 4 index := by
  refine (map_indexIn _ index).trans (dite_congr rfl (fun inside => ?_) fun _ => rfl)
  rw [channelWords, wordPair_ofNat]
  rfl

theorem tableData_gain (t : Tables) (index : Nat) : tableData t 5 index = tableLayout t 5 index :=
  map_indexIn _ index

theorem tableData_beacon (t : Tables) (index : Nat) : tableData t 6 index = tableLayout t 6 index := by
  refine (map_indexIn _ index).trans (dite_congr rfl (fun inside => ?_) fun _ => rfl)
  show some (beaconWords t.beacon[index]) = _
  cases t.beacon[index] with
  | none => rfl
  | some e => exact congrArg (fun w => some [w, _, _]) (HasFields.eq <| .field (.gap <| .firstBit) rfl)

theorem paramWords_eq (t : Tables) : some (paramWords t.param) = tableLayout t 7 0 := by
  have management : bitAt 0 t.param.keepAlive = 0#15 ++ BitVec.ofBool t.param.keepAlive :=
    HasFields.eq <| .leading .firstBit
  have axles : bitsAt 8 4 t.param.readerAxle[1].val ||| bitsAt 0 4 t.param.readerAxle[0].val =
      0#4 ++ BitVec.ofNat 4 t.param.readerAxle[1].val ++ 0#4 ++ BitVec.ofNat 4 t.param.readerAxle[0].val :=
    HasFields.eq <| .field (.gap <| .leading <| .first rfl) rfl
  rw [paramWords, management, axles]
  rfl

theorem tableData_param (t : Tables) (index : Nat) : tableData t 7 index = tableLayout t 7 index := by
  by_cases zero : index = 0
  · subst zero
    exact paramWords_eq t
  · simp [tableData, tableLayout, indexIn, zero]

/-- An entry as TABLE_READ gives it (R188): a table number or an index out of range has none. -/
theorem tableData_eq (t : Tables) (table index : Nat) : tableData t table index = tableLayout t table index := by
  by_cases named : 1 ≤ table ∧ table ≤ 7
  · obtain ⟨low, high⟩ := named
    interval_cases table
    · exact tableData_source t index
    · exact tableData_axle t index
    · exact tableData_bogie t index
    · exact tableData_channel t index
    · exact tableData_gain t index
    · exact tableData_beacon t index
    · exact tableData_param t index
  · have other : ∀ n, 1 ≤ n → n ≤ 7 → table ≠ n := by omega
    simp [tableData, tableLayout, other]

/-! ## CACHE_READ (Table 12.5) -/

theorem blockWords_eq (b : Option SubBlock) : blockWords b =
    [BitVec.ofInt 16 ((b.map fun x => x.points[(0 : Fin 4)]).getD 0),
     BitVec.ofInt 16 ((b.map fun x => x.points[(1 : Fin 4)]).getD 0),
     BitVec.ofInt 16 ((b.map fun x => x.points[(2 : Fin 4)]).getD 0),
     BitVec.ofInt 16 ((b.map fun x => x.points[(3 : Fin 4)]).getD 0)] := by
  rcases b with _ | ⟨gainClass, ⟨⟨points⟩, four⟩⟩
  · rfl
  · obtain ⟨p, q, r, t, rfl⟩ := List.length_eq_four.mp four
    rfl

/-- The gain class that a word shows of a sub-block, 0 when it is not valid. -/
def shownClass (b : Option SubBlock) : Nat := (b.map SubBlock.gainClass).getD 0

theorem gainClasses_eq_foldl (c : Content) : gainClasses c =
    (List.finRange 8).foldl (fun w k => w ||| bitsAt (2 * k.val) 2 (shownClass c.blocks[k])) 0 := by
  unfold gainClasses
  congr
  funext w k
  cases c.blocks[k] with
  | none => simp [shownClass, bitsAt]
  | some b => rfl

theorem gainClasses_eq (c : Content) :
    let cls (k : Fin 8) : BitVec 2 := BitVec.ofNat 2 (shownClass c.blocks[k])
    gainClasses c = cls 7 ++ cls 6 ++ cls 5 ++ cls 4 ++ cls 3 ++ cls 2 ++ cls 1 ++ cls 0 := by
  intro cls
  have order : gainClasses c = bitsAt 14 2 (shownClass c.blocks[(7 : Fin 8)]) |||
      bitsAt 12 2 (shownClass c.blocks[(6 : Fin 8)]) ||| bitsAt 10 2 (shownClass c.blocks[(5 : Fin 8)]) |||
      bitsAt 8 2 (shownClass c.blocks[(4 : Fin 8)]) ||| bitsAt 6 2 (shownClass c.blocks[(3 : Fin 8)]) |||
      bitsAt 4 2 (shownClass c.blocks[(2 : Fin 8)]) ||| bitsAt 2 2 (shownClass c.blocks[(1 : Fin 8)]) |||
      bitsAt 0 2 (shownClass c.blocks[(0 : Fin 8)]) := by
    have unfolded : List.finRange 8 = [0, 1, 2, 3, 4, 5, 6, 7] := rfl
    rw [gainClasses_eq_foldl, unfolded]
    simp only [List.foldl_cons, List.foldl_nil, Fin.coe_ofNat_eq_mod, Nat.reduceMod, Nat.reduceMul,
      BitVec.ofNat_eq_ofNat, BitVec.zero_or]
    ac_rfl
  rw [order]
  exact HasFields.eq <| .field (.field (.field (.field (.field (.field (.field (.first rfl) rfl) rfl) rfl) rfl) rfl)
    rfl) rfl

theorem partPoints_eq (c : Content) (part : Fin 2) : partPoints c part =
    if part = 0 then
      blockWords c.blocks[(0 : Fin 8)] ++ blockWords c.blocks[(1 : Fin 8)] ++ blockWords c.blocks[(2 : Fin 8)] ++
        blockWords c.blocks[(3 : Fin 8)]
    else
      blockWords c.blocks[(4 : Fin 8)] ++ blockWords c.blocks[(5 : Fin 8)] ++ blockWords c.blocks[(6 : Fin 8)] ++
        blockWords c.blocks[(7 : Fin 8)] := by
  have four : List.finRange 4 = [0, 1, 2, 3] := rfl
  fin_cases part <;> simp [partPoints, four]

/-- The first word of an allocated way. -/
theorem wayWord_eq (used lru header : Bool) {mask : Nat} {valid : BitVec 8}
    (same : BitVec.ofNat 8 mask = valid) :
    bitAt 15 true ||| bitAt 14 used ||| bitAt 13 lru ||| bitAt 12 header ||| bitsAt 0 8 mask =
      1#1 ++ BitVec.ofBool used ++ BitVec.ofBool lru ++ BitVec.ofBool header ++ 0#4 ++ valid :=
  HasFields.eq <| .field (.gap <| .bit <| .bit <| .bit <| .firstBit) same

theorem cacheWords_eq (s : State) (i : Fin 64) (w part : Fin 2) :
    cacheWords s i w part = cacheLayout s i w part := by
  unfold cacheWords cacheLayout
  cases held : s.sgc.sets[i].ways[w] with
  | none => rfl
  | some l =>
    have used : wayInUse s i w = s.sgc.inUse.contains (l.tag * 64 + i.val) := by
      rw [wayInUse, held]
      rfl
    dsimp only
    rw [used]
    rcases l with ⟨tag, _ | c⟩
    · refine congrArg₂ List.cons (wayWord_eq _ _ _ (eightBits_eq fun _ => false)) ?_
      simp [contentWords, word, lineSegment, List.replicate]
    · refine congrArg₂ List.cons (wayWord_eq _ _ _ (eightBits_eq _)) ?_
      rw [contentWords, gainClasses_eq, partPoints_eq]
      simp only [blockWords_eq]
      rfl

/-! ## The answers (R188) -/

/-- What a read answers: DONE with its data, or REFUSED_RANGE when there is none. -/
def readReply (data : Option (List Word)) : Reply := data.elim (.plain .refusedRange) .withData

theorem answerRead_eq (s : State) (data : Option (List Word)) : answerRead s data = (s, readReply data) := by
  cases data <;> rfl

/-- An addressed read is answered with its data, and changes nothing but the prepare that it cancels. -/
theorem manage_of_read {s : State} {o : Origin} (addressed : Addressed s o) (function : Nat)
    {g : State → State × Reply} {data : Option (List Word)} {r : Reply}
    (reads : g (cancelPrepare s) = answerRead (cancelPrepare s) data) (answer : readReply data = r) :
    (.next (manage s o function g) : Host.Outcome State Fault Refusal) =
      .next (finish (cancelPrepare s) o function r) := by
  rw [manage_of_addressed addressed, reads, answerRead_eq, answer]

theorem statusData_eq (s : State) (page : Nat) : statusData s page =
    if page = 0 then some (statusLayout0 s) else if page = 1 then some (statusLayout1 s) else none := by
  rw [statusData, statusPage0_eq, statusPage1_eq]

theorem channelData_eq (s : State) (part : Nat) (b : BogieId) : channelData s part b.val =
    if part = 0 then some (bogieLayout s b)
    else if part = 1 then some (channelLayout s (leadOf b) s.als[b].trackLead)
    else if part = 2 then some (channelLayout s (trailOf b) s.als[b].trackTrail)
    else none := by
  rw [channelData, indexIn_val]
  simp only [bogiePart_eq, channelPart_eq, trackingCount_leadOf, trackingCount_trailOf]

theorem channelData_of_le (s : State) (part : Nat) {bogie : Nat} (outside : 4 ≤ bogie) :
    channelData s part bogie = none := by
  rw [channelData, indexIn_of_le outside]

theorem cacheData_eq (s : State) (i : Fin 64) (w p : Fin 2) :
    cacheData s i.val w.val p.val = some (cacheLayout s i w p) := by
  rw [cacheData, indexIn_val, indexIn_val, indexIn_val]
  exact congrArg some (cacheWords_eq s i w p)

theorem cacheData_of_le (s : State) {set way part : Nat} (outside : 64 ≤ set ∨ 2 ≤ way ∨ 2 ≤ part) :
    cacheData s set way part = none := by
  unfold cacheData
  split
  · next i w p foundSet foundWay foundPart =>
    rcases outside with h | h | h
    · simp [indexIn_of_le h] at foundSet
    · simp [indexIn_of_le h] at foundWay
    · simp [indexIn_of_le h] at foundPart
  · rfl

/-- Settles O44: each read answers the data of its layout, or none out of range. -/
theorem readsAnswered : Obligations.ReadsAnswered := by
  intro o s addressed u done refused
  refine ⟨fun page => ?status, fun table index => ?table, fun part bogie => ⟨fun b same => ?channel,
    fun outside => ?noBogie⟩, fun set way part => ⟨fun i w p sameSet sameWay samePart => ?cache,
    fun outside => ?noWay⟩⟩
  case status =>
    refine manage_of_read addressed 1 rfl ?_
    rw [statusData_eq]
    split_ifs <;> rfl
  case table =>
    refine manage_of_read addressed 3 rfl ?_
    rw [tableData_eq]
    show readReply (tableLayout s.tables table.toNat index.toNat) = _
    cases tableLayout s.tables table.toNat index.toNat <;> rfl
  case channel =>
    refine manage_of_read addressed 11 rfl ?_
    rw [same, channelData_eq]
    split_ifs <;> rfl
  case noBogie =>
    refine manage_of_read addressed 11 rfl ?_
    rw [channelData_of_le _ _ outside]
    rfl
  case cache =>
    refine manage_of_read addressed 10 rfl ?_
    rw [sameSet, sameWay, samePart, cacheData_eq]
    rfl
  case noWay =>
    refine manage_of_read addressed 10 rfl ?_
    rw [cacheData_of_le _ outside]
    rfl

end Sys2Proof.Proofs

/-! SUPPORT. A step on a queue that holds a command, and what reception makes of the bytes that the part sends
(Table 12.1, R155, R192): header, payload words and check byte are read as they were formed. -/

namespace Sys2Proof.Proofs

open Sys2Proof.Machine

/-! ## The front of the queue -/

theorem step_front {s : State} {c : Instr} {rest : List Instr} (front : s.pending = c :: rest) :
    step s = exec c (s.setPending rest) := by
  simp [step, front]

/-- Settles O1: the command put at the front is taken out again, and runs on the state as it was. -/
theorem stepRunsFrontCommand : Obligations.StepRunsFrontCommand := by
  intro c s
  rw [step_front (s.setPending_pending _), State.setPending_setPending, State.setPending_self]

/-! ## Words and bytes (chapter 12) -/

theorem wordsOf_wordBytes (w : Word) (bytes : List Byte) : wordsOf (wordBytes w ++ bytes) = w :: wordsOf bytes := by
  have joined : w.extractLsb' 8 8 ++ w.extractLsb' 0 8 = w :=
    (BitVec.extractLsb'_append_extractLsb'_eq_extractLsb' rfl).trans BitVec.extractLsb'_eq_self
  exact congrArg (· :: wordsOf bytes) joined

theorem wordsOf_flatMap_wordBytes (payload : List Word) : wordsOf (payload.flatMap wordBytes) = payload := by
  induction payload with
  | nil => rfl
  | cons w rest ih => rw [List.flatMap_cons, wordsOf_wordBytes, ih]

theorem length_flatMap_wordBytes (payload : List Word) :
    (payload.flatMap wordBytes).length = 2 * payload.length := by
  induction payload with
  | nil => rfl
  | cons w rest ih =>
    simp only [List.flatMap_cons, List.length_append, List.length_cons, ih, wordBytes, List.length_nil]
    omega

/-! ## Header (Table 12.1) -/

theorem FrameClass.ofBits_bits (cls : FrameClass) : FrameClass.ofBits cls.bits = cls := by cases cls <;> rfl

/-- The header value is made of its four bytes. -/
theorem headerValue_extractLsb' (v : BitVec 32) :
    headerValue (v.extractLsb' 24 8) (v.extractLsb' 16 8) (v.extractLsb' 8 8) (v.extractLsb' 0 8) = v := by
  have upper : v.extractLsb' 24 8 ++ v.extractLsb' 16 8 = v.extractLsb' 16 16 :=
    BitVec.extractLsb'_append_extractLsb'_eq_extractLsb' rfl
  have upperThree : v.extractLsb' 16 16 ++ v.extractLsb' 8 8 = v.extractLsb' 8 24 :=
    BitVec.extractLsb'_append_extractLsb'_eq_extractLsb' rfl
  have whole : v.extractLsb' 8 24 ++ v.extractLsb' 0 8 = v := BitVec.extractLsb'_append_extractLsb'
  rw [headerValue, upper, upperThree, whole]

/-- A field keeps its place, counted from its own word's end, when another field is put below. -/
theorem extractLsb'_append_above {m n start len : Nat} {x : BitVec m} {f : BitVec len} (below : BitVec n)
    (found : x.extractLsb' start len = f) : (x ++ below).extractLsb' (start + n) len = f := by
  rw [BitVec.extractLsb'_append_eq_of_le (Nat.le_add_left n start), Nat.add_sub_cancel, found]

/-- A header whose length fits its five bits is read as it was formed. -/
theorem FrameHeader.ofValue_value (h : FrameHeader) (fits : h.length < 32) : FrameHeader.ofValue h.value = h := by
  have guard : h.value.extractLsb' 30 2 = h.guard :=
    extractLsb'_append_above h.tag <| extractLsb'_append_above h.source <|
      extractLsb'_append_above h.destination <| extractLsb'_append_above (.ofNat 5 h.length)
        BitVec.extractLsb'_append_eq_left
  have cls : h.value.extractLsb' 27 3 = h.cls.bits :=
    extractLsb'_append_above h.tag <| extractLsb'_append_above h.source <|
      extractLsb'_append_above h.destination <| extractLsb'_append_above (.ofNat 5 h.length)
        BitVec.extractLsb'_append_eq_right
  have length : h.value.extractLsb' 22 5 = .ofNat 5 h.length :=
    extractLsb'_append_above h.tag <| extractLsb'_append_above h.source <|
      extractLsb'_append_above h.destination BitVec.extractLsb'_append_eq_right
  have destination : h.value.extractLsb' 16 6 = h.destination :=
    extractLsb'_append_above h.tag <| extractLsb'_append_above h.source BitVec.extractLsb'_append_eq_right
  have source : h.value.extractLsb' 10 6 = h.source :=
    extractLsb'_append_above h.tag BitVec.extractLsb'_append_eq_right
  have tag : h.value.extractLsb' 0 10 = h.tag := BitVec.extractLsb'_append_eq_right
  rw [FrameHeader.ofValue, guard, cls, length, destination, source, tag, FrameClass.ofBits_bits,
    BitVec.toNat_ofNat, Nat.mod_eq_of_lt fits]

/-! ## Frames that the part originates (R192) -/

/-- The checks of R155, all passed. -/
theorem checkFrame_accepts {b0 b1 b2 b3 : Byte} {rest : List Byte} {count : Nat} {h : FrameHeader}
    (header : FrameHeader.ofValue (headerValue b0 b1 b2 b3) = h) (guard : h.guard.getLsbD 1 ≠ h.guard.getLsbD 0)
    (short : h.length ≤ 24) (counted : count = 5 + 2 * h.length)
    (check : (b0 :: b1 :: b2 :: b3 :: rest).getLast? =
      some (checkByte ([b0, b1, b2, b3] ++ rest.take (2 * h.length)))) :
    checkFrame (b0 :: b1 :: b2 :: b3 :: rest) count =
      some { header := h, payload := wordsOf (rest.take (2 * h.length)), bytes := b0 :: b1 :: b2 :: b3 :: rest } := by
  subst header
  have measured : ¬ (Config.maxPayload < (FrameHeader.ofValue (headerValue b0 b1 b2 b3)).length ∨
      count ≠ 5 + 2 * (FrameHeader.ofValue (headerValue b0 b1 b2 b3)).length) :=
    not_or.mpr ⟨Nat.not_lt.mpr short, not_not.mpr counted⟩
  exact (if_neg guard).trans <| (if_neg measured).trans (if_pos check)

/-- A frame formed of a header that the checks accept, a payload of the length that it gives, and the check byte over
both passes them. -/
theorem checkFrame_formed {h : FrameHeader} {body : List Byte} (guard : h.guard.getLsbD 1 ≠ h.guard.getLsbD 0)
    (short : h.length ≤ 24) (counted : body.length = 2 * h.length) :
    checkFrame (h.bytes ++ body ++ [checkByte (h.bytes ++ body)]) (5 + 2 * h.length) =
      some { header := h, payload := wordsOf body, bytes := h.bytes ++ body ++ [checkByte (h.bytes ++ body)] } := by
  have header : FrameHeader.ofValue (headerValue (h.value.extractLsb' 24 8) (h.value.extractLsb' 16 8)
      (h.value.extractLsb' 8 8) (h.value.extractLsb' 0 8)) = h := by
    rw [headerValue_extractLsb', FrameHeader.ofValue_value h (by omega)]
  have taken (last : Byte) : (body ++ [last]).take (2 * h.length) = body := List.take_left' counted
  have accepted := checkFrame_accepts (rest := body ++ [checkByte (h.bytes ++ body)]) header guard short rfl
    (by rw [taken]; exact List.getLast?_concat (l := h.bytes ++ body))
  rwa [taken] at accepted

theorem length_originate (cls : FrameClass) (own destination : Addr) (tag : Tag) (payload : List Word) :
    (originate cls own destination tag payload).length = 5 + 2 * payload.length := by
  simp only [originate, FrameHeader.bytes, List.length_append, List.length_cons, List.length_nil,
    length_flatMap_wordBytes]
  omega

/-- Settles O7: header, payload and check byte of an originated frame are what the checks ask for. -/
theorem originatedFrameIsValid : Obligations.OriginatedFrameIsValid := by
  intro cls own destination tag payload short
  have accepted := checkFrame_formed (h := ⟨0b10#2, cls, payload.length, destination, own, tag⟩) (by simp) short
    (length_flatMap_wordBytes payload)
  rw [wordsOf_flatMap_wordBytes] at accepted
  rwa [length_originate]

end Sys2Proof.Proofs

/-! SUPPORT. The fields of a word read back (chapter 12, Table 12.4): what `field`, a bit and a pair of words give of a
word put together from fields side by side. -/

namespace Sys2Proof.Proofs

open Sys2Proof.Machine

/-! ## Fields read back -/

theorem field_eq_extractLsb' (w : Word) (lo width : Nat) : field w lo width = (w.extractLsb' lo width).toNat := by
  rw [field, BitVec.extractLsb'_toNat, Nat.shiftRight_eq_div_pow]

theorem field_or (v w : Word) (lo width : Nat) :
    field (v ||| w) lo width = field v lo width ||| field w lo width := by
  simp only [field_eq_extractLsb', BitVec.extractLsb'_or, BitVec.toNat_or]

theorem getLsbD_bitsAt (lo width value i : Nat) : (bitsAt lo width value).getLsbD i =
    (decide (i < 16) && decide (lo ≤ i) && decide (i < lo + width) && value.testBit (i - lo)) := by
  rw [bitsAt, BitVec.getLsbD_ofNat, Nat.testBit_mul_two_pow, Nat.testBit_mod_two_pow]
  rcases Nat.lt_or_ge i lo with below | above
  · simp [Nat.not_le.mpr below]
  · simp [above, Nat.sub_lt_iff_lt_add above, Nat.add_comm, Bool.and_assoc]

theorem field_bitsAt_same {lo width value : Nat} (inside : lo + width ≤ 16) (fits : value < 2 ^ width) :
    field (bitsAt lo width value) lo width = value := by
  have whole : value * 2 ^ lo < 2 ^ 16 := calc
    value * 2 ^ lo < 2 ^ width * 2 ^ lo := by gcongr
    _ = 2 ^ (lo + width) := by rw [← Nat.pow_add, Nat.add_comm]
    _ ≤ 2 ^ 16 := Nat.pow_le_pow_right (by decide) inside
  rw [field, bitsAt, Nat.mod_eq_of_lt fits, BitVec.toNat_ofNat, Nat.mod_eq_of_lt whole,
    Nat.mul_div_cancel _ (by positivity), Nat.mod_eq_of_lt fits]

theorem getLsbD_bitsAt_apart {lo width value i : Nat} (apart : i < lo ∨ lo + width ≤ i) :
    (bitsAt lo width value).getLsbD i = false := by
  rw [getLsbD_bitsAt]
  rcases apart with below | above
  · simp [Nat.not_le.mpr below]
  · simp [Nat.not_lt.mpr above]

theorem getLsbD_bitAt_same {lo : Nat} (inside : lo < 16) (b : Bool) : (bitAt lo b).getLsbD lo = b := by
  rw [bitAt, getLsbD_bitsAt, Nat.sub_self]
  cases b <;> simp [inside]

theorem getLsbD_bitAt_apart {lo i : Nat} (apart : i ≠ lo) (b : Bool) : (bitAt lo b).getLsbD i = false :=
  getLsbD_bitsAt_apart (by omega)

theorem field_bitsAt_apart {lo width lo' width' value : Nat} (apart : lo' + width' ≤ lo ∨ lo + width ≤ lo') :
    field (bitsAt lo width value) lo' width' = 0 := by
  have zeros : (bitsAt lo width value).extractLsb' lo' width' = 0#width' := by
    ext i hi
    rw [BitVec.getElem_extractLsb', getLsbD_bitsAt_apart (by omega), BitVec.getElem_zero]
  rw [field_eq_extractLsb', zeros, BitVec.toNat_zero]

theorem field_bitAt_apart {lo lo' width : Nat} (apart : lo' + width ≤ lo ∨ lo < lo') (b : Bool) :
    field (bitAt lo b) lo' width = 0 :=
  field_bitsAt_apart apart

/-! ## Whole words read back -/

theorem toNat_word {n : Nat} (fits : n < 65536) : (word n).toNat = n := by
  rw [word, BitVec.toNat_ofNat, Nat.mod_eq_of_lt fits]

theorem toInt_signedWord {n : Int} (low : -32768 ≤ n) (high : n < 32768) : (signedWord n).toInt = n := by
  rw [signedWord, BitVec.toInt_ofInt, Int.bmod_eq_of_le (by omega) (by omega)]

theorem pairNat_ofNat {n : Nat} (fits : n < 65536 * 65536) :
    pairNat (BitVec.ofNat 16 (n / 65536)) (BitVec.ofNat 16 n) = n := by
  rw [pairNat, BitVec.toNat_ofNat, BitVec.toNat_ofNat]
  omega

/-! ## Table entries written back as read (Table 12.4) -/

theorem SourceFields.ofWords_bits {node item kind slot maxAge : Nat} (nodeFits : node < 64) (itemFits : item < 16)
    (kindFits : kind < 4) (slotFits : slot < 8) (maxAgeFits : maxAge < 16) :
    SourceFields.ofWords (bitAt 15 true ||| bitsAt 8 6 node ||| bitsAt 0 4 item)
        (bitsAt 12 2 kind ||| bitsAt 8 3 slot ||| bitsAt 0 4 maxAge) =
      { valid := true, node := node, item := item, kind := kind, slot := slot, maxAge := maxAge } := by
  simp (disch := omega) only [SourceFields.ofWords, BitVec.getLsbD_or, getLsbD_bitAt_same, Bool.true_or, field_or,
    field_bitsAt_same, field_bitsAt_apart, field_bitAt_apart, Nat.zero_or, Nat.or_zero]

/-- The kind and slot that a valid entry is read with name the target that it sends its item to (R3). -/
theorem sourceWords_some (e : SourceEntry) : ∃ kind slot, kind < 4 ∧ slot < 8 ∧
    sourceWords (some e) = [bitAt 15 true ||| bitsAt 8 6 e.node ||| bitsAt 0 4 e.item,
      bitsAt 12 2 kind ||| bitsAt 8 3 slot ||| bitsAt 0 4 e.maxAge] ∧
    SourceFields.target ⟨true, e.node, e.item, kind, slot, e.maxAge⟩ = some e.target := by
  obtain ⟨node, item, target, maxAge⟩ := e
  cases target with
  | pulse n => exact ⟨1, n, by decide, n.isLt, rfl, by simp [SourceFields.target]⟩
  | gap n => exact ⟨2, n, by decide, n.isLt, rfl, by simp [SourceFields.target]⟩
  | beacon n =>
    exact ⟨3, n, by decide, by omega, rfl, by simp [SourceFields.target, Nat.le_of_lt_succ n.isLt]⟩

theorem SourceFields.ofWords_sourceWords (e : SourceEntry) (node : e.node < 64) (item : e.item < 16)
    (maxAge : e.maxAge < 16) :
    ∃ w0 w1, sourceWords (some e) = [w0, w1] ∧
      (SourceFields.ofWords w0 w1).valid = true ∧ (SourceFields.ofWords w0 w1).node = e.node ∧
      (SourceFields.ofWords w0 w1).item = e.item ∧
      (SourceFields.ofWords w0 w1).target = some e.target ∧
      (SourceFields.ofWords w0 w1).maxAge = e.maxAge := by
  obtain ⟨kind, slot, kindFits, slotFits, words, target⟩ := sourceWords_some e
  refine ⟨_, _, words, ?_⟩
  rw [SourceFields.ofWords_bits node item kindFits slotFits maxAge]
  exact ⟨rfl, rfl, rfl, target, rfl⟩

/-- The slot and the odometry indicator of an axle entry's second word (Table 12.4). -/
theorem axleWord_bits (slot : Fin 8) (odometry : Bool) :
    field (bitAt 15 odometry ||| bitsAt 0 4 slot.val) 0 4 = slot.val ∧
      (bitAt 15 odometry ||| bitsAt 0 4 slot.val).getLsbD 15 = odometry := by
  constructor
  · simp (disch := omega) only [field_or, field_bitsAt_same, field_bitAt_apart, Nat.zero_or]
  · simp (disch := omega) only [BitVec.getLsbD_or, getLsbD_bitAt_same, getLsbD_bitsAt_apart, Bool.or_false]

theorem BogieEntry.ofWords_bogieWords (e : BogieEntry) (actuator : e.actuator < 64) (pivot : e.pivot < 65536)
    (semi : e.semi < 65536) :
    ∃ w0 w1 w2, bogieWords e = [w0, w1, w2] ∧ BogieEntry.ofWords w0 w1 w2 = e := by
  refine ⟨_, _, _, rfl, ?_⟩
  simp (disch := omega) only [BogieEntry.ofWords, toNat_word, field_or, field_bitsAt_same, field_bitAt_apart,
    BitVec.getLsbD_or, getLsbD_bitAt_same, getLsbD_bitsAt_apart, getLsbD_bitAt_apart, Nat.zero_or, Bool.or_false,
    Bool.false_or]

theorem ChannelEntry.ofWords_channelWords (e : ChannelEntry) (fits : e.InRange) :
    ChannelEntry.ofWords (channelWords e) = some e := by
  obtain ⟨gain, trimLow, trimHigh, codes, codeMax, slew, -, fallback, thetaMax, trackLimit, -, trackCount⟩ := fits
  rw [channelWords, wordPair_ofNat]
  simp (disch := omega) only [List.cons_append, List.nil_append, ChannelEntry.ofWords, toNat_word, toInt_signedWord,
    pairNat_ofNat]

theorem BeaconFields.ofWords_beaconWords (e : BeaconEntry) (ident : e.ident < 4096) (segment : e.segment < 65536)
    (offset : e.offset < 65536) :
    ∃ w0 w1 w2, beaconWords (some e) = [w0, w1, w2] ∧
      BeaconFields.ofWords w0 w1 w2 = { valid := true, entry := e } := by
  refine ⟨_, _, _, rfl, ?_⟩
  simp (disch := omega) only [BeaconFields.ofWords, toNat_word, field_or, field_bitsAt_same, field_bitAt_apart,
    BitVec.getLsbD_or, getLsbD_bitAt_same, Nat.zero_or, Bool.true_or]

theorem vector_of_two {α : Type} (v : Vector α 2) : #v[v[0], v[1]] = v := by
  ext i inside
  interval_cases i <;> rfl

theorem ParamFields.ofWords_paramWords (p : ParamEntry) (fits : p.InRange) :
    (ParamFields.ofWords (paramWords p)).map paramEntry = some p := by
  obtain ⟨-, period, -, timeout, standstill, offsets, -, window, -, drift, -, threshold1, threshold2, threshold3,
    horizon, fallbackStep, -, echoTimeout⟩ := fits
  have offset0 : p.readerOffset[0] ≤ 40000 := offsets 0
  have offset1 : p.readerOffset[1] ≤ 40000 := offsets 1
  simp (disch := omega) only [ParamFields.ofWords, paramWords, Option.map_some, paramEntry, toNat_word,
    getLsbD_bitAt_same, field_or, field_bitsAt_same, field_bitsAt_apart, Nat.zero_or, Nat.or_zero, Fin.ofNat_eq_cast,
    Fin.cast_val_eq_self, vector_of_two]

/-- Settles O45: every field of an entry in range fits the bits that Table 12.4 gives it, table by table. -/
theorem entriesReadAsWritten : Obligations.EntriesReadAsWritten := by
  refine ⟨SourceFields.ofWords_sourceWords, ?axle, BogieEntry.ofWords_bogieWords,
    ChannelEntry.ofWords_channelWords, ?gain, BeaconFields.ofWords_beaconWords, ParamFields.ofWords_paramWords⟩
  case axle => exact fun e umPerPulse => ⟨_, _, rfl, toNat_word umPerPulse, axleWord_bits e.slot e.odometry⟩
  case gain => exact fun e lookAheadTime gain => ⟨_, _, rfl, toNat_word lookAheadTime, toNat_word gain⟩

end Sys2Proof.Proofs
